-- ==== Sys2Proof/Word.lean ====
section
/-! DEFINITION. The word types of the part: bytes, block numbers, stream ids, serials, samples and times. -/

namespace Sys2Proof

/-- One byte of a frame or message (R210: every field is a whole number of bytes). -/
abbrev Byte := BitVec 8

/-- A block number, counted modulo 65536 (00_scope, Block numbers and distance). -/
abbrev BlockNo := BitVec 16

/-- A stage stream id or sync stream id, 24 bits (00_scope, Indices). -/
abbrev StreamId := BitVec 24

/-- The serial of a belt pack, 32 bits (R158). -/
abbrev Serial := BitVec 32

/-- The flags of the sixteen mixes, the flag of mix m in bit m (R210, mix mask). -/
abbrev MixMask := BitVec 16

/-- A sample word or any value of the mix computation, computed exactly (R108). -/
abbrev Sample := Int

/-- A moment on the part's own reference, in units of 1/12,000,000 s (log 2). -/
abbrev Time := Nat

end Sys2Proof
end

