-- ==== Sys2Proof/Syntax.lean ====
section
/-! DEFINITION. The commands of the part: one constructor for each row of `spec/opcode_table.json`.

A request row carries the tag byte and the bytes that follow it in the body, as the frame brought them (R211, R212); its
kind byte is the row's. A stage frame row carries the arrival time and the bytes of the frame (R214). The close of an
upstream window carries what was heard in it: nothing, or the bytes of a signal (R215). -/

namespace Sys2Proof

/-- A command: what reaches the part from outside, or an event that the table lists. -/
inductive Instr where
  /-- POWER_ON (R18). -/
  | powerOn
  /-- LINK_BYTE_RECEIVED (R1). -/
  | linkByteReceived (time : Time) (byte : Byte)
  /-- INTER_BYTE_GAP_EXPIRY (R2). -/
  | interByteGapExpiry
  /-- UNKNOWN_KIND_REQUEST (R3). -/
  | unknownKindRequest (kind tag : Byte) (fields : List Byte)
  /-- TRANSMIT_END (R12). -/
  | transmitEnd
  /-- IDENT (R15). -/
  | ident (tag : Byte) (fields : List Byte)
  /-- STATUS (R16). -/
  | status (tag : Byte) (fields : List Byte)
  /-- RESET (R17). -/
  | reset (tag : Byte) (fields : List Byte)
  /-- NOTICE_SET (R14). -/
  | noticeSet (tag : Byte) (fields : List Byte)
  /-- FORMAT (R21). -/
  | format (tag : Byte) (fields : List Byte)
  /-- START (R22). -/
  | start (tag : Byte) (fields : List Byte)
  /-- STOP (R23). -/
  | stop (tag : Byte) (fields : List Byte)
  /-- SYNC_FRAME (R39). -/
  | syncFrame (time : Time) (frame : List Byte)
  /-- AUDIO_FRAME (R46). -/
  | audioFrame (time : Time) (frame : List Byte)
  /-- MALFORMED_STAGE_FRAME (R38). -/
  | malformedStageFrame (time : Time) (frame : List Byte)
  /-- SYNC_WATCH_EXPIRY (R31). -/
  | syncWatchExpiry
  /-- HOLDOVER_TIMER_EXPIRY (R32). -/
  | holdoverTimerExpiry
  /-- BIND_STREAM (R41). -/
  | bindStream (tag : Byte) (fields : List Byte)
  /-- UNBIND_STREAM (R42). -/
  | unbindStream (tag : Byte) (fields : List Byte)
  /-- FLUSH_STREAM (R43). -/
  | flushStream (tag : Byte) (fields : List Byte)
  /-- SET_STREAM (R44). -/
  | setStream (tag : Byte) (fields : List Byte)
  /-- QUERY_STREAM (R45). -/
  | queryStream (tag : Byte) (fields : List Byte)
  /-- BIND_SLOT (R63). -/
  | bindSlot (tag : Byte) (fields : List Byte)
  /-- SET_SLOT (R64). -/
  | setSlot (tag : Byte) (fields : List Byte)
  /-- UNBIND_SLOT (R65). -/
  | unbindSlot (tag : Byte) (fields : List Byte)
  /-- QUERY_SLOT (R66). -/
  | querySlot (tag : Byte) (fields : List Byte)
  /-- MIX_SET_LIVE (R84). -/
  | mixSetLive (tag : Byte) (fields : List Byte)
  /-- MIX_SET_CUE (R125). -/
  | mixSetCue (tag : Byte) (fields : List Byte)
  /-- ADD_SEND_LIVE (R89). -/
  | addSendLive (tag : Byte) (fields : List Byte)
  /-- ADD_SEND_CUE (R126). -/
  | addSendCue (tag : Byte) (fields : List Byte)
  /-- SET_SEND_LIVE (R92). -/
  | setSendLive (tag : Byte) (fields : List Byte)
  /-- SET_SEND_CUE (R126). -/
  | setSendCue (tag : Byte) (fields : List Byte)
  /-- REMOVE_SEND_LIVE (R93). -/
  | removeSendLive (tag : Byte) (fields : List Byte)
  /-- REMOVE_SEND_CUE (R126). -/
  | removeSendCue (tag : Byte) (fields : List Byte)
  /-- SET_TRIM (R96). -/
  | setTrim (tag : Byte) (fields : List Byte)
  /-- QUERY_MIX (R98). -/
  | queryMix (tag : Byte) (fields : List Byte)
  /-- OPEN_CUE (R123). -/
  | openCue (tag : Byte) (fields : List Byte)
  /-- TAKE_LIVE (R127). -/
  | takeLive (tag : Byte) (fields : List Byte)
  /-- STORE_CUE (R128). -/
  | storeCue (tag : Byte) (fields : List Byte)
  /-- CLOSE_CUE (R129). -/
  | closeCue (tag : Byte) (fields : List Byte)
  /-- APPLY_CUE (R131). -/
  | applyCue (tag : Byte) (fields : List Byte)
  /-- QUERY_CUE (R130). -/
  | queryCue (tag : Byte) (fields : List Byte)
  /-- QUERY_SCENE (R130). -/
  | queryScene (tag : Byte) (fields : List Byte)
  /-- ASSIGN_PACK (R153). -/
  | assignPack (tag : Byte) (fields : List Byte)
  /-- REMOVE_PACK (R154). -/
  | removePack (tag : Byte) (fields : List Byte)
  /-- PACK_TEXT (R155). -/
  | packText (tag : Byte) (fields : List Byte)
  /-- QUERY_PACK (R181). -/
  | queryPack (tag : Byte) (fields : List Byte)
  /-- ANNOUNCE_WINDOW_CLOSE (R168). -/
  | announceWindowClose (heard : Option (List Byte))
  /-- GRANTED_WINDOW_CLOSE (R160). -/
  | grantedWindowClose (heard : Option (List Byte))
  /-- UPSTREAM_SIGNAL_AFTER_IDLE (R160). -/
  | upstreamSignalAfterIdle
  /-- CLICK_SET (R191). -/
  | clickSet (tag : Byte) (fields : List Byte)
  /-- CLICK_START (R192). -/
  | clickStart (tag : Byte) (fields : List Byte)
  /-- CLICK_STOP (R193). -/
  | clickStop (tag : Byte) (fields : List Byte)
  /-- METER_SET (R198). -/
  | meterSet (tag : Byte) (fields : List Byte)
  /-- QUERY_COUNTERS (R207). -/
  | queryCounters (tag : Byte) (fields : List Byte)
  deriving DecidableEq, Repr

end Sys2Proof
end

