-- ==== Sys2Proof/Decode.lean ====
section
/-! DEFINITION. From bytes to commands and back: the kinds of R212, the body of a control link frame (R211), and the frame
around a body (R211). The opcode table gives no row any bits. -/

namespace Sys2Proof

/-- The kind byte of a request row (R212); none for a row that is no request. -/
def kindOf : Instr → Option Byte
  | .ident _ _ => some 0x01
  | .status _ _ => some 0x02
  | .reset _ _ => some 0x03
  | .noticeSet _ _ => some 0x04
  | .format _ _ => some 0x10
  | .start _ _ => some 0x11
  | .stop _ _ => some 0x12
  | .bindStream _ _ => some 0x20
  | .unbindStream _ _ => some 0x21
  | .flushStream _ _ => some 0x22
  | .setStream _ _ => some 0x23
  | .queryStream _ _ => some 0x24
  | .bindSlot _ _ => some 0x28
  | .setSlot _ _ => some 0x29
  | .unbindSlot _ _ => some 0x2A
  | .querySlot _ _ => some 0x2B
  | .mixSetLive _ _ => some 0x30
  | .mixSetCue _ _ => some 0x30
  | .addSendLive _ _ => some 0x31
  | .addSendCue _ _ => some 0x31
  | .setSendLive _ _ => some 0x32
  | .setSendCue _ _ => some 0x32
  | .removeSendLive _ _ => some 0x33
  | .removeSendCue _ _ => some 0x33
  | .setTrim _ _ => some 0x34
  | .queryMix _ _ => some 0x35
  | .openCue _ _ => some 0x40
  | .takeLive _ _ => some 0x41
  | .storeCue _ _ => some 0x42
  | .closeCue _ _ => some 0x43
  | .applyCue _ _ => some 0x44
  | .queryCue _ _ => some 0x45
  | .queryScene _ _ => some 0x46
  | .assignPack _ _ => some 0x50
  | .removePack _ _ => some 0x51
  | .packText _ _ => some 0x52
  | .queryPack _ _ => some 0x53
  | .clickSet _ _ => some 0x58
  | .clickStart _ _ => some 0x59
  | .clickStop _ _ => some 0x5A
  | .meterSet _ _ => some 0x60
  | .queryCounters _ _ => some 0x61
  | .unknownKindRequest kind _ _ => some kind
  | .powerOn => none
  | .linkByteReceived _ _ => none
  | .interByteGapExpiry => none
  | .transmitEnd => none
  | .syncFrame _ _ => none
  | .audioFrame _ _ => none
  | .malformedStageFrame _ _ => none
  | .syncWatchExpiry => none
  | .holdoverTimerExpiry => none
  | .announceWindowClose _ => none
  | .grantedWindowClose _ => none
  | .upstreamSignalAfterIdle => none

/-- Whether the first field of an edit request is the target CUE (R4, R210). -/
def targetsCue (fields : List Byte) : Bool := fields.head? == some 1

/-- The row that a complete frame with this kind, tag and rest of the body is a command of (R212). An edit request with
target CUE is the CUE row, any other the LIVE row. -/
def requestOf (kind tag : Byte) (fields : List Byte) : Instr :=
  match kind.toNat with
  | 0x01 => .ident tag fields
  | 0x02 => .status tag fields
  | 0x03 => .reset tag fields
  | 0x04 => .noticeSet tag fields
  | 0x10 => .format tag fields
  | 0x11 => .start tag fields
  | 0x12 => .stop tag fields
  | 0x20 => .bindStream tag fields
  | 0x21 => .unbindStream tag fields
  | 0x22 => .flushStream tag fields
  | 0x23 => .setStream tag fields
  | 0x24 => .queryStream tag fields
  | 0x28 => .bindSlot tag fields
  | 0x29 => .setSlot tag fields
  | 0x2A => .unbindSlot tag fields
  | 0x2B => .querySlot tag fields
  | 0x30 => if targetsCue fields then .mixSetCue tag fields else .mixSetLive tag fields
  | 0x31 => if targetsCue fields then .addSendCue tag fields else .addSendLive tag fields
  | 0x32 => if targetsCue fields then .setSendCue tag fields else .setSendLive tag fields
  | 0x33 => if targetsCue fields then .removeSendCue tag fields else .removeSendLive tag fields
  | 0x34 => .setTrim tag fields
  | 0x35 => .queryMix tag fields
  | 0x40 => .openCue tag fields
  | 0x41 => .takeLive tag fields
  | 0x42 => .storeCue tag fields
  | 0x43 => .closeCue tag fields
  | 0x44 => .applyCue tag fields
  | 0x45 => .queryCue tag fields
  | 0x46 => .queryScene tag fields
  | 0x50 => .assignPack tag fields
  | 0x51 => .removePack tag fields
  | 0x52 => .packText tag fields
  | 0x53 => .queryPack tag fields
  | 0x58 => .clickSet tag fields
  | 0x59 => .clickStart tag fields
  | 0x5A => .clickStop tag fields
  | 0x60 => .meterSet tag fields
  | 0x61 => .queryCounters tag fields
  | _ => .unknownKindRequest kind tag fields

/-- Whether the kind byte names a request kind of the part (R3 test 2, R212). -/
def isRequestKind (kind : Byte) : Bool :=
  [0x01, 0x02, 0x03, 0x04, 0x10, 0x11, 0x12, 0x20, 0x21, 0x22, 0x23, 0x24, 0x28, 0x29, 0x2A, 0x2B, 0x30, 0x31, 0x32, 0x33, 0x34, 0x35, 0x40, 0x41, 0x42, 0x43, 0x44, 0x45, 0x46, 0x50, 0x51, 0x52, 0x53, 0x58, 0x59, 0x5A, 0x60, 0x61].contains kind.toNat

/-- The command of a complete body. A body has a kind and a tag, since its length is at least 3 (R1). -/
def decodeBody : List Byte → Option Instr
  | kind :: tag :: fields => some (requestOf kind tag fields)
  | _ => none

/-- The tag and the bytes after it of a request row. -/
def tagAndFields : Instr → Option (Byte × List Byte)
  | .ident tag fields => some (tag, fields)
  | .status tag fields => some (tag, fields)
  | .reset tag fields => some (tag, fields)
  | .noticeSet tag fields => some (tag, fields)
  | .format tag fields => some (tag, fields)
  | .start tag fields => some (tag, fields)
  | .stop tag fields => some (tag, fields)
  | .bindStream tag fields => some (tag, fields)
  | .unbindStream tag fields => some (tag, fields)
  | .flushStream tag fields => some (tag, fields)
  | .setStream tag fields => some (tag, fields)
  | .queryStream tag fields => some (tag, fields)
  | .bindSlot tag fields => some (tag, fields)
  | .setSlot tag fields => some (tag, fields)
  | .unbindSlot tag fields => some (tag, fields)
  | .querySlot tag fields => some (tag, fields)
  | .mixSetLive tag fields => some (tag, fields)
  | .mixSetCue tag fields => some (tag, fields)
  | .addSendLive tag fields => some (tag, fields)
  | .addSendCue tag fields => some (tag, fields)
  | .setSendLive tag fields => some (tag, fields)
  | .setSendCue tag fields => some (tag, fields)
  | .removeSendLive tag fields => some (tag, fields)
  | .removeSendCue tag fields => some (tag, fields)
  | .setTrim tag fields => some (tag, fields)
  | .queryMix tag fields => some (tag, fields)
  | .openCue tag fields => some (tag, fields)
  | .takeLive tag fields => some (tag, fields)
  | .storeCue tag fields => some (tag, fields)
  | .closeCue tag fields => some (tag, fields)
  | .applyCue tag fields => some (tag, fields)
  | .queryCue tag fields => some (tag, fields)
  | .queryScene tag fields => some (tag, fields)
  | .assignPack tag fields => some (tag, fields)
  | .removePack tag fields => some (tag, fields)
  | .packText tag fields => some (tag, fields)
  | .queryPack tag fields => some (tag, fields)
  | .clickSet tag fields => some (tag, fields)
  | .clickStart tag fields => some (tag, fields)
  | .clickStop tag fields => some (tag, fields)
  | .meterSet tag fields => some (tag, fields)
  | .queryCounters tag fields => some (tag, fields)
  | .unknownKindRequest _ tag fields => some (tag, fields)
  | .powerOn => none
  | .linkByteReceived _ _ => none
  | .interByteGapExpiry => none
  | .transmitEnd => none
  | .syncFrame _ _ => none
  | .audioFrame _ _ => none
  | .malformedStageFrame _ _ => none
  | .syncWatchExpiry => none
  | .holdoverTimerExpiry => none
  | .announceWindowClose _ => none
  | .grantedWindowClose _ => none
  | .upstreamSignalAfterIdle => none

/-- The body that brings a request row: kind, tag, fields (R211). -/
def encodeBody (i : Instr) : Option (List Byte) :=
  match kindOf i, tagAndFields i with
  | some kind, some (tag, fields) => some (kind :: tag :: fields)
  | _, _ => none

/-- The check byte of a control link frame: it makes the sum of length, body and check a multiple of 256 (R211). -/
def linkCheck (body : List Byte) : Byte :=
  BitVec.ofNat 8 (256 - (body.length + (body.map BitVec.toNat).sum) % 256)

/-- The bytes of a control link frame: START, length, body, check (R211). -/
def linkFrame (body : List Byte) : List Byte :=
  0xC3 :: BitVec.ofNat 8 body.length :: body ++ [linkCheck body]

/-- The command that a word of the opcode table spells. The table gives no row any bits, so no word spells one (log 22). -/
def decodeTableWord (_nbits _w : Nat) : Option Instr := none

end Sys2Proof
end

