-- ==== Sys2Proof/Machine/Bytes.lean ====
section
/-! DEFINITION. Numbers as bytes: the most significant byte comes first on all three ports (R210). -/

namespace Sys2Proof.Machine

/-- An unsigned field of two, three or four bytes (R210). -/
def nat16 (a b : Byte) : Nat := a.toNat * 256 + b.toNat
def nat24 (a b c : Byte) : Nat := nat16 a b * 256 + c.toNat
def nat32 (a b c d : Byte) : Nat := nat24 a b c * 256 + d.toNat

/-- A sample word: three bytes, two's complement (R210). -/
def sample24 (a b c : Byte) : Sample := (BitVec.ofNat 24 (nat24 a b c)).toInt

/-- A number in one, two, three or four bytes. -/
def be1 (n : Nat) : List Byte := [BitVec.ofNat 8 n]
def be2 (n : Nat) : List Byte := be1 (n / 256) ++ be1 n
def be3 (n : Nat) : List Byte := be1 (n / 65536) ++ be2 n
def be4 (n : Nat) : List Byte := be2 (n / 65536) ++ be2 n

/-- A signed number in one or two bytes, and a sample word in three, two's complement (R210). -/
def signed1 (i : Int) : List Byte := be1 (BitVec.ofInt 8 i).toNat
def signed2 (i : Int) : List Byte := be2 (BitVec.ofInt 16 i).toNat
def signed3 (i : Int) : List Byte := be3 (BitVec.ofInt 24 i).toNat

/-- A yes-or-no byte (R211), also of the enumerations coded 0 and 1 (R210) and, as the model's reading, of clear and set
(log 28). -/
def yesNo (b : Bool) : List Byte := be1 (if b then 1 else 0)

/-- An absence flag and the field it governs, which holds 0 when absent (R210). -/
def optional (width : Nat) (encode : α → List Byte) : Option α → List Byte
  | some v => be1 0 ++ encode v
  | none => be1 1 ++ List.replicate width 0

/-- The sum of the bytes. -/
def byteSum (bytes : List Byte) : Nat := (bytes.map BitVec.toNat).sum

/-- The check word of stage frames and pack line messages: the sum, modulo 65536, of the bytes before it (R214, R215). -/
def checkWord (bytes : List Byte) : Nat := byteSum bytes % 65536

/-- Whether the last two bytes of a frame carry the check word of the bytes before them (R214). -/
def checkHolds (frame : List Byte) : Bool :=
  frame.drop (frame.length - 2) == be2 (checkWord (frame.take (frame.length - 2)))

/-- The byte at an offset of a frame. -/
def byteAt (frame : List Byte) (i : Nat) : Byte := frame.getD i 0

end Sys2Proof.Machine
end

