-- ==== Sys2Proof/Config.lean ====
section
/-! DEFINITION. The fixed numbers of the part, and the values that the manual leaves open (opaque: nothing in Lean can
evaluate them). -/

namespace Sys2Proof.Config

/-- Entries of the reply queue (R10). -/
abbrev replyCap : Nat := 16
/-- Entries in use from which the hold line is asserted (R11). -/
abbrev holdLevel : Nat := 12
/-- Notices of the notice queue (R13). -/
abbrev noticeCap : Nat := 64
/-- Entries of the deferred list (R8). -/
abbrev deferredCap : Nat := 8
/-- Pages of the frame ring, and bytes of a page (R54). -/
abbrev ringPages : Nat := 384
abbrev pageBytes : Nat := 64
/-- Bytes of the page storage. -/
abbrev ringBytes : Nat := ringPages * pageBytes
/-- Entries of the ring index (R52). -/
abbrev ringIndexCap : Nat := 64
/-- Records of the send pool (R77), and records of one mix (R78). -/
abbrev poolCap : Nat := 256
abbrev mixSendCap : Nat := 24
/-- Entries of the pack message queue (R145). -/
abbrev packQueueCap : Nat := 32
/-- The greatest age of a queued pack message (R149). -/
abbrev maxAge : Nat := 256
/-- The top of a 32-bit counter (R209), of a slot miss counter and of a spell count (R62, R35). -/
abbrev top32 : Nat := 4294967295
abbrev top16 : Nat := 65535
/-- Unity in Q16 (00_scope, Samples and gains). -/
abbrev unity : Nat := 65536
/-- More than 2 ms between two bytes of a frame discards it (R2), in time units (log 2). -/
abbrev gapLimit : Nat := 24000
/-- Amplitude and length of a click burst (R185). -/
abbrev clickAmplitude : Int := 2097152
abbrev burstLength : Nat := 256
/-- The mantissa table T of the level codes (R79). -/
def mantissa : Nat → Nat
  | 0 => 65536
  | 1 => 71468
  | 2 => 77935
  | 3 => 84990
  | 4 => 92682
  | 5 => 101070
  | 6 => 110218
  | _ => 120194

/-- The bytes of replies and notices whose coding no rule states (log 8). -/
inductive Unstated where
  /-- UNBOUND and BOUND, in QUERY_STREAM and QUERY_SLOT. -/
  | recordUnbound | recordBound
  /-- EMPTY and STORED, in QUERY_SCENE. -/
  | sceneEmpty | sceneStored
  /-- URGENT and OTHER, the last class in QUERY_PACK at address 0. -/
  | classUrgent | classOther
  /-- The saved trim that SET_TRIM reports while dim is OFF. -/
  | savedTrimAbsent
  /-- Position and accent flag of a click report while no burst is in progress. -/
  | burstPositionAbsent | burstAccentAbsent
  /-- The block number of a last apply record made IMMEDIATE: its two bytes. -/
  | immediateBlockHigh | immediateBlockLow
  /-- The busy field of a PACK notice whose event gives it no value. -/
  | packNoticeBusy
  deriving DecidableEq, Repr

/-- Free value: the byte that stands where no rule states one (log 8). -/
opaque unstatedByte : Unstated → Byte

/-- Free value: the n-th choice among notices that may stand in either order (R206; log 7, log 23). -/
opaque noticeChoice : Nat → Nat

end Sys2Proof.Config
end

