-- ==== Sys2Proof/Machine/Table.lean ====
section
/-! DEFINITION. A table of n records: a list together with the proof of its length, so that every index below n reads a
record and no operation changes how many there are. -/

namespace Sys2Proof.Machine

/-- n records of type α, in index order. -/
structure Table (α : Type) (n : Nat) where
  list : List α
  len : list.length = n
  deriving DecidableEq, Repr

variable {α β γ : Type} {n : Nat}

/-- The record at index i. -/
def Table.get (t : Table α n) (i : Fin n) : α := t.list[i.val]'(by rw [t.len]; exact i.isLt)

/-- The table with the record at index i replaced. -/
def Table.set (t : Table α n) (i : Fin n) (v : α) : Table α n := ⟨t.list.set i.val v, by rw [List.length_set, t.len]⟩

/-- The table with f applied to the record at index i. -/
def Table.modify (t : Table α n) (i : Fin n) (f : α → α) : Table α n := t.set i (f (t.get i))

/-- n equal records. -/
def Table.fill (v : α) : Table α n := ⟨List.replicate n v, by simp⟩

/-- The table whose record at index i is f i. -/
def Table.tabulate (f : Fin n → α) : Table α n := ⟨(List.finRange n).map f, by simp⟩

/-- f applied to every record. -/
def Table.map (f : α → β) (t : Table α n) : Table β n := ⟨t.list.map f, by rw [List.length_map, t.len]⟩

/-- f applied to the records of two tables at the same index. -/
def Table.zipWith (f : α → β → γ) (t : Table α n) (u : Table β n) : Table γ n :=
  ⟨List.zipWith f t.list u.list, by simp [t.len, u.len]⟩

/-- The indices of the records, in order, that satisfy p. -/
def Table.where? (t : Table α n) (p : α → Bool) : List (Fin n) := (List.finRange n).filter fun i => p (t.get i)

/-- The lowest index whose record satisfies p. -/
def Table.find? (t : Table α n) (p : α → Bool) : Option (Fin n) := (t.where? p).head?

/-- The number of records that satisfy p. -/
def Table.count (t : Table α n) (p : α → Bool) : Nat := (t.list.filter p).length

end Sys2Proof.Machine
end

