-- ==== Sys2Proof/Machine/State.lean ====
section
/-! DEFINITION. The state of the part, block by block, as plain data, and its values at power-on. -/

namespace Sys2Proof.Machine

/-! ## Faults and refusals -/

/-- The spec names no condition that stops the part: every wrong input is answered, counted or ignored (INVENTORY,
Faults). No command raises a fault, so there is none to be safe or unsafe. -/
inductive Fault where
  deriving DecidableEq, Repr

/-- Why a command may have no meaning. -/
inductive Refusal where
  /-- Raised by an arm of `exec` whose command has no meaning yet; safe (the model stops). No arm raises it. -/
  | notModelled (mnemonic : String)
  deriving DecidableEq, Repr

/-! ## Control link (01) -/

/-- The receive states of frame assembly (R1). -/
inductive RxPhase where
  | hunt | length | body | check
  deriving DecidableEq, Repr

/-- Frame assembly (R1, R2). -/
structure Receiver where
  phase : RxPhase
  declared : Nat
  body : List Byte
  sum : Nat
  lastAt : Time
  deriving DecidableEq, Repr

/-- Message kinds 0x80..0x85 (R5, R211). -/
inductive ReplyCode where
  | done | data | retry | defer | fail | complete
  deriving DecidableEq, Repr

/-- The error codes of R6, in their order. -/
inductive ErrorCode where
  | unknownKind | badLength | badIndex | badValue | wrongState | stopping | cueOpen | cueClosed | cueBusy | tagInUse
  | streamInUse | slotsAttached | tableFull | notBound | channelRange | slotInUse | mixFull | poolFull | sendExists
  | noSend | ownerTaken | packUnknown
  deriving DecidableEq, Repr

/-- The reasons of a RETRY (R5). -/
inductive RetryReason where
  | deferFull | packQueueFull
  deriving DecidableEq, Repr

/-- A queued reply or completion: its body is code, tag, request kind and fields (R211). -/
structure Reply where
  code : ReplyCode
  tag : Byte
  kind : Byte
  fields : List Byte
  deriving DecidableEq, Repr

/-- The modes of an apply (R131). -/
inductive ApplyMode where
  | glide | cut
  deriving DecidableEq, Repr

/-- The requests that defer, with their arguments (R8). -/
inductive DeferredJob where
  | stop
  | apply (bank : Fin 4) (mode : ApplyMode) (mask : MixMask)
  deriving DecidableEq, Repr

/-- An entry of the deferred list (R8). It holds one reservation of the reply queue. -/
structure Deferred where
  tag : Byte
  job : DeferredJob
  deriving DecidableEq, Repr

/-- What the transmitter sends: nothing, the oldest reply, or the oldest notice (R12). -/
inductive Transmitter where
  | idle | reply | notice
  deriving DecidableEq, Repr

/-- The settings of the classes LIMIT, SLOT, RING and CLOCK (R14). -/
inductive Sensitivity where
  | off | enter | leave | both | enterHeld
  deriving DecidableEq, Repr

/-- The events of notices (R13). -/
inductive NoticeEvent where
  | enter | leave | held | joined | lost | rejoin | joinFailed | refusedJoin | announceStorm | report
  deriving DecidableEq, Repr

/-- How a slot obtained its samples (R62). -/
inductive SlotStatus where
  | none | fresh | damaged | repeated | missing
  deriving DecidableEq, Repr

/-- The tail of the ring as a RING notice reports it (R59). -/
inductive TailState where
  | empty | waiting | consumed
  deriving DecidableEq, Repr

/-- The cause of a boundary, or of a spell (R20, R35). -/
inductive SpellCause where
  | holdover | relock
  deriving DecidableEq, Repr

/-- The spell record (R35). -/
structure Spell where
  cause : SpellCause
  holdovers : Nat
  jumps : Nat
  lastJump : Option Int
  deriving DecidableEq, Repr

/-- The roles of a pack (R158). -/
inductive Role where
  | owner | listener
  deriving DecidableEq, Repr

/-- Why a HELLO is refused (R171). -/
inductive JoinRefusal where
  | tableFull | queueFull
  deriving DecidableEq, Repr

/-- The class fields of a notice; they also name its class (R13, R213). -/
inductive NoticeInfo where
  | limit (gain peak ceilingCode ceiling : Nat)
  | slot (status : SlotStatus) (stream channel misses : Nat)
  | ring (rejected pages entries waiting : Nat) (tail : TailState)
  | clock (spell : Option Spell)
  | pack (serial : Serial) (mix : Option (Fin 16)) (role : Option Role) (busy : Option Bool) (reason : Option JoinRefusal)
  | meterMixes (sequence interval : Nat) (items : List (Fin 16 × Nat × Nat))
  | meterSlots (sequence interval : Nat) (items : List (Fin 48 × Nat))
  deriving DecidableEq, Repr

/-- A notice (R13): event, subject, M when it was raised, and its class fields. -/
structure Notice where
  event : NoticeEvent
  subject : Option Nat
  block : Option BlockNo
  info : NoticeInfo
  deriving DecidableEq, Repr

/-- The state of the Link Controller. -/
structure Link where
  rx : Receiver
  replies : List Reply
  notices : List Notice
  deferred : List Deferred
  tx : Transmitter
  linkErrors : Nat
  overrun : Nat
  noticesLost : Nat
  sensLimit : Sensitivity
  sensSlot : Sensitivity
  sensRing : Sensitivity
  sensClock : Sensitivity
  packNotices : Bool
  hold : Bool
  deriving DecidableEq, Repr

/-! ## Block clock (02) -/

/-- The engine states (R19). -/
inductive EngineState where
  | unformatted | stopped | armed | running | holdover
  deriving DecidableEq, Repr

/-- The sample rates (R21). -/
inductive Rate where
  | r48000 | r96000
  deriving DecidableEq, Repr

/-- The format (R21). -/
structure Format where
  rate : Rate
  lag : Nat
  syncId : StreamId
  deriving DecidableEq, Repr

/-- The state of the Block Clock. -/
structure Clock where
  engine : EngineState
  format : Option Format
  lastBlock : Option BlockNo
  lastBoundary : Option Time
  timer : Option Time
  stopPending : Bool
  unlocked : Bool
  spell : Option Spell
  syncBoundaries : Nat
  holdoverBoundaries : Nat
  earlySyncs : Nat
  foreignSyncs : Nat
  idleSyncs : Nat
  relocks : Nat
  realigns : Nat
  holdoverEntries : Nat
  deriving DecidableEq, Repr

/-! ## Stage receiver and frame ring (03) -/

/-- The counters of a stream record (R60), in the reply order of R207. -/
structure StreamCounters where
  stored : Nat
  late : Nat
  ahead : Nat
  duplicate : Nat
  damagedDropped : Nat
  damagedKept : Nat
  fullRejected : Nat
  formatRejected : Nat
  idleDiscarded : Nat
  deriving DecidableEq, Repr

/-- A stream record (03, The stream table). -/
structure Stream where
  bound : Bool
  id : StreamId
  channels : Nat
  acceptDamaged : Bool
  lastBlock : Option BlockNo
  counters : StreamCounters
  deriving DecidableEq, Repr

/-- The state of the Stage Receiver. -/
structure Stage where
  streams : Table Stream 8
  unmatched : Nat
  malformed : Nat
  syncRejected : Nat
  deriving DecidableEq, Repr

/-- An entry of the ring index (R55). -/
structure RingEntry where
  stream : Fin 8
  block : BlockNo
  channels : Nat
  damaged : Bool
  consumed : Bool
  first : Nat
  pages : Nat
  deriving DecidableEq, Repr

/-- The state of the Frame Ring. `pages` is the page storage in canonical form: addresses strictly rising, no byte 0
listed (log 6). The tail of the index is the head of `entries`. `rejects` is the full-rejection count (R59), without a top
(log 29). -/
structure Ring where
  pages : List Host.Cell
  entries : List RingEntry
  head : Nat
  rejects : Nat
  condition : Bool
  deriving DecidableEq, Repr

/-! ## Channel slots (04) -/

/-- Sixteen sample words. -/
abbrev Block := Table Sample 16

/-- Sixteen sample words of 0 (R62). -/
def silence : Block := Table.fill 0

/-- A slot record with its SLOT condition (R62, R73). -/
structure Slot where
  bound : Bool
  stream : Fin 8
  channel : Nat
  invert : Bool
  repeatOnce : Bool
  status : SlotStatus
  misses : Nat
  history : Block
  assembled : Block
  peak : Nat
  condition : Bool
  deriving DecidableEq, Repr

/-! ## Mixes and the send pool (05), limiters (06) -/

/-- The states of a mix (R76). -/
inductive MixState where
  | off | on | fading
  deriving DecidableEq, Repr

/-- A send record in use (R77). -/
structure Send where
  slot : Fin 48
  level : Nat
  balance : Int
  self : Bool
  mute : Bool
  removing : Bool
  currentLeft : Nat
  currentRight : Nat
  targetLeft : Nat
  targetRight : Nat
  deriving DecidableEq, Repr

/-- A mix record with its send list (R76). `dim` is OFF as none, ON as the saved volume trim. -/
structure Mix where
  state : MixState
  stereo : Bool
  master : Nat
  ceiling : Nat
  release : Nat
  click : Nat
  volume : Int
  self : Int
  others : Int
  dim : Option Int
  masterCurrent : Nat
  masterTarget : Nat
  sends : List Send
  deriving DecidableEq, Repr

/-- What the Mix Engine holds for a mix (06): limiter gain, meter accumulators, LIMIT condition. -/
structure Limiter where
  gain : Nat
  peak : Nat
  lowest : Nat
  condition : Bool
  deriving DecidableEq, Repr

/-! ## Scenes and cue slots (07) -/

/-- A send entry of a scene (R121). -/
structure SceneSend where
  slot : Fin 48
  level : Nat
  balance : Int
  self : Bool
  mute : Bool
  deriving DecidableEq, Repr

/-- A mix entry of a scene (R121). -/
structure MixEntry where
  on : Bool
  stereo : Bool
  master : Nat
  ceiling : Nat
  release : Nat
  sends : List SceneSend
  deriving DecidableEq, Repr

/-- The mix entries of a scene or of a working copy. -/
abbrev Scene := Table MixEntry 16

/-- The outcome of an apply (R139). -/
inductive ApplyOutcome where
  | done | poolFull
  deriving DecidableEq, Repr

/-- When an apply was made (R139). -/
inductive ApplyAt where
  | immediate
  | boundary (block : BlockNo)
  deriving DecidableEq, Repr

/-- The last apply record (R139). -/
structure LastApply where
  outcome : ApplyOutcome
  mode : ApplyMode
  mask : MixMask
  moment : ApplyAt
  cut : MixMask
  fallback : Bool
  inserted : Nat
  freed : Nat
  deriving DecidableEq, Repr

/-- A cue slot that is not CLOSED (R122): APPLYING or OPEN, with its row and working copy. -/
structure CueWork where
  applying : Bool
  row : Fin 8
  edited : Bool
  copy : Scene
  last : Option LastApply
  deriving DecidableEq, Repr

/-- The state of the Cue Controller. A scene is EMPTY as none; a cue slot is CLOSED as none. -/
structure Cues where
  scenes : Table (Option Scene) 32
  slots : Table (Option CueWork) 4
  deriving DecidableEq, Repr

/-! ## Pack line (08, 09) -/

/-- The states of a pack record (R158). -/
inductive PackState where
  | free | joining | present | lost
  deriving DecidableEq, Repr

/-- The counters of a pack record (R182). -/
structure PackCounters where
  grants : Nat
  answers : Nat
  silent : Nat
  requests : Nat
  refusals : Nat
  losses : Nat
  rejoins : Nat
  deriving DecidableEq, Repr

/-- A pack record (R158). The urgent_pending flag and its place stand in `PackLine.urgentOrder`. -/
structure Pack where
  state : PackState
  serial : Serial
  mix : Option (Fin 16)
  role : Role
  busy : Bool
  presence : Nat
  offerSent : Bool
  attempts : Nat
  ticks : Nat
  counters : PackCounters
  deriving DecidableEq, Repr

/-- A pack message (R144). -/
inductive PackMessage where
  | offer (serial : Serial) (address : Fin 24)
  | assigned (mix : Fin 16) (role : Role)
  | unassigned
  | trims (volume self others : Int) (dim : Bool)
  | refusedNotOwner
  | refusedNoMix
  | text (chars : List Byte)
  | removed
  deriving DecidableEq, Repr

/-- A queued pack message (R145). -/
structure Queued where
  address : Fin 24
  urgent : Bool
  message : PackMessage
  age : Nat
  deriving DecidableEq, Repr

/-- The granted window that is open, and with it the reservation of R151. `freed` says that the granted record became
FREE while the window was open. -/
structure GrantWindow where
  confirm : Bool
  address : Fin 24
  freed : Bool
  deriving DecidableEq, Repr

/-- A grant as the frame carries it (R141). -/
inductive Grant where
  | idle
  | poll (address : Fin 24)
  | confirm (address : Fin 24)
  deriving DecidableEq, Repr

/-- The output block of a mix (R116); the right channel of a MONO block is silence and is not carried. -/
structure OutBlock where
  mix : Fin 16
  stereo : Bool
  left : Block
  right : Block
  deriving DecidableEq, Repr

/-- A downstream frame (R141). -/
structure DownFrame where
  block : BlockNo
  grant : Grant
  announce : Bool
  mixes : List OutBlock
  control : Option (Fin 24 × PackMessage)
  deriving DecidableEq, Repr

/-- The state of the Pack Line Controller. Address a of the spec is index a - 1 here. `roundRobin` is the last
round-robin address as the spec counts it, 0 before the first. `frame` is the frame last sent since the engine began to
mix. -/
structure PackLine where
  packs : Table Pack 24
  urgentOrder : List (Fin 24)
  queue : List Queued
  window : Option GrantWindow
  announceOpen : Bool
  frame : Option DownFrame
  roundRobin : Nat
  lastUrgent : Bool
  recovery : Nat
  collisionRun : Nat
  queueAgedOut : Nat
  queueDropped : Nat
  trimsUnsent : Nat
  removedUnsent : Nat
  joins : Nat
  joinFailures : Nat
  refusedJoins : Nat
  collisions : Nat
  announceStorms : Nat
  upstreamErrors : Nat
  badRequests : Nat
  deriving DecidableEq, Repr

/-! ## Click generator (10) and meter unit (11) -/

/-- The click states (R185). -/
inductive ClickState where
  | idle | beating | lastBurst
  deriving DecidableEq, Repr

/-- A burst in progress (R185). -/
structure Burst where
  position : Nat
  accent : Bool
  deriving DecidableEq, Repr

/-- The state of the Click Generator (R185). -/
structure Click where
  period : Nat
  accent : Nat
  count : Nat
  state : ClickState
  countdown : Nat
  beatIndex : Nat
  burst : Option Burst
  pendingPeriod : Option Nat
  beatsRemaining : Option Nat
  countReload : Bool
  deriving DecidableEq, Repr

/-- The state of the Meter Unit (11). -/
structure Meter where
  on : Bool
  interval : Nat
  pendingInterval : Option Nat
  countdown : Nat
  seen : Table Bool 16
  sequence : Nat
  deriving DecidableEq, Repr

/-! ## The whole part -/

/-- The state of the part. `pending` is the queue of waiting commands, oldest first; `draws` counts the free choices
taken (log 7). -/
structure State where
  link : Link
  clock : Clock
  stage : Stage
  ring : Ring
  slots : Table Slot 48
  mixes : Table Mix 16
  limiters : Table Limiter 16
  cues : Cues
  line : PackLine
  click : Click
  meter : Meter
  draws : Nat
  pending : List Instr
  deriving DecidableEq, Repr

/-! ## Power-on values -/

/-- Frame assembly at power-on: HUNT, no bytes kept (R18; declared length, sum and time: log 1). -/
def Receiver.reset : Receiver := { phase := .hunt, declared := 0, body := [], sum := 0, lastAt := 0 }

/-- The Link Controller at power-on (R18, R14). -/
def Link.reset : Link :=
  { rx := Receiver.reset, replies := [], notices := [], deferred := [], tx := .idle, linkErrors := 0, overrun := 0,
    noticesLost := 0, sensLimit := .off, sensSlot := .off, sensRing := .off, sensClock := .off, packNotices := true,
    hold := false }

/-- The Block Clock at power-on (R37). -/
def Clock.reset : Clock :=
  { engine := .unformatted, format := none, lastBlock := none, lastBoundary := none, timer := none,
    stopPending := false, unlocked := false, spell := none, syncBoundaries := 0, holdoverBoundaries := 0,
    earlySyncs := 0, foreignSyncs := 0, idleSyncs := 0, relocks := 0, realigns := 0, holdoverEntries := 0 }

/-- The counters of a stream record, all 0. -/
def StreamCounters.zero : StreamCounters :=
  { stored := 0, late := 0, ahead := 0, duplicate := 0, damagedDropped := 0, damagedKept := 0, fullRejected := 0,
    formatRejected := 0, idleDiscarded := 0 }

/-- An UNBOUND stream record (03, The stream table). -/
def Stream.unbound : Stream :=
  { bound := false, id := 0, channels := 0, acceptDamaged := false, lastBlock := none, counters := StreamCounters.zero }

/-- The Stage Receiver at power-on (R61). -/
def Stage.reset : Stage := { streams := Table.fill Stream.unbound, unmatched := 0, malformed := 0, syncRejected := 0 }

/-- The Frame Ring at power-on (R61; page storage: log 6). -/
def Ring.reset : Ring := { pages := [], entries := [], head := 0, rejects := 0, condition := false }

/-- An UNBOUND slot record (R62). -/
def Slot.unbound : Slot :=
  { bound := false, stream := 0, channel := 0, invert := false, repeatOnce := false, status := .none, misses := 0,
    history := silence, assembled := silence, peak := 0, condition := false }

/-- A mix record at its defaults (R76, R100). -/
def Mix.default : Mix :=
  { state := .off, stereo := false, master := 112, ceiling := 112, release := 256, click := 0, volume := 0, self := 0,
    others := 0, dim := none, masterCurrent := 0, masterTarget := 0, sends := [] }

/-- What the Mix Engine holds for a mix at power-on (R101). -/
def Limiter.reset : Limiter := { gain := Config.unity, peak := 0, lowest := Config.unity, condition := false }

/-- A mix entry at its defaults (R121). -/
def MixEntry.default : MixEntry :=
  { on := false, stereo := false, master := 112, ceiling := 112, release := 256, sends := [] }

/-- The Cue Controller at power-on (R140). -/
def Cues.reset : Cues := { scenes := Table.fill none, slots := Table.fill none }

/-- The counters of a pack record, all 0. -/
def PackCounters.zero : PackCounters :=
  { grants := 0, answers := 0, silent := 0, requests := 0, refusals := 0, losses := 0, rejoins := 0 }

/-- A FREE pack record with the given counters (R158). -/
def Pack.freeWith (counters : PackCounters) : Pack :=
  { state := .free, serial := 0, mix := none, role := .listener, busy := false, presence := 0, offerSent := false,
    attempts := 0, ticks := 0, counters := counters }

/-- The Pack Line Controller at power-on (R157, R184). -/
def PackLine.reset : PackLine :=
  { packs := Table.fill (Pack.freeWith PackCounters.zero), urgentOrder := [], queue := [], window := none,
    announceOpen := false, frame := none, roundRobin := 0, lastUrgent := false, recovery := 0, collisionRun := 0,
    queueAgedOut := 0, queueDropped := 0, trimsUnsent := 0, removedUnsent := 0, joins := 0, joinFailures := 0,
    refusedJoins := 0, collisions := 0, announceStorms := 0, upstreamErrors := 0, badRequests := 0 }

/-- The Click Generator at power-on (R185). -/
def Click.reset : Click :=
  { period := 24000, accent := 4, count := 0, state := .idle, countdown := 0, beatIndex := 0, burst := none,
    pendingPeriod := none, beatsRemaining := none, countReload := false }

/-- The Meter Unit at power-on (R197). -/
def Meter.reset : Meter :=
  { on := false, interval := 64, pendingInterval := none, countdown := 64, seen := Table.fill false, sequence := 0 }

/-- The part right after power-on (R18, R37, R61, R75, R100, R101, R140, R157, R184, R185, R197), no command waiting. -/
def State.reset : State :=
  { link := Link.reset, clock := Clock.reset, stage := Stage.reset, ring := Ring.reset, slots := Table.fill Slot.unbound,
    mixes := Table.fill Mix.default, limiters := Table.fill Limiter.reset, cues := Cues.reset, line := PackLine.reset,
    click := Click.reset, meter := Meter.reset, draws := 0, pending := [] }

/-! ## Named updates, one for each block of the state (their lemmas: Laws/State.lean) -/

def State.withLink (s : State) (v : Link) : State := { s with link := v }
def State.withClock (s : State) (v : Clock) : State := { s with clock := v }
def State.withStage (s : State) (v : Stage) : State := { s with stage := v }
def State.withRing (s : State) (v : Ring) : State := { s with ring := v }
def State.withSlots (s : State) (v : Table Slot 48) : State := { s with slots := v }
def State.withMixes (s : State) (v : Table Mix 16) : State := { s with mixes := v }
def State.withLimiters (s : State) (v : Table Limiter 16) : State := { s with limiters := v }
def State.withCues (s : State) (v : Cues) : State := { s with cues := v }
def State.withLine (s : State) (v : PackLine) : State := { s with line := v }
def State.withClick (s : State) (v : Click) : State := { s with click := v }
def State.withMeter (s : State) (v : Meter) : State := { s with meter := v }
def State.withDraws (s : State) (v : Nat) : State := { s with draws := v }
def State.withPending (s : State) (v : List Instr) : State := { s with pending := v }

end Sys2Proof.Machine
end

