-- ==== Sys2Proof/Machine/Operands.lean ====
section
/-! DEFINITION. How the fields of a request are read from their bytes (R210): indices, enumerations, clamped numbers, masks. -/

namespace Sys2Proof.Machine

/-- An index field: none when it names nothing, which BAD_INDEX answers (R210). -/
def index? (n : Nat) (b : Byte) : Option (Fin n) := if h : b.toNat < n then some ⟨b.toNat, h⟩ else none

/-- A pack address 1..24 as the index of its record. -/
def address? (b : Byte) : Option (Fin 24) :=
  if h : 1 ≤ b.toNat ∧ b.toNat ≤ 24 then some ⟨b.toNat - 1, by omega⟩ else none

/-- The number of a pack address, 1..24. -/
def addressNumber (a : Fin 24) : Nat := a.val + 1

/-- A field with the codes 0 and 1 (OFF/ON, MONO/STEREO, NORMAL/INVERT, SILENCE/REPEAT_ONCE, GLIDE/CUT,
OWNER/LISTENER): none for any other value, which BAD_VALUE answers (R210). -/
def flag? (b : Byte) : Option Bool := if b.toNat = 0 then some false else if b.toNat = 1 then some true else none

/-- OWNER or LISTENER (R210). -/
def role? (b : Byte) : Option Role := (flag? b).map fun listener => if listener then .listener else .owner

/-- GLIDE or CUT (R210). -/
def applyMode? (b : Byte) : Option ApplyMode := (flag? b).map fun cut => if cut then .cut else .glide

/-- A sensitivity (R210). -/
def sensitivity? (b : Byte) : Option Sensitivity :=
  match b.toNat with
  | 0 => some .off
  | 1 => some .enter
  | 2 => some .leave
  | 3 => some .both
  | 4 => some .enterHeld
  | _ => none

/-- The value nearest to n in lo..hi (00_scope, Out-of-range input). -/
def clampNat (lo hi n : Nat) : Nat := max lo (min hi n)
def clampInt (lo hi i : Int) : Int := max lo (min hi i)

/-- A level code, clamped into 0..127 (R84, R89). -/
def levelCode (b : Byte) : Nat := clampNat 0 127 b.toNat

/-- A trim, an offset or a balance, clamped into -16..16 (R89, R96). -/
def trimCode (b : Byte) : Int := clampInt (-16) 16 b.toInt

/-- A mix mask: the flag of mix m is bit m (R210). -/
def mixMask (high low : Byte) : MixMask := BitVec.ofNat 16 (nat16 high low)

/-- Whether a mask names mix m. -/
def inMask (mask : MixMask) (m : Fin 16) : Bool := mask.getLsbD m.val

/-- The forward distance from block a to block b (00_scope). -/
def distance (a b : BlockNo) : Nat := (b - a).toNat

/-- The signed distance from a to b (00_scope). -/
def signedDistance (a b : BlockNo) : Int :=
  if distance a b ≤ 32767 then distance a b else (distance a b : Int) - 65536

/-- b is not after a (00_scope). -/
def notAfter (a b : BlockNo) : Bool := distance a b == 0 || decide (32768 ≤ distance a b)

/-- b lies 1..8 blocks ahead of a (R46, R57). -/
def inWindow (a b : BlockNo) : Bool := decide (1 ≤ distance a b) && decide (distance a b ≤ 8)

/-- One more count of a 32-bit counter, and k more (R209). -/
def count32 (n : Nat) : Nat := min (n + 1) Config.top32
def addCount32 (n k : Nat) : Nat := min (n + k) Config.top32

/-- One more count of a counter that saturates at 65535 (R62, R35). -/
def count16 (n : Nat) : Nat := min (n + 1) Config.top16

end Sys2Proof.Machine
end

