-- ==== Sys2Proof/Machine/Layout.lean ====
section
/-! DEFINITION. The codes of enumerations and the bytes of messages, notices and downstream frames (12). -/

namespace Sys2Proof.Machine

/-! ## Codes (R210, R211) -/

/-- Error codes, numbered in the order of R6 (R211). -/
def errorCode : ErrorCode → Nat
  | .unknownKind => 1
  | .badLength => 2
  | .badIndex => 3
  | .badValue => 4
  | .wrongState => 5
  | .stopping => 6
  | .cueOpen => 7
  | .cueClosed => 8
  | .cueBusy => 9
  | .tagInUse => 10
  | .streamInUse => 11
  | .slotsAttached => 12
  | .tableFull => 13
  | .notBound => 14
  | .channelRange => 15
  | .slotInUse => 16
  | .mixFull => 17
  | .poolFull => 18
  | .sendExists => 19
  | .noSend => 20
  | .ownerTaken => 21
  | .packUnknown => 22

def replyCode : ReplyCode → Byte
  | .done => 0x80
  | .data => 0x81
  | .retry => 0x82
  | .defer => 0x83
  | .fail => 0x84
  | .complete => 0x85

def retryCode : RetryReason → Nat
  | .deferFull => 1
  | .packQueueFull => 2

def engineCode : EngineState → Nat
  | .unformatted => 0
  | .stopped => 1
  | .armed => 2
  | .running => 3
  | .holdover => 4

def rateHertz : Rate → Nat
  | .r48000 => 48000
  | .r96000 => 96000

def statusCode : SlotStatus → Nat
  | .none => 0
  | .fresh => 1
  | .damaged => 2
  | .repeated => 3
  | .missing => 4

def mixStateCode : MixState → Nat
  | .off => 0
  | .on => 1
  | .fading => 2

def packStateCode : PackState → Nat
  | .free => 0
  | .joining => 1
  | .present => 2
  | .lost => 3

def roleCode : Role → Nat
  | .owner => 0
  | .listener => 1

def modeCode : ApplyMode → Nat
  | .glide => 0
  | .cut => 1

def clickStateCode : ClickState → Nat
  | .idle => 0
  | .beating => 1
  | .lastBurst => 2

def eventCode : NoticeEvent → Nat
  | .enter => 1
  | .leave => 2
  | .held => 3
  | .joined => 4
  | .lost => 5
  | .rejoin => 6
  | .joinFailed => 7
  | .refusedJoin => 8
  | .announceStorm => 9
  | .report => 10

def tailCode : TailState → Nat
  | .empty => 0
  | .waiting => 1
  | .consumed => 2

/-- UNBOUND or BOUND: no rule gives the codes (log 8). -/
def boundByte (bound : Bool) : List Byte :=
  [Config.unstatedByte (if bound then .recordBound else .recordUnbound)]

/-- A mix, or 0xFF for no mix (R210). -/
def mixByte : Option (Fin 16) → List Byte
  | some m => be1 m.val
  | none => be1 0xFF

/-! ## Messages of the control link (R211, R213) -/

/-- The class number of a notice (R210). -/
def noticeClass : NoticeInfo → Nat
  | .limit .. => 1
  | .slot .. => 2
  | .ring .. => 3
  | .clock .. => 4
  | .pack .. => 5
  | .meterMixes .. => 6
  | .meterSlots .. => 6

/-- The spell record of a CLOCK notice. -/
def spellBytes : Option Spell → List Byte
  | some p =>
    be1 (match p.cause with | .holdover => 0 | .relock => 1) ++ be2 p.holdovers ++ be2 p.jumps
      ++ optional 2 signed2 p.lastJump
  | none => List.replicate 8 0

/-- The fields of a notice after its header (R213). The busy of a LOST notice is 0 for clear, 1 for set (log 28); the count of
rejected frames goes into the 4 bytes of a RING notice modulo 2^32 (log 29). -/
def noticeFields : NoticeInfo → List Byte
  | .limit gain peak code ceiling => be3 gain ++ be4 peak ++ be1 code ++ be3 ceiling
  | .slot status stream channel misses => be1 (statusCode status) ++ be1 stream ++ be1 channel ++ be2 misses
  | .ring rejected pages entries waiting tail =>
    be4 rejected ++ be2 pages ++ be1 entries ++ be1 waiting ++ be1 (tailCode tail)
  | .clock spell => spellBytes spell
  | .pack serial mix role busy reason =>
    be4 serial.toNat ++ mixByte mix ++ be1 (match role with | some r => roleCode r | none => 0xFF)
      ++ (match busy with | some b => yesNo b | none => [Config.unstatedByte .packNoticeBusy])
      ++ be1 (match reason with | none => 0 | some .tableFull => 1 | some .queueFull => 2)
  | .meterMixes sequence interval items =>
    be1 0 ++ be2 sequence ++ be2 interval ++ be1 items.length
      ++ items.flatMap fun (m, peak, lowest) => be1 m.val ++ be3 peak ++ be3 lowest
  | .meterSlots sequence interval items =>
    be1 1 ++ be2 sequence ++ be2 interval ++ be1 items.length
      ++ items.flatMap fun (i, peak) => be1 i.val ++ be3 peak

/-- The body of a notice: the eight-byte header and the class fields (R213). -/
def noticeBody (n : Notice) : List Byte :=
  ([0x86, 0] : List Byte) ++ be1 (noticeClass n.info) ++ be1 (eventCode n.event)
    ++ be1 (match n.subject with | some k => k | none => 0xFF)
    ++ optional 2 (fun b => be2 b.toNat) n.block ++ noticeFields n.info

/-- The body of a reply or completion (R211). -/
def replyBody (r : Reply) : List Byte := replyCode r.code :: r.tag :: r.kind :: r.fields

/-! ## The pack line (R215) -/

/-- A pack message with its kind byte. -/
def packMessageBytes : PackMessage → List Byte
  | .offer serial address => be1 1 ++ be4 serial.toNat ++ be1 (addressNumber address)
  | .assigned mix role => be1 2 ++ be1 mix.val ++ be1 (roleCode role)
  | .unassigned => be1 3
  | .trims volume self others dim => be1 4 ++ signed1 volume ++ signed1 self ++ signed1 others ++ yesNo dim
  | .refusedNotOwner => be1 5 ++ be1 1
  | .refusedNoMix => be1 5 ++ be1 2
  | .text chars => be1 6 ++ be1 chars.length ++ chars
  | .removed => be1 7

/-- A mix block: mix number, kind, and 16 samples or 16 left-right pairs. -/
def outBlockBytes (b : OutBlock) : List Byte :=
  be1 b.mix.val ++ yesNo b.stereo
    ++ (if b.stereo then (List.zipWith (fun l r => signed3 l ++ signed3 r) b.left.list b.right.list).flatten
        else b.left.list.flatMap signed3)

/-- The bytes of a downstream frame, its check word included. -/
def downFrameBytes (f : DownFrame) : List Byte :=
  let grant := match f.grant with
    | .idle => be1 0 ++ be1 0
    | .poll a => be1 1 ++ be1 (addressNumber a)
    | .confirm a => be1 2 ++ be1 (addressNumber a)
  let control := match f.control with
    | none => be1 0
    | some (a, m) => be1 1 ++ be1 (addressNumber a) ++ packMessageBytes m
  let body := be2 f.block.toNat ++ grant ++ yesNo f.announce ++ be1 f.mixes.length
    ++ f.mixes.flatMap outBlockBytes ++ control
  body ++ be2 (checkWord body)

/-- An upstream message (R215). -/
inductive Upstream where
  | hello (serial : Serial)
  | confirm (serial : Serial)
  | nothing (flags : Byte)
  | request (kind : Byte) (value : Int) (flags : Byte)
  deriving DecidableEq, Repr

/-- The valid message that a signal is: its check word is correct and its length is that of its kind (R215). -/
def upstreamMessage (heard : List Byte) : Option Upstream :=
  if checkHolds heard then
    match heard with
    | [kind, a, b, c, d, _, _] =>
      if kind = 1 then some (.hello (BitVec.ofNat 32 (nat32 a b c d)))
      else if kind = 2 then some (.confirm (BitVec.ofNat 32 (nat32 a b c d)))
      else none
    | [kind, flags, _, _] => if kind = 3 then some (.nothing flags) else none
    | [kind, request, value, flags, _, _] => if kind = 4 then some (.request request value.toInt flags) else none
    | _ => none
  else none

end Sys2Proof.Machine
end

