-- ==== Sys2Proof/Machine/Ops.lean ====
section
/-! DEFINITION. The operations that all families share: the page storage, the queues of the control link, and taking and
answering a request (01). -/

namespace Sys2Proof.Machine

/-! ## Page storage (03): a sparse memory in canonical form -/

/-- The byte at an address; an address that is not listed reads 0 (log 6). -/
def readByte : List Host.Cell → Nat → Byte
  | [], _ => 0
  | (a, v) :: rest, i => if a = i then v else readByte rest i

/-- The storage with the byte at an address replaced. Writing 0 removes the cell, so that equal storages are equal lists. -/
def writeByte : List Host.Cell → Nat → Byte → List Host.Cell
  | [], i, b => if b = 0 then [] else [(i, b)]
  | (a, v) :: rest, i, b =>
    if i < a then (if b = 0 then (a, v) :: rest else (i, b) :: (a, v) :: rest)
    else if i = a then (if b = 0 then rest else (i, b) :: rest)
    else (a, v) :: writeByte rest i b

/-- The address that follows within the circle of pages: page 0 follows page 383 (R53). -/
def ringAddress (start i : Nat) : Nat := (start + i) % Config.ringBytes

/-- The storage with bytes written from an address on, round the circle (R53). -/
def writeBytes : List Host.Cell → Nat → List Byte → List Host.Cell
  | mem, _, [] => mem
  | mem, start, b :: rest => writeBytes (writeByte mem (ringAddress start 0) b) (start + 1) rest

/-- The canonical form: addresses strictly rising and below the size of the storage, no cell that holds 0. -/
def storageWf : List Host.Cell → Bool
  | [] => true
  | [(a, v)] => decide (a < Config.ringBytes) && v != 0
  | (a, v) :: (b, w) :: rest => decide (a < b) && v != 0 && storageWf ((b, w) :: rest)

/-! ## Reply queue, hold line, transmitter (R10 to R12) -/

/-- Entries of the reply queue in use: queued messages, and a reservation for each deferred entry (R10). -/
def Link.inUse (l : Link) : Nat := l.replies.length + l.deferred.length

/-- Free entries of the reply queue. -/
def Link.free (l : Link) : Nat := Config.replyCap - l.inUse

/-- The hold line follows the count of entries in use (R11). -/
def Link.refreshHold (l : Link) : Link := { l with hold := decide (Config.holdLevel ≤ l.inUse) }

/-- What an idle transmitter starts: the oldest reply, else the oldest notice (R12). -/
def Link.nextMessage (l : Link) : Transmitter :=
  if l.replies ≠ [] then .reply else if l.notices ≠ [] then .notice else .idle

/-- An idle transmitter starts a message if one is queued; one that sends goes on (R12). -/
def Link.startTx (l : Link) : Link :=
  match l.tx with
  | .idle => { l with tx := l.nextMessage }
  | _ => l

/-- A reply or completion is queued at the back (R10). -/
def Link.pushReply (l : Link) (r : Reply) : Link := ({ l with replies := l.replies ++ [r] } : Link).startTx.refreshHold

/-- A notice is queued at the back, or discarded and counted when 64 are queued (R13). -/
def Link.pushNotice (l : Link) (n : Notice) : Link :=
  if l.notices.length < Config.noticeCap then ({ l with notices := l.notices ++ [n] } : Link).startTx
  else { l with noticesLost := count32 l.noticesLost }

/-- The last byte of the message in transmission has been sent: its entry is free, and the next message starts (R12). -/
def Link.endTx (l : Link) : Link :=
  match l.tx with
  | .idle => l
  | .reply => ({ l with replies := l.replies.tail, tx := .idle } : Link).startTx.refreshHold
  | .notice => ({ l with notices := l.notices.tail, tx := .idle } : Link).startTx.refreshHold

/-- The bytes of the message in transmission, framed as R1 and R211 give; none while the transmitter is idle. -/
def Link.sending (l : Link) : Option (List Byte) :=
  match l.tx with
  | .idle => none
  | .reply => l.replies.head?.map fun r => linkFrame (replyBody r)
  | .notice => l.notices.head?.map fun n => linkFrame (noticeBody n)

/-! ## Answers to requests (R3 to R8) -/

/-- How an owning block answers a request (R5). -/
inductive Answer where
  | done (fields : List Byte)
  | data (fields : List Byte)
  | retry (reason : RetryReason)
  | fail (code : ErrorCode)
  | wouldDefer (job : DeferredJob)
  deriving DecidableEq, Repr

/-- What an owning block does with a request: the state it leaves, and its answer. -/
abbrev Owner := State → State × Answer

/-- A reply is queued for a request. -/
def State.reply (s : State) (code : ReplyCode) (kind tag : Byte) (fields : List Byte) : State :=
  s.withLink (s.link.pushReply { code := code, tag := tag, kind := kind, fields := fields })

def State.replyFail (s : State) (kind tag : Byte) (code : ErrorCode) : State :=
  s.reply .fail kind tag (be1 (errorCode code))

def State.replyRetry (s : State) (kind tag : Byte) (reason : RetryReason) : State :=
  s.reply .retry kind tag (be1 (retryCode reason))

/-- The owning block makes the pending state visible: a STOP is pending, the cue slot is APPLYING (R8). -/
def State.markDeferred (s : State) : DeferredJob → State
  | .stop => s.withClock { s.clock with stopPending := true }
  | .apply bank _ _ =>
    s.withCues { s.cues with slots := s.cues.slots.modify bank fun c => c.map fun w => { w with applying := true } }

/-- The deferral tests of R8, in order, and what follows when all pass. -/
def State.deferRequest (s : State) (kind tag : Byte) (job : DeferredJob) : State :=
  if s.link.deferred.any fun d => d.job == .stop then s.replyFail kind tag .stopping
  else if ¬ s.link.deferred.length < Config.deferredCap then s.replyRetry kind tag .deferFull
  else if ¬ 2 ≤ s.link.free then s.replyRetry kind tag .deferFull
  else
    ((s.withLink { s.link with deferred := s.link.deferred ++ [{ tag := tag, job := job }] }).markDeferred job).reply
      .defer kind tag []

/-- The Link Controller queues the reply that the owning block's answer calls for (R4, R5). -/
def State.answer (s : State) (kind tag : Byte) : Answer → State
  | .done fields => s.reply .done kind tag fields
  | .data fields => s.reply .data kind tag fields
  | .retry reason => s.replyRetry kind tag reason
  | .fail code => s.replyFail kind tag code
  | .wouldDefer job => s.deferRequest kind tag job

/-- Whether an entry of the deferred list holds the tag (R3 test 5). -/
def Link.holdsTag (l : Link) (tag : Byte) : Bool := l.deferred.any fun d => d.tag == tag

/-- A complete frame with a known kind is taken (R3): `owner` is none when its body length is not one the kind allows. The
tests stand in the order of R3; test 2 is the kind's, test 6 stands in `zeroField`. -/
def takeRequest (kind tag : Byte) (owner : Option Owner) (s : State) : State :=
  if s.link.free = 0 then s.withLink { s.link with overrun := count32 s.link.overrun }
  else if tag = 0 then s.replyFail kind tag .badValue
  else
    match owner with
    | none => s.replyFail kind tag .badLength
    | some take =>
      if s.link.holdsTag tag then s.replyFail kind tag .tagInUse
      else (take s).1.answer kind tag (take s).2

/-- A complete frame whose kind byte names no request kind (R3 tests 1 and 2). -/
def takeUnknownKind (kind tag : Byte) (s : State) : State :=
  if s.link.free = 0 then s.withLink { s.link with overrun := count32 s.link.overrun }
  else s.replyFail kind tag .unknownKind

/-- A refusal that changes nothing (R5). -/
def refuse (code : ErrorCode) : Owner := fun s => (s, .fail code)

/-- The body of a request without argument: one zero field (R211, R3 test 6). -/
def zeroField (owner : Owner) : List Byte → Option Owner
  | [z] => some (if z = 0 then owner else refuse .badValue)
  | _ => none

/-! ## Reports that several queries share -/

/-- The items of a list from a start position on, as many as fit the reply, after list length, start position and item
count (R7, R213). -/
def listReport (limit : Nat) (encode : α → List Byte) (items : List α) (start : Byte) : List Byte :=
  let page := (items.drop start.toNat).take limit
  be1 items.length ++ [start] ++ be1 page.length ++ page.flatMap encode

/-- Whether the engine mixes: RUNNING or HOLDOVER (R19). -/
def Clock.mixing (c : Clock) : Bool := c.engine == .running || c.engine == .holdover

/-- The last mixed block number where one must exist. -/
def Clock.block (c : Clock) : BlockNo := c.lastBlock.getD 0

end Sys2Proof.Machine
end

