-- ==== Sys2Proof/Machine/Clicks.lean ====
section
/-! DEFINITION. The click generator (10): one sample period, one block, and the requests CLICK_SET, CLICK_START and
CLICK_STOP. -/

namespace Sys2Proof.Machine

/-! ## Sample periods (R187 to R189) -/

/-- A beat begins (R188). -/
def Click.beat (c : Click) : Click :=
  let period := c.pendingPeriod.getD c.period
  let remaining := if c.countReload then (if c.count = 0 then none else some c.count) else c.beatsRemaining
  let index := c.beatIndex % c.accent
  let left := remaining.map (· - 1)
  { c with
    period := period
    pendingPeriod := none
    countdown := period
    countReload := false
    beatIndex := (index + 1) % c.accent
    burst := some { position := 0, accent := decide (index = 0) }
    beatsRemaining := left
    state := if left = some 0 then .lastBurst else c.state }

/-- The click sample of a burst at its position (R189). -/
def burstSample (b : Burst) : Sample :=
  if b.position / (if b.accent then 16 else 24) % 2 = 0 then Config.clickAmplitude else -Config.clickAmplitude

/-- The burst after its sample is given (R189). -/
def burstNext (b : Burst) : Option Burst :=
  if b.position + 1 < Config.burstLength then some { b with position := b.position + 1 } else none

/-- The click becomes IDLE (R187 step 4, R193). -/
def Click.toIdle (c : Click) : Click := { c with state := .idle, countdown := 0, beatIndex := 0, beatsRemaining := none }

/-- One sample period of a mixed block: the state it leaves, and the click sample or none (R187). -/
def Click.tick (c : Click) : Click × Option Sample :=
  match c.state with
  | .idle => (c, none)
  | _ =>
    let c1 := if c.state = .beating ∧ c.countdown = 0 then c.beat else c
    let out := c1.burst.map burstSample
    let c2 := { c1 with burst := c1.burst.bind burstNext }
    match c2.state with
    | .beating => ({ c2 with countdown := c2.countdown - 1 }, out)
    | _ => (if c2.burst = none then c2.toIdle else c2, out)

/-- n sample periods in a row, with their samples in order. -/
def Click.ticks : Nat → Click → Click × List (Option Sample)
  | 0, c => (c, [])
  | n + 1, c =>
    let (c1, x) := c.tick
    let (c2, xs) := ticks n c1
    (c2, x :: xs)

/-- The state of the generator after a mixed block, and the sample of each of its periods (R186). -/
def Click.afterBlock (c : Click) : Click := (c.ticks 16).1
def Click.blockSamples (c : Click) : Table (Option Sample) 16 := Table.tabulate fun k => (c.ticks 16).2.getD k.val none

/-! ## Stops and resets (R195) -/

/-- The click on entry into STOPPED: stopped, its settings kept (R195). -/
def Click.stopped (c : Click) : Click :=
  { Click.reset with period := c.period, accent := c.accent, count := c.count }

/-! ## Requests (R191 to R193, R196) -/

/-- The click report (R196). R210 gives no width for beats remaining and no code for clear and set: one byte (log 16), 0 and 1
(log 28). -/
def clickReport (c : Click) : List Byte :=
  be1 (clickStateCode c.state) ++ be4 c.period ++ optional 4 be4 c.pendingPeriod ++ be1 c.accent ++ be1 c.count
    ++ optional 1 be1 c.beatsRemaining ++ yesNo c.countReload ++ be1 c.beatIndex ++ be4 c.countdown
    ++ (match c.burst with
        | some b => be1 1 ++ be1 b.position ++ yesNo b.accent
        | none => be1 0 ++ [Config.unstatedByte .burstPositionAbsent, Config.unstatedByte .burstAccentAbsent])

/-- The click after CLICK_SET (R191). -/
def Click.setTo (c : Click) (period accent count : Nat) : Click :=
  match c.state with
  | .beating => { c with pendingPeriod := some period, accent := accent, count := count, countReload := true }
  | _ => { c with period := period, pendingPeriod := none, accent := accent, count := count, countReload := false }

/-- The click after CLICK_START (R192). -/
def Click.started (c : Click) : Click :=
  { c with state := .beating, countdown := 0, beatIndex := 0, burst := none, countReload := false,
           beatsRemaining := if c.count = 0 then none else some c.count }

/-- The click after CLICK_STOP (R193). -/
def Click.stopRequested (c : Click) : Click :=
  let c' := { c with pendingPeriod := none, countReload := false }
  match c.state with
  | .beating => if c.burst.isSome then { c' with state := .lastBurst } else c'.toIdle
  | _ => c'

/-- A click request is carried out and answered with the click report (R196). -/
def clickRequest (f : Click → Click) : Owner := fun s => (s.withClick (f s.click), .done (clickReport (f s.click)))

/-! ## Meanings -/

def execClickSet (tag : Byte) (fields : List Byte) (s : State) : Host.Outcome State Fault Refusal :=
  .next (takeRequest 0x58 tag
    (match fields with
     | [a, b, c, d, accent, count] =>
       some (clickRequest fun k =>
         k.setTo (clampNat 2400 192000 (nat32 a b c d)) (clampNat 1 16 accent.toNat) (clampNat 0 64 count.toNat))
     | _ => none) s)

def execClickStart (tag : Byte) (fields : List Byte) (s : State) : Host.Outcome State Fault Refusal :=
  .next (takeRequest 0x59 tag (zeroField (clickRequest Click.started) fields) s)

def execClickStop (tag : Byte) (fields : List Byte) (s : State) : Host.Outcome State Fault Refusal :=
  .next (takeRequest 0x5A tag (zeroField (clickRequest Click.stopRequested) fields) s)

end Sys2Proof.Machine
end

