-- ==== Sys2Proof/Machine/Flags.lean ====
section
/-! DEFINITION. Notice conditions and how notices are raised: sensitivities, HELD repeats, and the order of notices that one
moment raises (R13, R203, R204, R206). -/

namespace Sys2Proof.Machine

/-- The event that a change of a condition raises under a sensitivity (R203). -/
def changeEvent (sens : Sensitivity) (before after : Bool) : Option NoticeEvent :=
  match before, after with
  | false, true => if sens = .enter ∨ sens = .both ∨ sens = .enterHeld then some .enter else none
  | true, false => if sens = .leave ∨ sens = .both then some .leave else none
  | _, _ => none

/-- Whether a condition raises HELD at an interval end: ENTER_HELD, true, and no ENTER at the same boundary (R204). -/
def heldDue (sens : Sensitivity) (before after : Bool) : Bool :=
  sens == .enterHeld && after && (changeEvent sens before after).isNone

/-- The notices of one class at one boundary, one after the other: `subjects` gives, in ascending order, the condition
before and after and the notice of an event. ENTER and LEAVE come before HELD (R206). -/
def classNotices (sens : Sensitivity) (intervalEnd : Bool) (subjects : List (Bool × Bool × (NoticeEvent → Notice))) :
    List Notice :=
  (subjects.filterMap fun (before, after, make) => (changeEvent sens before after).map make)
    ++ (if intervalEnd then
        subjects.filterMap fun (before, after, make) => if heldDue sens before after then some (make .held) else none
      else [])

/-- A notice is raised: the Link Controller queues it or counts it lost (R13). -/
def State.raise (s : State) (n : Notice) : State := s.withLink (s.link.pushNotice n)

/-- Notices that stand next to each other in the queue. -/
abbrev NoticeGroup := List Notice

def NoticeGroup.isHeld (g : NoticeGroup) : Bool := g.any fun n => n.event == .held
def NoticeGroup.isReport (g : NoticeGroup) : Bool := g.any fun n => n.event == .report

/-- Whether the front of a queue of groups may be raised next: a HELD waits for the METER report (R199). -/
def mayRaise (queues : List (List NoticeGroup)) : List NoticeGroup → Bool
  | [] => false
  | g :: _ => !(g.isHeld && queues.any fun q => q.any NoticeGroup.isReport)

/-- The front group of the k-th queue that satisfies p, and the queues without it. -/
def takeFront (p : List NoticeGroup → Bool) : List (List NoticeGroup) → Nat → Option (NoticeGroup × List (List NoticeGroup))
  | [], _ => none
  | q :: rest, k =>
    if p q then
      match k, q with
      | 0, g :: gs => some (g, gs :: rest)
      | 0, [] => none
      | k + 1, _ => (takeFront p rest k).map fun (g, others) => (g, q :: others)
    else (takeFront p rest k).map fun (g, others) => (g, q :: others)

/-- One order in which queues of notice groups may be raised: each queue keeps its own order, and where several queues may
be next, the free value `Config.noticeChoice` decides (R206, log 7). Answers the notices and the number of choices taken. -/
def interleave : Nat → List (List NoticeGroup) → Nat → List Notice × Nat
  | 0, _, draws => ([], draws)
  | fuel + 1, queues, draws =>
    let ready := (queues.filter (mayRaise queues)).length
    match ready with
    | 0 => ([], draws)
    | 1 =>
      match takeFront (mayRaise queues) queues 0 with
      | none => ([], draws)
      | some (g, rest) => let (ns, d) := interleave fuel rest draws; (g ++ ns, d)
    | n + 2 =>
      match takeFront (mayRaise queues) queues (Config.noticeChoice draws % (n + 2)) with
      | none => ([], draws)
      | some (g, rest) => let (ns, d) := interleave fuel rest (draws + 1); (g ++ ns, d)

/-- Several queues of notices are raised at one moment, in an order that R206 allows. -/
def State.raiseQueues (s : State) (queues : List (List NoticeGroup)) : State :=
  let (ns, d) := interleave (queues.map List.length).sum queues s.draws
  (ns.foldl State.raise s).withDraws d

/-- A PACK notice is raised while the class is ON (R13, R180). -/
def packNotice (s : State) (event : NoticeEvent) (subject : Nat) (info : NoticeInfo) : Notice :=
  { event := event, subject := some subject, block := s.clock.lastBlock, info := info }

def State.raisePack (s : State) (n : Notice) : State := if s.link.packNotices then s.raise n else s

end Sys2Proof.Machine
end

