-- ==== Sys2Proof/Machine/Streams.lean ====
section
/-! DEFINITION. Stage input and the frame ring (03): deciding audio frames, the ring's index and page storage, and the
requests BIND_STREAM, UNBIND_STREAM, FLUSH_STREAM, SET_STREAM and QUERY_STREAM. -/

namespace Sys2Proof.Machine

/-! ## The ring -/

/-- Pages used: the sum of the page counts of the entries present (R54). -/
def Ring.pagesUsed (r : Ring) : Nat := (r.entries.map RingEntry.pages).sum

/-- Bytes kept of a frame of c channels, and the pages it needs (R40, R52). -/
def keptBytes (channels : Nat) : Nat := 8 + 48 * channels
def pagesFor (channels : Nat) : Nat := (keptBytes channels + (Config.pageBytes - 1)) / Config.pageBytes

/-- Reclaim: CONSUMED entries leave at the tail until it is WAITING or the index is empty (R58). -/
def Ring.reclaim (r : Ring) : Ring := { r with entries := r.entries.dropWhile RingEntry.consumed }

/-- Every WAITING entry that satisfies p is marked CONSUMED, and reclaim runs (R56, R57, R42, R43). -/
def Ring.consume (r : Ring) (p : RingEntry → Bool) : Ring :=
  ({ r with entries := r.entries.map fun e => { e with consumed := e.consumed || p e } } : Ring).reclaim

/-- The WAITING entries of a stream. -/
def Ring.waitingOf (r : Ring) (i : Fin 8) : List RingEntry := r.entries.filter fun e => e.stream == i && !e.consumed

/-- The entry that the ring presents for a stream and block N (R56). -/
def Ring.present (r : Ring) (n : BlockNo) (i : Fin 8) : Option RingEntry :=
  (r.waitingOf i).find? fun e => e.block == n

/-- The new M of a relock or realignment (R57). -/
def Ring.relock (r : Ring) (m : BlockNo) : Ring := r.consume fun e => !inWindow m e.block

/-- The marking after the boundary that mixes N (R56), and the RING condition (R59). -/
def Ring.afterBlock (r : Ring) (n : BlockNo) : Ring :=
  { r.consume (fun e => notAfter n e.block) with condition := decide (0 < r.rejects), rejects := 0 }

/-- The ring emptied (R54, R61). -/
def Ring.emptied (r : Ring) : Ring := { r with entries := [], head := 0, rejects := 0, condition := false }

/-- The tail as a RING notice reports it (R59). -/
def Ring.tailState (r : Ring) : TailState :=
  match r.entries with
  | [] => .empty
  | e :: _ => if e.consumed then .consumed else .waiting

/-- The byte at an offset of a stored frame (R40, R53). -/
def Ring.frameByte (r : Ring) (e : RingEntry) (i : Nat) : Byte :=
  readByte r.pages (ringAddress (e.first * Config.pageBytes) i)

/-- The sixteen samples of a channel of a stored frame (R40, R214). -/
def Ring.samples (r : Ring) (e : RingEntry) (channel : Nat) : Block :=
  Table.tabulate fun k =>
    let o := 8 + 3 * (k.val * e.channels + channel)
    sample24 (r.frameByte e o) (r.frameByte e (o + 1)) (r.frameByte e (o + 2))

/-- A frame is stored at the head (R53). -/
def Ring.store (r : Ring) (stream : Fin 8) (block : BlockNo) (channels : Nat) (damaged : Bool) (frame : List Byte) : Ring :=
  let p := pagesFor channels
  { r with
    pages := writeBytes r.pages (r.head * Config.pageBytes) (frame.take (keptBytes channels))
    entries := r.entries ++ [{ stream := stream, block := block, channels := channels, damaged := damaged,
                               consumed := false, first := r.head, pages := p }]
    head := (r.head + p) % Config.ringPages }

/-! ## The stream table -/

/-- The BOUND record that holds an id. -/
def Stage.recordOf (g : Stage) (id : StreamId) : Option (Fin 8) := g.streams.find? fun r => r.bound && r.id == id

/-- A count in a stream record. -/
def Stage.countIn (g : Stage) (i : Fin 8) (f : StreamCounters → StreamCounters) : Stage :=
  { g with streams := g.streams.modify i fun r => { r with counters := f r.counters } }

/-! ## Deciding an audio frame (R46 to R53) -/

/-- The fields of a stage frame's header (R214). -/
def frameId (f : List Byte) : StreamId := BitVec.ofNat 24 (nat24 (byteAt f 1) (byteAt f 2) (byteAt f 3))
def frameBlock (f : List Byte) : BlockNo := BitVec.ofNat 16 (nat16 (byteAt f 4) (byteAt f 5))
def frameRate (f : List Byte) : Option Rate :=
  match (byteAt f 6).toNat with
  | 0 => some .r48000
  | 1 => some .r96000
  | _ => none
def frameChannels (f : List Byte) : Nat := (byteAt f 7).toNat

/-- The format test (R48): rate, channel count and length fit the format and the record. -/
def formatFits (c : Clock) (r : Stream) (f : List Byte) : Bool :=
  frameRate f != none && frameRate f == c.format.map Format.rate && frameChannels f == r.channels
    && f.length == keptBytes r.channels + 2

/-- The tests 5 to 7 on a frame of a bound stream that passed the others, and its storage (R50 to R53). The full-rejection count
(R59) has no stated top: it is counted without one (log 29, DESIGN CHOICE). -/
def State.windowAndStore (s : State) (i : Fin 8) (r : Stream) (damaged : Bool) (f : List Byte) : State :=
  let d := distance s.clock.block (frameBlock f)
  if d = 0 ∨ 32768 ≤ d then s.withStage (s.stage.countIn i fun c => { c with late := count32 c.late })
  else if 9 ≤ d then s.withStage (s.stage.countIn i fun c => { c with ahead := count32 c.ahead })
  else if (s.ring.present (frameBlock f) i).isSome then
    s.withStage (s.stage.countIn i fun c => { c with duplicate := count32 c.duplicate })
  else if Config.ringPages < s.ring.pagesUsed + pagesFor r.channels ∨ Config.ringIndexCap ≤ s.ring.entries.length then
    (s.withStage (s.stage.countIn i fun c => { c with fullRejected := count32 c.fullRejected })).withRing
      { s.ring with rejects := s.ring.rejects + 1 }
  else
    (s.withStage
      { s.stage with
        streams := s.stage.streams.modify i fun r =>
          { r with
            lastBlock := some (frameBlock f)
            counters := { r.counters with
              stored := count32 r.counters.stored
              damagedKept := if damaged then count32 r.counters.damagedKept else r.counters.damagedKept } } }).withRing
      (s.ring.store i (frameBlock f) r.channels damaged f)

/-- A frame of type AUDIO of 8 bytes or more is decided whole (R46). -/
def State.takeAudio (s : State) (f : List Byte) : State :=
  match s.stage.recordOf (frameId f) with
  | none => s.withStage { s.stage with unmatched := count32 s.stage.unmatched }
  | some i =>
    let r := s.stage.streams.get i
    if ¬ s.clock.mixing then s.withStage (s.stage.countIn i fun c => { c with idleDiscarded := count32 c.idleDiscarded })
    else if ¬ formatFits s.clock r f then
      s.withStage (s.stage.countIn i fun c => { c with formatRejected := count32 c.formatRejected })
    else if ¬ checkHolds f ∧ ¬ r.acceptDamaged then
      s.withStage (s.stage.countIn i fun c => { c with damagedDropped := count32 c.damagedDropped })
    else s.windowAndStore i r (!checkHolds f) f

/-! ## Requests -/

/-- The id that no stream has (00_scope, Indices). -/
def noStream : StreamId := 0xFFFFFF

/-- BIND_STREAM's record: a named index, or the lowest UNBOUND one with ANY, 0xFF (R41). -/
def bindTarget (g : Stage) (index : Byte) : Except ErrorCode (Fin 8) :=
  if index = 0xFF then
    match g.streams.find? fun r => !r.bound with
    | none => .error .tableFull
    | some i => .ok i
  else
    match index? 8 index with
    | none => .error .badIndex
    | some i => if (g.streams.get i).bound then .error .wrongState else .ok i

/-- BIND_STREAM (R41). -/
def bindStream (index a b c channels accept : Byte) : Owner := fun s =>
  let id : StreamId := BitVec.ofNat 24 (nat24 a b c)
  if index ≠ 0xFF ∧ (index? 8 index).isNone then (s, .fail .badIndex)
  else
    match flag? accept with
    | none => (s, .fail .badValue)
    | some accept =>
      if id = noStream ∨ channels.toNat < 1 ∨ 8 < channels.toNat then (s, .fail .badValue)
      else
        match bindTarget s.stage index with
        | .error e => (s, .fail e)
        | .ok i =>
          if (s.stage.recordOf id).isSome ∨ s.clock.format.map Format.syncId = some id then (s, .fail .streamInUse)
          else
            (s.withStage
              { s.stage with
                streams := s.stage.streams.set i
                  { bound := true, id := id, channels := channels.toNat, acceptDamaged := accept, lastBlock := none,
                    counters := StreamCounters.zero } },
             .done (be1 i.val))

/-- A request that names a BOUND stream record (R42 to R44). -/
def withBoundStream (index : Byte) (f : Fin 8 → Owner) : Owner := fun s =>
  match index? 8 index with
  | none => (s, .fail .badIndex)
  | some i => if (s.stage.streams.get i).bound then f i s else (s, .fail .notBound)

/-- UNBIND_STREAM (R42). -/
def unbindStream (index : Byte) : Owner := withBoundStream index fun i s =>
  if s.slots.list.any fun k => k.bound && k.stream == i then (s, .fail .slotsAttached)
  else
    ((s.withRing (s.ring.consume fun e => e.stream == i)).withStage
      { s.stage with streams := s.stage.streams.set i Stream.unbound }, .done [])

/-- FLUSH_STREAM (R43). -/
def flushStream (index : Byte) : Owner := withBoundStream index fun i s =>
  (s.withRing (s.ring.consume fun e => e.stream == i), .done (be1 (s.ring.waitingOf i).length))

/-- SET_STREAM (R44). -/
def setStream (index accept : Byte) : Owner := withBoundStream index fun i s =>
  match flag? accept with
  | none => (s, .fail .badValue)
  | some v =>
    (s.withStage { s.stage with streams := s.stage.streams.modify i fun r => { r with acceptDamaged := v } }, .done [])

/-- The counters of a stream record, in reply order (R207). -/
def streamCounterList (c : StreamCounters) : List Nat :=
  [c.stored, c.late, c.ahead, c.duplicate, c.damagedDropped, c.damagedKept, c.fullRejected, c.formatRejected,
   c.idleDiscarded]

/-- QUERY_STREAM (R45). The channel count and the number of waiting entries are one byte each (log 16). -/
def queryStream (index : Byte) : Owner := fun s =>
  match index? 8 index with
  | none => (s, .fail .badIndex)
  | some i =>
    let r := s.stage.streams.get i
    let w := s.ring.waitingOf i
    (s, .data (boundByte r.bound ++ be3 r.id.toNat ++ be1 r.channels ++ yesNo r.acceptDamaged
      ++ optional 2 (fun b => be2 b.toNat) r.lastBlock ++ (streamCounterList r.counters).flatMap be4
      ++ be1 (if r.bound then w.length else 0) ++ be2 (if r.bound then (w.map RingEntry.pages).sum else 0)))

/-! ## Meanings -/

def execBindStream (tag : Byte) (fields : List Byte) (s : State) : Host.Outcome State Fault Refusal :=
  .next (takeRequest 0x20 tag
    (match fields with
     | [index, a, b, c, channels, accept] => some (bindStream index a b c channels accept)
     | _ => none) s)

def execUnbindStream (tag : Byte) (fields : List Byte) (s : State) : Host.Outcome State Fault Refusal :=
  .next (takeRequest 0x21 tag (match fields with | [index] => some (unbindStream index) | _ => none) s)

def execFlushStream (tag : Byte) (fields : List Byte) (s : State) : Host.Outcome State Fault Refusal :=
  .next (takeRequest 0x22 tag (match fields with | [index] => some (flushStream index) | _ => none) s)

def execSetStream (tag : Byte) (fields : List Byte) (s : State) : Host.Outcome State Fault Refusal :=
  .next (takeRequest 0x23 tag (match fields with | [index, accept] => some (setStream index accept) | _ => none) s)

def execQueryStream (tag : Byte) (fields : List Byte) (s : State) : Host.Outcome State Fault Refusal :=
  .next (takeRequest 0x24 tag (match fields with | [index] => some (queryStream index) | _ => none) s)

end Sys2Proof.Machine
end

