-- ==== Sys2Proof/Machine/Slots.lean ====
section
/-! DEFINITION. Channel slots (04): assembly at a boundary, and the requests BIND_SLOT, SET_SLOT, UNBIND_SLOT and
QUERY_SLOT. -/

namespace Sys2Proof.Machine

/-! ## Assembly (R67 to R73) -/

/-- A sample through INVERT: the negation of -8388608 is given as 8388607 (R70). -/
def invertSample (x : Sample) : Sample := if x = -8388608 then 8388607 else -x

/-- The assembled block of the samples taken (R70). -/
def polarised (invert : Bool) (b : Block) : Block := if invert then b.map invertSample else b

/-- The largest magnitude of a block (R72). -/
def blockPeak (b : Block) : Nat := b.list.foldl (fun p x => max p x.natAbs) 0

/-- What a BOUND slot takes for block N, and the status that says how (R67, R68). -/
def slotTaking (r : Ring) (n : BlockNo) (k : Slot) : Block × SlotStatus :=
  match r.present n k.stream with
  | some e => (r.samples e k.channel, if e.damaged then .damaged else .fresh)
  | none =>
    if k.repeatOnce ∧ (k.status = .fresh ∨ k.status = .damaged) then (k.history, .repeated) else (silence, .missing)

/-- A slot at a boundary that mixes N (R67, R69 to R73). -/
def assembleSlot (r : Ring) (n : BlockNo) (k : Slot) : Slot :=
  if k.bound then
    let (taken, status) := slotTaking r n k
    let absent := status == .repeated || status == .missing
    { k with
      status := status
      misses := if absent then count16 k.misses else k.misses
      history := taken
      assembled := polarised k.invert taken
      peak := max k.peak (blockPeak (polarised k.invert taken))
      condition := absent }
  else { k with condition := false }

/-- A slot on entry into STOPPED (R75). -/
def Slot.stopped (k : Slot) : Slot :=
  { k with status := .none, history := silence, assembled := silence, condition := false }

/-! ## Requests -/

/-- BIND_SLOT (R63). The slot keeps its SLOT condition until the next boundary (R73). -/
def bindSlot (slot stream channel polarity hold : Byte) : Owner := fun s =>
  match index? 48 slot, index? 8 stream, index? 8 channel with
  | some i, some g, some c =>
    match flag? polarity, flag? hold with
    | some invert, some repeatOnce =>
      if (s.slots.get i).bound then (s, .fail .slotInUse)
      else if ¬ (s.stage.streams.get g).bound then (s, .fail .notBound)
      else if (s.stage.streams.get g).channels ≤ c.val then (s, .fail .channelRange)
      else
        (s.withSlots (s.slots.modify i fun k =>
          { Slot.unbound with bound := true, stream := g, channel := c.val, invert := invert, repeatOnce := repeatOnce,
                              condition := k.condition }), .done [])
    | _, _ => (s, .fail .badValue)
  | _, _, _ => (s, .fail .badIndex)

/-- SET_SLOT (R64). -/
def setSlot (slot polarity hold : Byte) : Owner := fun s =>
  match index? 48 slot with
  | none => (s, .fail .badIndex)
  | some i =>
    match flag? polarity, flag? hold with
    | some invert, some repeatOnce =>
      if (s.slots.get i).bound then
        (s.withSlots (s.slots.modify i fun k => { k with invert := invert, repeatOnce := repeatOnce }), .done [])
      else (s, .fail .notBound)
    | _, _ => (s, .fail .badValue)

/-- UNBIND_SLOT (R65). The slot keeps its SLOT condition until the next boundary (R73). -/
def unbindSlot (slot : Byte) : Owner := fun s =>
  match index? 48 slot with
  | none => (s, .fail .badIndex)
  | some i =>
    if (s.slots.get i).bound then
      (s.withSlots (s.slots.modify i fun k => { Slot.unbound with condition := k.condition }), .done [])
    else (s, .fail .notBound)

/-- QUERY_SLOT (R66). The miss counter takes 2 bytes, as in the SLOT notice and the SLOT_MISS group of R213 (log 16, DEDUCED). -/
def querySlot (slot : Byte) : Owner := fun s =>
  match index? 48 slot with
  | none => (s, .fail .badIndex)
  | some i =>
    let k := s.slots.get i
    (s, .data (boundByte k.bound ++ be1 k.stream.val
      ++ be3 (if k.bound then (s.stage.streams.get k.stream).id.toNat else 0)
      ++ be1 k.channel ++ yesNo k.invert ++ yesNo k.repeatOnce ++ be1 (statusCode k.status) ++ be2 k.misses ++ be3 k.peak))

/-! ## Meanings -/

def execBindSlot (tag : Byte) (fields : List Byte) (s : State) : Host.Outcome State Fault Refusal :=
  .next (takeRequest 0x28 tag
    (match fields with
     | [slot, stream, channel, polarity, hold] => some (bindSlot slot stream channel polarity hold)
     | _ => none) s)

def execSetSlot (tag : Byte) (fields : List Byte) (s : State) : Host.Outcome State Fault Refusal :=
  .next (takeRequest 0x29 tag
    (match fields with | [slot, polarity, hold] => some (setSlot slot polarity hold) | _ => none) s)

def execUnbindSlot (tag : Byte) (fields : List Byte) (s : State) : Host.Outcome State Fault Refusal :=
  .next (takeRequest 0x2A tag (match fields with | [slot] => some (unbindSlot slot) | _ => none) s)

def execQuerySlot (tag : Byte) (fields : List Byte) (s : State) : Host.Outcome State Fault Refusal :=
  .next (takeRequest 0x2B tag (match fields with | [slot] => some (querySlot slot) | _ => none) s)

end Sys2Proof.Machine
end

