-- ==== Sys2Proof/Machine/Mixes.lean ====
section
/-! DEFINITION. Mixes and the send pool (05): gains of level codes, effective codes and targets, the edits of live mixes,
trims and dim. The requests' meanings that need the pack line or the cues stand in PackLine.lean and Cues.lean. -/

namespace Sys2Proof.Machine

/-! ## Gains, effective codes, targets (R79 to R83) -/

/-- The gain G(L) of a level code, in Q16 (R79). -/
def gainOf (level : Nat) : Nat :=
  if level = 0 then 0 else Config.mantissa (level % 8) * 2 ^ (level / 8) / 16384

/-- min(127, max(1, code)) as a level code (R80, R82). -/
def soundingCode (code : Int) : Nat := (clampInt 1 127 code).toNat

/-- The effective code of a send in its mix (R80). -/
def effectiveCode (m : Mix) (d : Send) : Nat :=
  if d.level = 0 ∨ d.mute then 0 else soundingCode (d.level + (if d.self then m.self else m.others))

/-- A gain weighted by sixteenths (R81). -/
def weighted (gain : Nat) (weight : Int) : Nat := gain * weight.toNat / 16

/-- The targets of a send in its mix, left and right (R81). -/
def sendTargets (m : Mix) (d : Send) : Nat × Nat :=
  if d.removing then (0, 0)
  else
    let g := gainOf (effectiveCode m d)
    if m.stereo then (weighted g (min 16 (16 - d.balance)), weighted g (min 16 (16 + d.balance))) else (g, 0)

/-- A send with its targets recomputed (R83). -/
def Send.retarget (m : Mix) (d : Send) : Send :=
  { d with targetLeft := (sendTargets m d).1, targetRight := (sendTargets m d).2 }

/-- A send with its currents set equal to its targets (R105). -/
def Send.cut (d : Send) : Send := { d with currentLeft := d.targetLeft, currentRight := d.targetRight }

/-- The effective master code (R82). -/
def effectiveMaster (m : Mix) : Nat :=
  if m.master = 0 then 0 else soundingCode (m.master + m.volume - (if m.dim.isSome then 16 else 0))

/-- The master target (R82). -/
def masterTargetOf (m : Mix) : Nat :=
  match m.state with
  | .on => gainOf (effectiveMaster m)
  | .fading => 0
  | .off => 0

/-- A mix with its master target recomputed (R83). -/
def Mix.retargetMaster (m : Mix) : Mix := { m with masterTarget := masterTargetOf m }

/-- A mix with the targets recomputed of the sends that satisfy p (R83). -/
def Mix.retargetSends (m : Mix) (p : Send → Bool) : Mix :=
  { m with sends := m.sends.map fun d => if p d then d.retarget m else d }

/-- A mix with every target recomputed (R83). -/
def Mix.retarget (m : Mix) : Mix := (m.retargetSends fun _ => true).retargetMaster

/-- A mix with the currents of every send cut to its targets (R85, R105). -/
def Mix.cutSends (m : Mix) : Mix := { m with sends := m.sends.map Send.cut }

/-! ## The send list and the pool (R77, R78) -/

/-- The record on a slot. -/
def Mix.sendOn (m : Mix) (i : Fin 48) : Option Send := m.sends.find? fun d => d.slot == i

/-- The ACTIVE send on a slot. -/
def Mix.activeOn (m : Mix) (i : Fin 48) : Option Send := m.sends.find? fun d => d.slot == i && !d.removing

/-- A list with a record inserted after every record of a lower slot and before every one of a higher slot (R90, R126). -/
def insertBySlot (slotOf : α → Fin 48) (v : α) : List α → List α
  | [] => [v]
  | d :: rest => if slotOf v < slotOf d then v :: d :: rest else d :: insertBySlot slotOf v rest

/-- A mix with f applied to the record on a slot. -/
def Mix.updateSend (m : Mix) (i : Fin 48) (f : Send → Send) : Mix :=
  { m with sends := m.sends.map fun d => if d.slot = i then f d else d }

/-- A mix without the record on a slot. -/
def Mix.dropSend (m : Mix) (i : Fin 48) : Mix := { m with sends := m.sends.filter fun d => d.slot != i }

/-- A mix without its REMOVING records. -/
def Mix.dropRemoving (m : Mix) : Mix := { m with sends := m.sends.filter fun d => !d.removing }

/-- Send records in use, and free (R77). -/
def poolUsed (mixes : Table Mix 16) : Nat := (mixes.list.map fun m => m.sends.length).sum
def poolFree (mixes : Table Mix 16) : Nat := Config.poolCap - poolUsed mixes

/-! ## Edits of a live mix (R84 to R93) -/

/-- A change of kind acts on the currents of every send record, by the state of the mix (R86; log 11). -/
def Mix.changeKind (m : Mix) (stereo : Bool) : Mix :=
  { m with
    stereo := stereo
    sends :=
      if m.stereo = stereo then m.sends
      else if stereo then
        (if m.state = .off then m.sends else m.sends.map fun d => { d with currentRight := d.currentLeft })
      else m.sends.map fun d => { d with currentRight := 0 } }

/-- The numeric settings of a mix replaced (R84). -/
def Mix.withSettings (m : Mix) (master ceiling release click : Nat) : Mix :=
  { m with master := master, ceiling := ceiling, release := release, click := click }

/-- The state that MIX_SET moves a mix to (R85). -/
def requestedState (mixing : Bool) (before : MixState) (on : Bool) : MixState :=
  if on then .on
  else
    match before with
    | .off => .off
    | .on => if mixing then .fading else .off
    | .fading => .fading

/-- A mix that becomes OFF at once: master current and target 0, no REMOVING send (R76, R85). -/
def Mix.turnedOff (m : Mix) : Mix := { m.dropRemoving with state := .off, masterCurrent := 0, masterTarget := 0 }

/-- MIX_SET with target LIVE on a mix record (R84 to R86). -/
def Mix.set (m : Mix) (mixing on stereo : Bool) (master ceiling release click : Nat) : Mix :=
  let next := requestedState mixing m.state on
  let m' := ({ (m.changeKind stereo).withSettings master ceiling release click with state := next } : Mix).retarget
  if m.state = .off ∧ next = .on then m'.cutSends
  else if m.state = .on ∧ next = .off then m'.turnedOff
  else m'

/-- What MIX_SET reports (R84). -/
def mixReport (m : Mix) : List Byte :=
  be1 (mixStateCode m.state) ++ yesNo m.stereo ++ be1 m.master ++ be1 m.ceiling ++ be2 m.release ++ be1 m.click

/-- MIX_SET with target LIVE (R84 to R86, R115). -/
def mixSetLive (mix state kind master ceiling rel1 rel2 click : Byte) : Owner := fun s =>
  match index? 16 mix with
  | none => (s, .fail .badIndex)
  | some i =>
    match flag? state, flag? kind with
    | some on, some stereo =>
      let m := s.mixes.get i
      let m' := m.set s.clock.mixing on stereo (levelCode master) (clampNat 64 112 ceiling.toNat)
        (clampNat 1 4096 (nat16 rel1 rel2)) (levelCode click)
      let s' := s.withMixes (s.mixes.set i m')
      (if m.state ≠ .off ∧ m'.state = .off then
        s'.withLimiters (s.limiters.modify i fun l => { l with gain := Config.unity })
       else s', .done (mixReport m'))
    | _, _ => (s, .fail .badValue)

/-- ADD_SEND on a mix record: the record inserted, with targets by R81 and currents 0 (R90). -/
def Mix.insertSend (m : Mix) (i : Fin 48) (level : Nat) (balance : Int) (self mute : Bool) : Mix :=
  let d : Send := { slot := i, level := level, balance := balance, self := self, mute := mute, removing := false,
                    currentLeft := 0, currentRight := 0, targetLeft := 0, targetRight := 0 }
  { m with sends := insertBySlot Send.slot (d.retarget m) m.sends }

/-- The REMOVING record on a slot revived with new values; its currents stay (R91). -/
def Mix.reviveSend (m : Mix) (i : Fin 48) (level : Nat) (balance : Int) (self mute : Bool) : Mix :=
  m.updateSend i fun d =>
    ({ d with level := level, balance := balance, self := self, mute := mute, removing := false } : Send).retarget m

/-- ADD_SEND with target LIVE (R89 to R91). -/
def addSendLive (mix slot level balance self mute : Byte) : Owner := fun s =>
  match index? 16 mix, index? 48 slot with
  | some i, some k =>
    match flag? self, flag? mute with
    | some self, some mute =>
      let m := s.mixes.get i
      let report := be1 (levelCode level) ++ signed1 (trimCode balance)
      if (m.activeOn k).isSome then (s, .fail .sendExists)
      else if (m.sendOn k).isSome then
        (s.withMixes (s.mixes.set i (m.reviveSend k (levelCode level) (trimCode balance) self mute)),
         .done (report ++ be1 1))
      else if Config.mixSendCap ≤ m.sends.length then (s, .fail .mixFull)
      else if poolFree s.mixes = 0 then (s, .fail .poolFull)
      else
        (s.withMixes (s.mixes.set i (m.insertSend k (levelCode level) (trimCode balance) self mute)),
         .done (report ++ be1 0))
    | _, _ => (s, .fail .badValue)
  | _, _ => (s, .fail .badIndex)

/-- The change flags of SET_SEND (R212). -/
structure SendChange where
  level : Option Nat
  balance : Option Int
  self : Option Bool
  mute : Option Bool

/-- The selected fields of SET_SEND; none when a selected self or mute is neither OFF nor ON (R92). -/
def sendChange? (flags level balance self mute : Byte) : Option SendChange :=
  let change : SendChange :=
    { level := if flags.getLsbD 0 then some (levelCode level) else none
      balance := if flags.getLsbD 1 then some (trimCode balance) else none
      self := if flags.getLsbD 2 then flag? self else none
      mute := if flags.getLsbD 3 then flag? mute else none }
  if (flags.getLsbD 2 ∧ (flag? self).isNone) ∨ (flags.getLsbD 3 ∧ (flag? mute).isNone) then none else some change

/-- Whether SET_SEND selects no field. -/
def SendChange.isEmpty (c : SendChange) : Bool :=
  c.level.isNone && c.balance.isNone && c.self.isNone && c.mute.isNone

/-- A send with the selected fields replaced (R92). -/
def SendChange.apply (c : SendChange) (d : Send) : Send :=
  { d with level := c.level.getD d.level, balance := c.balance.getD d.balance, self := c.self.getD d.self,
           mute := c.mute.getD d.mute }

/-- The four fields of a send that SET_SEND reports (R92, R126). -/
def sendReport (level : Nat) (balance : Int) (self mute : Bool) : List Byte :=
  be1 level ++ signed1 balance ++ yesNo self ++ yesNo mute

/-- SET_SEND with target LIVE (R92). -/
def setSendLive (mix slot flags level balance self mute : Byte) : Owner := fun s =>
  match index? 16 mix, index? 48 slot with
  | some i, some k =>
    match sendChange? flags level balance self mute with
    | none => (s, .fail .badValue)
    | some change =>
      let m := s.mixes.get i
      match m.activeOn k with
      | none => (s, .fail .noSend)
      | some d =>
        let d' := change.apply d
        (if change.isEmpty then s
         else s.withMixes (s.mixes.set i (m.updateSend k fun d => (change.apply d).retarget m)),
         .done (sendReport d'.level d'.balance d'.self d'.mute))
  | _, _ => (s, .fail .badIndex)

/-- REMOVE_SEND with target LIVE (R93). -/
def removeSendLive (mix slot : Byte) : Owner := fun s =>
  match index? 16 mix, index? 48 slot with
  | some i, some k =>
    let m := s.mixes.get i
    if (m.activeOn k).isNone then (s, .fail .noSend)
    else if s.clock.mixing ∧ m.state ≠ .off then
      (s.withMixes (s.mixes.set i (m.updateSend k fun d => ({ d with removing := true } : Send).retarget m)),
       .done (be1 0))
    else (s.withMixes (s.mixes.set i (m.dropSend k)), .done (be1 1))
  | _, _ => (s, .fail .badIndex)

/-! ## Trims, offsets and dim (R94 to R96) -/

/-- A trim with a step: the step clamped, the sum saturated (R94). -/
def stepped (trim step : Int) : Int := clampInt (-16) 16 (trim + clampInt (-16) 16 step)

/-- A volume step: on the volume trim, or on the saved trim while dim is ON (R94). -/
def Mix.stepVolume (m : Mix) (step : Int) : Mix :=
  match m.dim with
  | some saved => { m with dim := some (stepped saved step) }
  | none => ({ m with volume := stepped m.volume step } : Mix).retargetMaster

/-- A self step (R94). -/
def Mix.stepSelf (m : Mix) (step : Int) : Mix :=
  ({ m with self := stepped m.self step } : Mix).retargetSends fun d => d.self && !d.removing

/-- An others step (R94). -/
def Mix.stepOthers (m : Mix) (step : Int) : Mix :=
  ({ m with others := stepped m.others step } : Mix).retargetSends fun d => !d.self && !d.removing

/-- Dim set ON: the volume trim is saved, the master lowered, and cut if the mix is ON (R95). -/
def Mix.dimOn (m : Mix) : Mix :=
  match m.dim with
  | some _ => m
  | none =>
    let m' := ({ m with dim := some m.volume } : Mix).retargetMaster
    if m.state = .on then { m' with masterCurrent := m'.masterTarget } else m'

/-- Dim set OFF: the saved trim returns (R95). -/
def Mix.dimOff (m : Mix) : Mix :=
  match m.dim with
  | none => m
  | some saved => ({ m with volume := saved, dim := none } : Mix).retargetMaster

/-- SET_TRIM on a mix record (R96). -/
def Mix.setTrim (m : Mix) (volume self others : Int) (dim : Bool) : Mix :=
  let m' : Mix := { m with self := self, others := others }
  (match m.dim, dim with
   | none, false => { m' with volume := volume }
   | none, true => ({ m' with volume := volume } : Mix).dimOn
   | some _, true => { m' with dim := some volume }
   | some _, false => { m'.dimOff with volume := volume }).retarget

/-- The TRIMS message of a mix (R97, R144, R179). -/
def trimsOf (m : Mix) : PackMessage := .trims (m.dim.getD m.volume) m.self m.others m.dim.isSome

/-! ## Resets (R99) -/

/-- A mix on entry into STOPPED (R99). -/
def Mix.stopped (m : Mix) : Mix :=
  let m' := m.dropRemoving
  { m' with
    state := if m.state = .fading then .off else m.state
    masterCurrent := 0
    masterTarget := if m.state = .fading then 0 else m.masterTarget
    sends := m'.sends.map fun d => { d with currentLeft := 0, currentRight := 0 } }

end Sys2Proof.Machine
end

