-- ==== Sys2Proof/Machine/Compute.lean ====
section
/-! DEFINITION. Mix computation (06): glide, sum, master, click, limiter and output of one mix at a boundary, and what the
Mix Table settles after it. -/

namespace Sys2Proof.Machine

/-! ## Glide (R104) -/

/-- One glide step of a current gain toward its target (R104). -/
def glide (current target : Nat) : Nat :=
  let step := ((target : Int) - current).tdiv 4
  if step = 0 then target else ((current : Int) + step).toNat

/-- The glide of a send: both sides in a STEREO mix, the left in a MONO mix (R104). -/
def Send.glided (stereo : Bool) (d : Send) : Send :=
  { d with
    currentLeft := glide d.currentLeft d.targetLeft
    currentRight := if stereo then glide d.currentRight d.targetRight else d.currentRight }

/-- Stage 1 of a computed mix. -/
def Mix.glided (m : Mix) : Mix :=
  { m with masterCurrent := glide m.masterCurrent m.masterTarget, sends := m.sends.map (Send.glided m.stereo) }

/-! ## Sum, master, click (R107, R109, R110) -/

/-- A Q16 product or sum brought to an integer: nearest, a half upward (R107, R109, R110). -/
def roundQ16 (x : Int) : Int := (x + 32768) / 65536

/-- The accumulators of one channel: for each period the sum of sample times gain, in list order (R107). -/
def accumulate (slots : Table Slot 48) (gainOfSend : Send → Nat) (sends : List Send) : Block :=
  sends.foldl (fun acc d => Table.zipWith (fun a x => a + x * (gainOfSend d : Int)) acc (slots.get d.slot).assembled) silence

/-- The value that a click sample adds at a click level code (R110). -/
def clickAdd (code : Nat) : Option Sample → Int
  | none => 0
  | some x => if code = 0 then 0 else roundQ16 (x * (gainOf code : Int))

/-- Stages 2 to 4 of one channel (R107, R109, R110). -/
def channelOf (slots : Table Slot 48) (clicks : Table (Option Sample) 16) (m : Mix) (gainOfSend : Send → Nat) : Block :=
  Table.zipWith (fun acc x => roundQ16 (roundQ16 acc * (m.masterCurrent : Int)) + clickAdd m.click x)
    (accumulate slots gainOfSend m.sends) clicks

/-! ## Limiter and output (R111 to R113) -/

/-- The ceiling C of a ceiling code (R111). -/
def ceilingOf (code : Nat) : Nat := 8388607 * gainOf code / Config.unity

/-- The release candidate (R112). -/
def releaseCandidate (gain release : Nat) : Nat := min Config.unity (gain + release)

/-- The new limiter gain for a block of peak p (R112). -/
def limiterGain (gain release ceiling p : Nat) : Nat :=
  let cand := releaseCandidate gain release
  if ceiling * Config.unity < p * cand then ceiling * Config.unity / p else cand

/-- An output sample (R113). -/
def outSample (gain ceiling : Nat) (z : Int) : Sample := clampInt (-ceiling) ceiling ((z * gain).tdiv Config.unity)

/-! ## One mix at a boundary -/

/-- What a boundary makes of a mix: its record and limiter after settling, its output block, and the block's peak before
the limiter (0 when the mix is OFF after the boundary, R117). -/
structure Computed where
  mix : Mix
  limiter : Limiter
  block : Option OutBlock
  peak : Nat
  deriving DecidableEq, Repr

/-- The Mix Table settles a computed mix: REMOVING sends at 0 are freed, and a FADING mix at master 0 becomes OFF (R87,
R88). -/
def Mix.settled (m : Mix) : Mix :=
  let m' : Mix := { m with sends := m.sends.filter fun d => !(d.removing && d.currentLeft == 0 && d.currentRight == 0) }
  if m.state = .fading ∧ m.masterCurrent = 0 then { m'.dropRemoving with state := .off } else m'

/-- One mix at a boundary that mixes a block (R102, R103). -/
def computeMix (slots : Table Slot 48) (clicks : Table (Option Sample) 16) (i : Fin 16) (m : Mix) (l : Limiter) : Computed :=
  match m.state with
  | .off => { mix := m, limiter := { l with condition := false }, block := none, peak := 0 }
  | _ =>
    let g := m.glided
    let left := channelOf slots clicks g Send.currentLeft
    let right := if g.stereo then channelOf slots clicks g Send.currentRight else silence
    let p := max (blockPeak left) (blockPeak right)
    let c := ceilingOf g.ceiling
    let gain := limiterGain l.gain g.release c p
    let outLeft := left.map (outSample gain c)
    let outRight := right.map (outSample gain c)
    let m' := g.settled
    let off := m'.state = .off
    { mix := m'
      limiter :=
        { gain := if off then Config.unity else gain
          peak := max l.peak (max (blockPeak outLeft) (blockPeak outRight))
          lowest := min l.lowest gain
          condition := decide (gain < Config.unity ∧ ¬ off) }
      block := some { mix := i, stereo := g.stereo, left := outLeft, right := outRight }
      peak := if off then 0 else p }

/-- Every mix at a boundary (R102). -/
def computeMixes (s : State) (clicks : Table (Option Sample) 16) : Table Computed 16 :=
  Table.tabulate fun i => computeMix s.slots clicks i (s.mixes.get i) (s.limiters.get i)

end Sys2Proof.Machine
end

