-- ==== Sys2Proof/Machine/PackLine.lean ====
section
/-! DEFINITION. The pack line (08, 09): message queue, downstream frame, arbiter, upstream windows, joining, presence and pack
requests; the requests SET_TRIM, QUERY_MIX, ASSIGN_PACK, REMOVE_PACK, PACK_TEXT and QUERY_PACK. -/

namespace Sys2Proof.Machine

/-! ## Pack table and message queue -/

/-- Entries of the message queue in use, the reservation included, and free (R145). -/
def PackLine.inUse (l : PackLine) : Nat := l.queue.length + (if l.window.isSome then 1 else 0)
def PackLine.free (l : PackLine) : Nat := Config.packQueueCap - l.inUse

/-- A record with f applied to it. -/
def PackLine.updatePack (l : PackLine) (a : Fin 24) (f : Pack → Pack) : PackLine := { l with packs := l.packs.modify a f }

/-- A count in a pack record. -/
def Pack.countIn (p : Pack) (f : PackCounters → PackCounters) : Pack := { p with counters := f p.counters }

/-- The owner of a mix: the PRESENT or LOST record with role OWNER on it (R158). -/
def PackLine.ownerOf (l : PackLine) (m : Fin 16) : Option (Fin 24) :=
  l.packs.find? fun p => (p.state == .present || p.state == .lost) && p.role == .owner && p.mix == some m

/-- Whether another record than that of address a owns a mix (R153 test 4). -/
def PackLine.ownedByOther (l : PackLine) (m : Fin 16) (a : Fin 24) : Bool :=
  (l.packs.where? fun p => (p.state == .present || p.state == .lost) && p.role == .owner && p.mix == some m).any (· != a)

/-- A message is queued at the back with age 0 (R146). -/
def PackLine.enqueue (l : PackLine) (a : Fin 24) (urgent : Bool) (m : PackMessage) : PackLine :=
  { l with queue := l.queue ++ [{ address := a, urgent := urgent, message := m, age := 0 }] }

/-- The queued messages that satisfy p are discarded and counted (R150). -/
def PackLine.discard (l : PackLine) (p : Queued → Bool) : PackLine :=
  { l with queue := l.queue.filter fun q => !p q
           queueDropped := addCount32 l.queueDropped (l.queue.filter p).length }

/-- The record of an address becomes FREE: it keeps its counters, its messages are discarded, an open window of its is
marked (R150, R151, R158). -/
def PackLine.freePack (l : PackLine) (a : Fin 24) : PackLine :=
  let l' := (l.updatePack a fun p => Pack.freeWith p.counters).discard fun q => q.address == a
  { l' with urgentOrder := l'.urgentOrder.filter (· != a)
            window := l'.window.map fun w => if w.address = a then { w with freed := true } else w }

/-! ## The downstream frame (R147 to R152, R165 to R167) -/

/-- Whether a queued message may be carried: URGENT, or NORMAL for a PRESENT pack that is not busy (R148). -/
def PackLine.eligible (l : PackLine) (q : Queued) : Bool :=
  let p := l.packs.get q.address
  q.urgent || (p.state == .present && !p.busy)

/-- The messages among which the oldest is carried: the URGENT ones if there is one, else the eligible ones (R147). -/
def PackLine.mayCarry (l : PackLine) (q : Queued) : Bool :=
  if l.queue.any Queued.urgent then q.urgent else l.eligible q

/-- The message that the frame carries (R147). -/
def PackLine.carried (l : PackLine) : Option Queued := l.queue.find? l.mayCarry

/-- Whether an OFFER for a JOINING record is carried to this address (R172). -/
def PackLine.carriesOfferTo (l : PackLine) (a : Fin 24) : Bool :=
  match l.carried with
  | some q => q.address == a && (match q.message with | .offer .. => true | _ => false)
      && (l.packs.get a).state == .joining
  | none => false

/-- Steps 1 and 2 of the boundary: the carried message leaves, the others are aged (R147, R149). -/
def PackLine.afterCarriage (l : PackLine) : PackLine :=
  let aged := (l.queue.eraseP l.mayCarry).map fun q => { q with age := q.age + 1 }
  { l with queue := aged.filter fun q => decide (q.age ≤ Config.maxAge)
           queueAgedOut := addCount32 l.queueAgedOut (aged.filter fun q => decide (Config.maxAge < q.age)).length }

/-- Ticks since offer at a boundary: 0 where an OFFER is carried now, one more where one was carried earlier (R165, R172;
log 13). -/
def Pack.ticked (carriedNow : Bool) (p : Pack) : Pack :=
  if p.state = .joining then
    (if carriedNow then { p with offerSent := true, ticks := 0 }
     else if p.offerSent then { p with ticks := min (p.ticks + 1) 255 }
     else p)
  else p

/-- The pack records after the carriage of this boundary (R165, R172). -/
def PackLine.tickedPacks (l : PackLine) : Table Pack 24 :=
  Table.tabulate fun a => (l.packs.get a).ticked (l.carriesOfferTo a)

/-- Whether a record is due a confirm (R172). -/
def Pack.due (p : Pack) : Bool :=
  p.state == .joining && p.offerSent && decide ((if p.attempts = 0 then 1 else 8) ≤ p.ticks)

/-- The first PRESENT address after the last round-robin address, cyclically (R165 case 4). -/
def PackLine.nextPresent (l : PackLine) : Option (Fin 24) :=
  let present := l.packs.where? fun p => p.state == .present
  (present.find? fun a => decide (l.roundRobin ≤ a.val)).or present.head?

/-- The front of the urgent order among the PRESENT records (R165 case 3). -/
def PackLine.nextUrgent (l : PackLine) : Option (Fin 24) :=
  l.urgentOrder.find? fun a => (l.packs.get a).state == .present

/-- The arbiter's choice: the grant, and the last class it leaves (R165). -/
def PackLine.choose (l : PackLine) : Grant × Bool :=
  if l.free = 0 then (.idle, l.lastUrgent)
  else
    match (if l.lastUrgent then none else l.packs.find? Pack.due), (if l.lastUrgent then none else l.nextUrgent),
      l.nextPresent with
    | some a, _, _ => (.confirm a, true)
    | none, some a, _ => (.poll a, true)
    | none, none, some a => (.poll a, false)
    | none, none, none => (.idle, false)

/-- Step 3: the grant is made, its record counts it, and its entry is reserved (R165, R151). -/
def PackLine.granted (l : PackLine) : PackLine :=
  match l.choose with
  | (.idle, urgent) => { l with lastUrgent := urgent, window := none }
  | (.confirm a, urgent) =>
    { l.updatePack a (Pack.countIn · fun c => { c with grants := count32 c.grants }) with
      lastUrgent := urgent, window := some { confirm := true, address := a, freed := false } }
  | (.poll a, urgent) =>
    { l.updatePack a (Pack.countIn · fun c => { c with grants := count32 c.grants }) with
      lastUrgent := urgent
      roundRobin := if urgent then l.roundRobin else addressNumber a
      window := some { confirm := false, address := a, freed := false } }

/-- The announce flag of a boundary that mixes N (R143, R167). -/
def PackLine.announces (l : PackLine) (n : BlockNo) : Bool := n.toNat % 32 == 0 || decide (0 < l.recovery)

/-- The work of a boundary that mixes N, in the order of R152; the frame is sent with the mix blocks (R141, R142). -/
def PackLine.sendFrame (l : PackLine) (n : BlockNo) (blocks : List OutBlock) : PackLine :=
  let l1 := { l.afterCarriage with packs := l.tickedPacks }
  let l2 := l1.granted
  { l2 with
    announceOpen := l2.announces n
    recovery := l2.recovery - 1
    frame := some { block := n, grant := l1.choose.1, announce := l2.announces n, mixes := blocks
                    control := l.carried.map fun q => (q.address, q.message) } }

/-! ## The announce window (R168 to R171) -/

/-- The fields of a PACK notice about a record (R180). -/
def packInfo (p : Pack) (busy : Option Bool) : NoticeInfo := .pack p.serial p.mix (some p.role) busy none

/-- A refused HELLO (R171). -/
def State.refuseJoin (s : State) (serial : Serial) (reason : JoinRefusal) : State :=
  (s.withLine { s.line with refusedJoins := count32 s.line.refusedJoins }).raisePack
    (packNotice s .refusedJoin 0 (.pack serial none none none (some reason)))

/-- The OFFER of an address is queued, URGENT. -/
def PackLine.offer (l : PackLine) (serial : Serial) (a : Fin 24) : PackLine := l.enqueue a true (.offer serial a)

/-- A HELLO from a serial that no record holds (R169). -/
def State.helloUnknown (s : State) (serial : Serial) : State :=
  match s.line.packs.find? fun p => p.state == .free with
  | none => s.refuseJoin serial .tableFull
  | some a =>
    if s.line.free = 0 then s.refuseJoin serial .queueFull
    else
      s.withLine ((s.line.updatePack a fun _ =>
        { Pack.freeWith PackCounters.zero with state := .joining, serial := serial }).offer serial a)

/-- A HELLO from the serial of the record at address a (R170). -/
def State.helloKnown (s : State) (serial : Serial) (a : Fin 24) : State :=
  if s.line.free = 0 then s.refuseJoin serial .queueFull
  else
    match (s.line.packs.get a).state with
    | .present => s.withLine ((s.line.updatePack a fun p => { p with presence := 127 }).offer serial a)
    | .lost =>
      let l := s.line.updatePack a fun p =>
        { p with state := .present, presence := 127, busy := false,
                 counters := { p.counters with rejoins := count32 p.counters.rejoins } }
      let l := { l with urgentOrder := l.urgentOrder.filter (· != a) }
      (s.withLine (l.offer serial a)).raisePack
        (packNotice s .rejoin (addressNumber a) (packInfo (l.packs.get a) none))
    | _ => s.withLine (s.line.offer serial a)

/-- A valid HELLO is taken (R169, R170). -/
def State.hello (s : State) (serial : Serial) : State :=
  match s.line.packs.find? fun p => p.state != .free && p.serial == serial with
  | some a => s.helloKnown serial a
  | none => s.helloUnknown serial

/-- A COLLISION in an announce window (R168). -/
def State.collision (s : State) : State :=
  if s.line.collisionRun < 15 then
    s.withLine { s.line with collisionRun := s.line.collisionRun + 1, recovery := 8,
                             collisions := count32 s.line.collisions }
  else
    (s.withLine { s.line with collisionRun := 0, recovery := 0, collisions := count32 s.line.collisions,
                              announceStorms := count32 s.line.announceStorms }).raisePack
      (packNotice s .announceStorm 0 (.pack 0 none none none none))

/-- An open announce window closes with what was heard in it: nothing, or a signal (R160, R168). -/
def State.closeAnnounce (s : State) (heard : Option (List Byte)) : State :=
  if s.line.announceOpen then
    let s' := s.withLine { s.line with announceOpen := false }
    match heard with
    | none => s'.withLine { s'.line with collisionRun := 0 }
    | some signal =>
      match upstreamMessage signal with
      | some (.hello serial) => (s'.withLine { s'.line with collisionRun := 0 }).hello serial
      | _ => s'.collision
  else s

/-! ## The granted window (R161 to R163, R173 to R179) -/

/-- A window that is SILENT or taken as SILENT, for its record (R161). -/
def PackLine.countSilent (l : PackLine) (a : Fin 24) : PackLine :=
  l.updatePack a (Pack.countIn · fun c => { c with silent := count32 c.silent })

def PackLine.countUpstreamError (l : PackLine) : PackLine := { l with upstreamErrors := count32 l.upstreamErrors }

/-- A valid NOTHING or REQUEST reloads presence and sets the flags (R161, R162). -/
def PackLine.takeFlags (l : PackLine) (a : Fin 24) (flags : Byte) : PackLine :=
  let l' := l.updatePack a fun p =>
    { p with presence := 127, busy := flags.getLsbD 0, counters := { p.counters with answers := count32 p.counters.answers } }
  { l' with
    urgentOrder :=
      if flags.getLsbD 1 then (if l.urgentOrder.contains a then l.urgentOrder else l.urgentOrder ++ [a])
      else l.urgentOrder.filter (· != a) }

/-- The request kinds of a REQUEST (R215). -/
inductive PackRequest where
  | volume | self | others | dim | undim | queryTrims
  deriving DecidableEq, Repr

def packRequest? (kind : Byte) : Option PackRequest :=
  match kind.toNat with
  | 1 => some .volume
  | 2 => some .self
  | 3 => some .others
  | 4 => some .dim
  | 5 => some .undim
  | 6 => some .queryTrims
  | _ => none

/-- What a request of the owner does to its mix (R176 to R178). -/
def Mix.packRequest (m : Mix) (r : PackRequest) (value : Int) : Mix :=
  match r with
  | .volume => m.stepVolume value
  | .self => m.stepSelf value
  | .others => m.stepOthers value
  | .dim => m.dimOn
  | .undim => m.dimOff
  | .queryTrims => m

/-- Whether a request carried out is answered with TRIMS: the steps only with the more flag clear (R176 to R178). -/
def PackRequest.answered (r : PackRequest) (more : Bool) : Bool :=
  match r with
  | .volume => !more
  | .self => !more
  | .others => !more
  | _ => true

/-- A REQUEST is decided, after its flags have been taken (R175). -/
def State.decideRequest (s : State) (a : Fin 24) (kind : Byte) (value : Int) (more : Bool) : State :=
  match packRequest? kind with
  | none => s.withLine { s.line with badRequests := count32 s.line.badRequests }
  | some r =>
    let p := s.line.packs.get a
    let counted := s.line.updatePack a (Pack.countIn · fun c => { c with requests := count32 c.requests })
    let refused := counted.updatePack a (Pack.countIn · fun c => { c with refusals := count32 c.refusals })
    match p.mix with
    | none => s.withLine (refused.enqueue a false .refusedNoMix)
    | some m =>
      if p.role = .listener ∧ r ≠ .queryTrims then s.withLine (refused.enqueue a false .refusedNotOwner)
      else
        let mix := (s.mixes.get m).packRequest r value
        (s.withMixes (s.mixes.set m mix)).withLine
          (if r.answered more then counted.enqueue a (r == .dim) (trimsOf mix) else counted)

/-- The close of a POLL window whose record is still in the table (R161, R162, R175). -/
def State.closePoll (s : State) (a : Fin 24) (heard : Option (List Byte)) : State :=
  match heard with
  | none => s.withLine (s.line.countSilent a)
  | some signal =>
    match upstreamMessage signal with
    | some (.nothing flags) => s.withLine (s.line.takeFlags a flags)
    | some (.request kind value flags) =>
      (s.withLine (s.line.takeFlags a flags)).decideRequest a kind value (flags.getLsbD 2)
    | _ => s.withLine (s.line.countSilent a).countUpstreamError

/-- A confirm window without the record's CONFIRM (R173). -/
def State.confirmFailed (s : State) (a : Fin 24) : State :=
  let p := s.line.packs.get a
  if p.attempts + 1 < 4 then
    s.withLine (s.line.updatePack a fun p => { p with attempts := p.attempts + 1, ticks := 0 })
  else
    (s.withLine { s.line.freePack a with joinFailures := count32 s.line.joinFailures }).raisePack
      (packNotice s .joinFailed (addressNumber a) (.pack p.serial none none none none))

/-- A valid CONFIRM with the record's serial (R173). -/
def State.confirmed (s : State) (a : Fin 24) : State :=
  let l := s.line.updatePack a fun p =>
    { Pack.freeWith { p.counters with answers := count32 p.counters.answers } with
      state := .present, serial := p.serial, presence := 127 }
  let l := { l with urgentOrder := l.urgentOrder.filter (· != a), joins := count32 l.joins }
  (s.withLine l).raisePack (packNotice s .joined (addressNumber a) (packInfo (l.packs.get a) none))

/-- The close of a CONFIRM window whose record is still in the table (R161, R173). -/
def State.closeConfirm (s : State) (a : Fin 24) (heard : Option (List Byte)) : State :=
  match heard with
  | none => (s.withLine (s.line.countSilent a)).confirmFailed a
  | some signal =>
    if upstreamMessage signal = some (.confirm (s.line.packs.get a).serial) then s.confirmed a
    else (s.withLine (s.line.countSilent a).countUpstreamError).confirmFailed a

/-- Presence after a granted window: every PRESENT record one less, LOST on falling from 64 to 63 (R163). -/
def Pack.aged (p : Pack) : Pack :=
  if p.state = .present then
    (if p.presence = 64 then
       { p with state := .lost, presence := 63, counters := { p.counters with losses := count32 p.counters.losses } }
     else { p with presence := p.presence - 1 })
  else p

/-- The records that become LOST at a granted window's close (R163). -/
def PackLine.losing (l : PackLine) : List (Fin 24) := l.packs.where? fun p => p.state == .present && p.presence == 64

/-- The presence decrease, with the losses it brings (R163, R150; the order of several LOST notices: log 23). -/
def State.decreasePresence (s : State) : State :=
  let lost := s.line.losing
  let l := { s.line with packs := s.line.packs.map Pack.aged }
  let l := l.discard fun q => lost.contains q.address && !q.urgent
  let l := { l with urgentOrder := l.urgentOrder.filter fun a => !lost.contains a }
  let s' := s.withLine l
  if s.link.packNotices then
    s'.raiseQueues (lost.map fun a =>
      [[packNotice s .lost (addressNumber a) (packInfo (l.packs.get a) (some (l.packs.get a).busy))]])
  else s'

/-- The granted window closes: its message is taken, presence is updated, the reservation is settled (R160). -/
def State.closeGranted (s : State) (w : GrantWindow) (heard : Option (List Byte)) : State :=
  let s1 :=
    if w.freed then s
    else if w.confirm then s.closeConfirm w.address heard
    else s.closePoll w.address heard
  let s2 := s1.decreasePresence
  s2.withLine { s2.line with window := none }

/-- The close of the granted window, if one is open. An announce window of the same frame has closed before it, with nothing
heard if no close was reported (R160; log 5). -/
def State.closeGrantedWindow (s : State) (heard : Option (List Byte)) : State :=
  match s.line.window with
  | none => s
  | some w => (s.closeAnnounce none).closeGranted w heard

/-- Every upstream window has closed before the next boundary (R143, R152; log 5). -/
def State.closeWindows (s : State) : State := (s.closeAnnounce none).closeGrantedWindow none

/-! ## Resets (R157, R184) -/

/-- The Pack Line Controller after the RESET request (R157, R184). -/
def PackLine.softReset (l : PackLine) : PackLine :=
  { l with
    packs := l.packs.map fun p => if p.state = .joining then { p with offerSent := true, ticks := 0 } else p
    queue := [], window := none, announceOpen := false, frame := none, lastUrgent := false, recovery := 0,
    collisionRun := 0 }

/-! ## Requests -/

/-- The TRIMS that a SET_TRIM offers to the mix's owner (R97, R146). -/
def PackLine.offerTrims (l : PackLine) (m : Fin 16) (message : PackMessage) : PackLine :=
  match l.ownerOf m with
  | none => l
  | some a =>
    if (l.packs.get a).state ≠ .present then l
    else if l.free = 0 then { l with trimsUnsent := count32 l.trimsUnsent }
    else l.enqueue a false message

/-- SET_TRIM (R96, R97). -/
def setTrim (mix volume self others dim : Byte) : Owner := fun s =>
  match index? 16 mix with
  | none => (s, .fail .badIndex)
  | some i =>
    match flag? dim with
    | none => (s, .fail .badValue)
    | some on =>
      let m := (s.mixes.get i).setTrim (trimCode volume) (trimCode self) (trimCode others) on
      ((s.withMixes (s.mixes.set i m)).withLine (s.line.offerTrims i (trimsOf m)),
       .done (signed1 m.volume ++ signed1 m.self ++ signed1 m.others ++ yesNo m.dim.isSome
         ++ (match m.dim with
             | some saved => signed1 saved
             | none => [Config.unstatedByte .savedTrimAbsent])))

/-- The number of a mix's owner, 0 if it has none (R98, R181). -/
def PackLine.ownerNumber (l : PackLine) (m : Fin 16) : Nat :=
  match l.ownerOf m with
  | some a => addressNumber a
  | none => 0

/-- A send item of QUERY_MIX (R98, R213). -/
def sendItem (m : Mix) (d : Send) : List Byte :=
  be1 d.slot.val ++ be1 d.level ++ signed1 d.balance ++ yesNo d.self ++ yesNo d.mute ++ yesNo d.removing
    ++ be1 (effectiveCode m d) ++ be3 d.currentLeft ++ be3 d.currentRight ++ be3 d.targetLeft ++ be3 d.targetRight

/-- QUERY_MIX (R98). -/
def queryMix (mix start : Byte) : Owner := fun s =>
  match index? 16 mix with
  | none => (s, .fail .badIndex)
  | some i =>
    let m := s.mixes.get i
    (s, .data (be1 (mixStateCode m.state) ++ yesNo m.stereo ++ be1 m.master ++ be1 (effectiveMaster m) ++ be1 m.ceiling
      ++ be2 m.release ++ be1 m.click ++ signed1 m.volume ++ signed1 m.self ++ signed1 m.others ++ yesNo m.dim.isSome
      ++ optional 1 signed1 m.dim ++ be3 m.masterCurrent ++ be3 m.masterTarget ++ be3 (s.limiters.get i).gain
      ++ be1 (s.line.ownerNumber i) ++ listReport 11 (sendItem m) m.sends start))

/-- The mix field of ASSIGN_PACK: 0..15, or NONE as 0xFF (R153, R210). -/
def assignMix? (b : Byte) : Option (Option (Fin 16)) := if b = 0xFF then some none else (index? 16 b).map some

/-- ASSIGN_PACK (R153). -/
def assignPack (address mix role : Byte) : Owner := fun s =>
  match address? address, assignMix? mix with
  | some a, some m =>
    match role? role with
    | none => (s, .fail .badValue)
    | some r =>
      let p := s.line.packs.get a
      if p.state ≠ .present ∧ p.state ≠ .lost then (s, .fail .packUnknown)
      else if r = .owner ∧ (m.any fun i => s.line.ownedByOther i a) then (s, .fail .ownerTaken)
      else if s.line.free = 0 then (s, .retry .packQueueFull)
      else
        match m with
        | some i =>
          (s.withLine ((s.line.updatePack a fun p => { p with mix := some i, role := r }).enqueue a false (.assigned i r)),
           .done (be1 (addressNumber a) ++ mixByte (some i) ++ be1 (roleCode r)))
        | none =>
          (s.withLine ((s.line.updatePack a fun p => { p with mix := none, role := .listener }).enqueue a false .unassigned),
           .done (be1 (addressNumber a) ++ mixByte none ++ be1 (roleCode .listener)))
  | _, _ => (s, .fail .badIndex)

/-- REMOVE_PACK (R154). -/
def removePack (address : Byte) : Owner := fun s =>
  match address? address with
  | none => (s, .fail .badIndex)
  | some a =>
    if (s.line.packs.get a).state = .free then (s, .fail .packUnknown)
    else
      let l := s.line.freePack a
      if l.free = 0 then (s.withLine { l with removedUnsent := count32 l.removedUnsent }, .done (yesNo false))
      else (s.withLine (l.enqueue a true .removed), .done (yesNo true))

/-- PACK_TEXT (R155). -/
def packText (address : Byte) (chars : List Byte) : Owner := fun s =>
  match address? address with
  | none => (s, .fail .badIndex)
  | some a =>
    let p := s.line.packs.get a
    if chars.any fun c => decide (c.toNat < 0x20 ∨ 0x7E < c.toNat) then (s, .fail .badValue)
    else if p.state = .free ∨ p.state = .joining then (s, .fail .packUnknown)
    else if s.line.free = 0 then (s, .retry .packQueueFull)
    else (s.withLine (s.line.enqueue a false (.text chars)), .done [])

/-- QUERY_PACK for a pack record (R181). R210 gives no code for clear and set (busy, urgent_pending, offer sent): 0 and 1 (log 28);
and no width for presence, attempts and ticks: one byte (log 16). -/
def packReport (l : PackLine) (a : Fin 24) : List Byte :=
  let p := l.packs.get a
  be1 (packStateCode p.state) ++ be4 p.serial.toNat ++ optional 1 (fun (m : Fin 16) => be1 m.val) p.mix
    ++ be1 (roleCode p.role) ++ yesNo p.busy ++ yesNo (l.urgentOrder.contains a) ++ be1 p.presence ++ yesNo p.offerSent
    ++ be1 p.attempts ++ be1 p.ticks
    ++ [p.counters.grants, p.counters.answers, p.counters.silent, p.counters.requests, p.counters.refusals,
        p.counters.losses, p.counters.rejoins].flatMap be4

/-- QUERY_PACK for address 0: the line state (R181). R210 gives no width for recovery remaining, consecutive collisions and the
numbers of records: one byte (log 16). -/
def lineReport (l : PackLine) : List Byte :=
  be1 l.roundRobin ++ [Config.unstatedByte (if l.lastUrgent then .classUrgent else .classOther)] ++ be1 l.recovery
    ++ be1 l.collisionRun
    ++ [PackState.free, .joining, .present, .lost].flatMap (fun x => be1 (l.packs.count fun p => p.state == x))
    ++ (List.finRange 16).flatMap fun m => be1 (l.ownerNumber m)

/-- QUERY_PACK (R181). -/
def queryPack (address : Byte) : Owner := fun s =>
  if address = 0 then (s, .data (lineReport s.line))
  else
    match address? address with
    | none => (s, .fail .badIndex)
    | some a => (s, .data (packReport s.line a))

/-! ## Meanings -/

def execSetTrim (tag : Byte) (fields : List Byte) (s : State) : Host.Outcome State Fault Refusal :=
  .next (takeRequest 0x34 tag
    (match fields with
     | [mix, volume, self, others, dim] => some (setTrim mix volume self others dim)
     | _ => none) s)

def execQueryMix (tag : Byte) (fields : List Byte) (s : State) : Host.Outcome State Fault Refusal :=
  .next (takeRequest 0x35 tag (match fields with | [mix, start] => some (queryMix mix start) | _ => none) s)

def execAssignPack (tag : Byte) (fields : List Byte) (s : State) : Host.Outcome State Fault Refusal :=
  .next (takeRequest 0x50 tag
    (match fields with | [address, mix, role] => some (assignPack address mix role) | _ => none) s)

def execRemovePack (tag : Byte) (fields : List Byte) (s : State) : Host.Outcome State Fault Refusal :=
  .next (takeRequest 0x51 tag (match fields with | [address] => some (removePack address) | _ => none) s)

/-- The body carries 1..32 characters (R155, R212). -/
def execPackText (tag : Byte) (fields : List Byte) (s : State) : Host.Outcome State Fault Refusal :=
  .next (takeRequest 0x52 tag
    (match fields with
     | address :: c :: rest => if rest.length ≤ 31 then some (packText address (c :: rest)) else none
     | _ => none) s)

def execQueryPack (tag : Byte) (fields : List Byte) (s : State) : Host.Outcome State Fault Refusal :=
  .next (takeRequest 0x53 tag (match fields with | [address] => some (queryPack address) | _ => none) s)

/-- ANNOUNCE_WINDOW_CLOSE (R168). -/
def execAnnounceWindowClose (heard : Option (List Byte)) (s : State) : Host.Outcome State Fault Refusal :=
  .next (s.closeAnnounce heard)

/-- GRANTED_WINDOW_CLOSE (R160). -/
def execGrantedWindowClose (heard : Option (List Byte)) (s : State) : Host.Outcome State Fault Refusal :=
  .next (s.closeGrantedWindow heard)

/-- UPSTREAM_SIGNAL_AFTER_IDLE (R160): only the upstream time of an IDLE grant, outside an announce window, counts it. -/
def execUpstreamSignalAfterIdle (s : State) : Host.Outcome State Fault Refusal :=
  .next
    (if s.clock.mixing ∧ s.line.frame.map DownFrame.grant = some .idle ∧ ¬ s.line.announceOpen then
      s.withLine s.line.countUpstreamError
     else s)

end Sys2Proof.Machine
end

