-- ==== Sys2Proof/Machine/Cues.lean ====
section
/-! DEFINITION. Scenes and cue slots (07): editing and writing back a working copy, the apply, and the requests of the Cue
Controller; the edit requests of both targets, LIVE and CUE (R4). -/

namespace Sys2Proof.Machine

/-! ## Cue slots -/

/-- The copy that OPEN_CUE opens: the stored scene, or the defaults of an EMPTY one (R121, R123). -/
def sceneOrDefault : Option Scene → Scene
  | some scene => scene
  | none => Table.fill MixEntry.default

/-- The number of the scene at a row of a bank (R121). -/
def sceneNumber (bank : Fin 4) (row : Fin 8) : Fin 32 := ⟨8 * bank.val + row.val, by omega⟩

/-- A cue slot replaced. -/
def Cues.setSlot (c : Cues) (b : Fin 4) (w : Option CueWork) : Cues := { c with slots := c.slots.set b w }

/-- The working copy of a cue slot written to its row (R128). -/
def Cues.writeBack (c : Cues) (b : Fin 4) (w : CueWork) : Cues :=
  { c with scenes := c.scenes.set (sceneNumber b w.row) (some w.copy) }

/-- A request that needs a cue slot that is OPEN: CUE_CLOSED, then CUE_BUSY (R124 tests 3 and 4, R128, R129, R131). -/
def withOpenCue (b : Fin 4) (f : CueWork → Owner) : Owner := fun s =>
  match s.cues.slots.get b with
  | none => (s, .fail .cueClosed)
  | some w => if w.applying then (s, .fail .cueBusy) else f w s

/-! ## Edits of a working copy (R124 to R126) -/

/-- One mix entry of the copy replaced; edited becomes true (R124). -/
def State.editCopy (s : State) (b : Fin 4) (w : CueWork) (i : Fin 16) (e : MixEntry) : State :=
  s.withCues (s.cues.setSlot b (some { w with copy := w.copy.set i e, edited := true }))

/-- The send entry on a slot of a mix entry. -/
def MixEntry.sendOn (e : MixEntry) (k : Fin 48) : Option SceneSend := e.sends.find? fun d => d.slot == k

/-- MIX_SET with target CUE b (R125). -/
def mixSetCue (b : Fin 4) (mix state kind master ceiling rel1 rel2 : Byte) : Owner := fun s =>
  match index? 16 mix with
  | none => (s, .fail .badIndex)
  | some i =>
    match flag? state, flag? kind with
    | some on, some stereo =>
      withOpenCue b (fun w s =>
        let e : MixEntry := { w.copy.get i with on := on, stereo := stereo, master := levelCode master,
                                                ceiling := clampNat 64 112 ceiling.toNat,
                                                release := clampNat 1 4096 (nat16 rel1 rel2) }
        (s.editCopy b w i e,
         .done (yesNo e.on ++ yesNo e.stereo ++ be1 e.master ++ be1 e.ceiling ++ be2 e.release ++ be1 0))) s
    | _, _ => (s, .fail .badValue)

/-- ADD_SEND with target CUE b (R126). -/
def addSendCue (b : Fin 4) (mix slot level balance self mute : Byte) : Owner := fun s =>
  match index? 16 mix, index? 48 slot with
  | some i, some k =>
    match flag? self, flag? mute with
    | some self, some mute =>
      withOpenCue b (fun w s =>
        let e := w.copy.get i
        if (e.sendOn k).isSome then (s, .fail .sendExists)
        else if Config.mixSendCap ≤ e.sends.length then (s, .fail .mixFull)
        else
          let d : SceneSend := { slot := k, level := levelCode level, balance := trimCode balance, self := self, mute := mute }
          (s.editCopy b w i { e with sends := insertBySlot SceneSend.slot d e.sends },
           .done (be1 d.level ++ signed1 d.balance ++ be1 0))) s
    | _, _ => (s, .fail .badValue)
  | _, _ => (s, .fail .badIndex)

/-- A send entry with the selected fields replaced (R126). -/
def SendChange.applyEntry (c : SendChange) (d : SceneSend) : SceneSend :=
  { d with level := c.level.getD d.level, balance := c.balance.getD d.balance, self := c.self.getD d.self,
           mute := c.mute.getD d.mute }

/-- SET_SEND with target CUE b (R126). -/
def setSendCue (b : Fin 4) (mix slot flags level balance self mute : Byte) : Owner := fun s =>
  match index? 16 mix, index? 48 slot with
  | some i, some k =>
    match sendChange? flags level balance self mute with
    | none => (s, .fail .badValue)
    | some change =>
      withOpenCue b (fun w s =>
        let e := w.copy.get i
        match e.sendOn k with
        | none => (s, .fail .noSend)
        | some d =>
          let d' := change.applyEntry d
          (s.editCopy b w i { e with sends := e.sends.map fun d => if d.slot = k then change.applyEntry d else d },
           .done (sendReport d'.level d'.balance d'.self d'.mute))) s
  | _, _ => (s, .fail .badIndex)

/-- REMOVE_SEND with target CUE b (R126). -/
def removeSendCue (b : Fin 4) (mix slot : Byte) : Owner := fun s =>
  match index? 16 mix, index? 48 slot with
  | some i, some k =>
    withOpenCue b (fun w s =>
      let e := w.copy.get i
      if (e.sendOn k).isNone then (s, .fail .noSend)
      else (s.editCopy b w i { e with sends := e.sends.filter fun d => d.slot != k }, .done (be1 1))) s
  | _, _ => (s, .fail .badIndex)

/-- The target of an edit request, tested before the request reaches either block (R4). -/
def editTarget (target bank : Byte) (live : Owner) (cue : Fin 4 → Owner) : Owner :=
  if target = 0 then live
  else if target = 1 then
    match index? 4 bank with
    | some b => cue b
    | none => refuse .badIndex
  else refuse .badValue

/-! ## TAKE_LIVE, opening, storing, closing (R123, R127 to R129) -/

/-- The mix entry that a live record gives (R127). -/
def takenEntry (m : Mix) : MixEntry :=
  { on := m.state == .on, stereo := m.stereo, master := m.master, ceiling := m.ceiling, release := m.release
    sends := (m.sends.filter fun d => !d.removing).map fun d =>
      { slot := d.slot, level := d.level, balance := d.balance, self := d.self, mute := d.mute } }

/-- A request that names a bank (R127 to R129). -/
def withBank (bank : Byte) (f : Fin 4 → Owner) : Owner := fun s =>
  match index? 4 bank with
  | none => (s, .fail .badIndex)
  | some b => f b s

/-- TAKE_LIVE (R127). -/
def takeLive (bank m1 m2 : Byte) : Owner := withBank bank fun b => withOpenCue b fun w s =>
  let copy : Scene := Table.tabulate fun i =>
    if inMask (mixMask m1 m2) i then takenEntry (s.mixes.get i) else w.copy.get i
  (s.withCues (s.cues.setSlot b (some { w with copy := copy, edited := true })), .done [])

/-- OPEN_CUE (R123). -/
def openCue (bank row : Byte) : Owner := fun s =>
  match index? 4 bank, index? 8 row with
  | some b, some r =>
    match s.cues.slots.get b with
    | some _ => (s, .fail .cueOpen)
    | none =>
      (s.withCues (s.cues.setSlot b (some
        { applying := false, row := r, edited := false, copy := sceneOrDefault (s.cues.scenes.get (sceneNumber b r)),
          last := none })), .done [])
  | _, _ => (s, .fail .badIndex)

/-- STORE_CUE (R128). -/
def storeCue (bank : Byte) : Owner := withBank bank fun b => withOpenCue b fun w s =>
  (s.withCues ((s.cues.writeBack b w).setSlot b (some { w with edited := false })), .done [])

/-- CLOSE_CUE (R129). -/
def closeCue (bank writeback : Byte) : Owner := withBank bank fun b s =>
  match flag? writeback with
  | none => (s, .fail .badValue)
  | some write =>
    withOpenCue b (fun w s =>
      let c := if write then s.cues.writeBack b w else s.cues
      (s.withCues (c.setSlot b none), .done (yesNo write ++ yesNo (!write && w.edited)))) s

/-! ## Queries (R130) -/

/-- A send item of QUERY_CUE and QUERY_SCENE (R213). -/
def sceneItem (d : SceneSend) : List Byte := sendReport d.level d.balance d.self d.mute |> (be1 d.slot.val ++ ·)

/-- A mix entry of a query (R213). -/
def entryBytes (e : MixEntry) : List Byte :=
  yesNo e.on ++ yesNo e.stereo ++ be1 e.master ++ be1 e.ceiling ++ be2 e.release

/-- The last apply record of a query (R213). Pool fallback is 0 for no, 1 for yes (log 28). -/
def lastApplyBytes (r : LastApply) : List Byte :=
  be1 (match r.outcome with | .done => 0 | .poolFull => 1) ++ be1 (modeCode r.mode) ++ be2 r.mask.toNat
    ++ (match r.moment with
        | .immediate => be1 0 ++ [Config.unstatedByte .immediateBlockHigh, Config.unstatedByte .immediateBlockLow]
        | .boundary n => be1 1 ++ be2 n.toNat)
    ++ be2 r.cut.toNat ++ yesNo r.fallback ++ be2 r.inserted ++ be2 r.freed

/-- QUERY_CUE (R130). Edited is 0 for false, 1 for true (log 28). -/
def queryCue (bank mix start : Byte) : Owner := fun s =>
  match index? 4 bank, index? 16 mix with
  | some b, some i =>
    (s, .data (match s.cues.slots.get b with
      | none =>
        be1 0 ++ optional 1 (fun (r : Fin 8) => be1 r.val) none ++ yesNo false ++ optional 14 lastApplyBytes none
          ++ List.replicate 6 0 ++ listReport 24 sceneItem [] start
      | some w =>
        be1 (if w.applying then 2 else 1) ++ optional 1 (fun (r : Fin 8) => be1 r.val) (some w.row) ++ yesNo w.edited
          ++ optional 14 lastApplyBytes w.last ++ entryBytes (w.copy.get i)
          ++ listReport 24 sceneItem (w.copy.get i).sends start))
  | _, _ => (s, .fail .badIndex)

/-- QUERY_SCENE (R130). -/
def queryScene (scene mix start : Byte) : Owner := fun s =>
  match index? 32 scene, index? 16 mix with
  | some n, some i =>
    let stored := s.cues.scenes.get n
    let e := (sceneOrDefault stored).get i
    (s, .data ([Config.unstatedByte (if stored.isSome then .sceneStored else .sceneEmpty)] ++ entryBytes e
      ++ listReport 24 sceneItem e.sends start))
  | _, _ => (s, .fail .badIndex)

/-! ## The apply (R131 to R139) -/

/-- The state that an apply moves a mix to (R135). -/
def appliedState (mode : ApplyMode) (live : MixState) (on : Bool) : MixState :=
  if on then .on
  else
    match mode, live with
    | .cut, _ => .off
    | .glide, .off => .off
    | .glide, .on => .fading
    | .glide, .fading => .fading

/-- The outgoing records of a mix: those whose slot the copy does not hold (R133). -/
def outgoing (m : Mix) (e : MixEntry) : List Send := m.sends.filter fun d => (e.sendOn d.slot).isNone

/-- The outgoing records that R133 keeps before its test of 24. -/
def keptOutgoing (mode : ApplyMode) (m : Mix) (e : MixEntry) : List Send :=
  if mode = .glide ∧ appliedState mode m.state e.on ≠ .off then outgoing m e else []

/-- Whether a mix would hold more than 24 records and is cut (R133). -/
def isCut (mode : ApplyMode) (m : Mix) (e : MixEntry) : Bool :=
  decide (Config.mixSendCap < e.sends.length + (keptOutgoing mode m e).length)

/-- The outgoing records kept after R133; none under the pool fallback (R134). -/
def finalOutgoing (mode : ApplyMode) (fallback : Bool) (m : Mix) (e : MixEntry) : List Send :=
  if fallback ∨ isCut mode m e then [] else keptOutgoing mode m e

/-- The record of a scene send: the live record on its slot with the copy's values, ACTIVE, currents kept; or a new one
with currents 0 (R136). -/
def appliedSend (m : Mix) (d : SceneSend) : Send :=
  match m.sendOn d.slot with
  | some live => { live with level := d.level, balance := d.balance, self := d.self, mute := d.mute, removing := false }
  | none => { slot := d.slot, level := d.level, balance := d.balance, self := d.self, mute := d.mute, removing := false,
              currentLeft := 0, currentRight := 0, targetLeft := 0, targetRight := 0 }

/-- The send list after an apply: the scene sends, and the outgoing records kept as REMOVING, in slot order (R133, R136). -/
def appliedSends (m : Mix) (e : MixEntry) (kept : List Send) : List Send :=
  kept.foldl (fun sends d => insertBySlot Send.slot { d with removing := true } sends) (e.sends.map (appliedSend m))

/-- A mix after an apply that keeps these outgoing records (R135 to R138). -/
def Mix.applied (m : Mix) (mode : ApplyMode) (e : MixEntry) (kept : List Send) : Mix :=
  let next := appliedState mode m.state e.on
  let m1 := ({ m with sends := appliedSends m e kept } : Mix).changeKind e.stereo
  let m2 := ({ m1 with state := next, master := e.master, ceiling := e.ceiling, release := e.release } : Mix).retarget
  match mode with
  | .glide => if m.state = .off ∧ next = .on then m2.cutSends else m2
  | .cut => { m2.cutSends with masterCurrent := m2.masterTarget }

/-- The records that every mix would hold after an apply (R134). -/
def recordsAfter (mixes : Table Mix 16) (copy : Scene) (mask : MixMask) (mode : ApplyMode) (fallback : Bool) : Nat :=
  ((List.finRange 16).map fun i =>
    if inMask mask i then
      (copy.get i).sends.length + (finalOutgoing mode fallback (mixes.get i) (copy.get i)).length
    else (mixes.get i).sends.length).sum

/-- The masked mixes after an apply. -/
def appliedMixes (mixes : Table Mix 16) (copy : Scene) (mask : MixMask) (mode : ApplyMode) (fallback : Bool) : Table Mix 16 :=
  Table.tabulate fun i =>
    if inMask mask i then
      (mixes.get i).applied mode (copy.get i) (finalOutgoing mode fallback (mixes.get i) (copy.get i))
    else mixes.get i

/-- The mask of the mixes that R133 cut. -/
def cutMask (mixes : Table Mix 16) (copy : Scene) (mask : MixMask) (mode : ApplyMode) : MixMask :=
  BitVec.ofNat 16 (((List.finRange 16).map fun i =>
    if inMask mask i ∧ isCut mode (mixes.get i) (copy.get i) then 2 ^ i.val else 0).sum)

/-- The new records of an apply, and the records it returns to the pool (R139). -/
def insertedCount (mixes : Table Mix 16) (copy : Scene) (mask : MixMask) : Nat :=
  ((List.finRange 16).map fun i =>
    if inMask mask i then ((copy.get i).sends.filter fun d => ((mixes.get i).sendOn d.slot).isNone).length else 0).sum
def freedCount (mixes : Table Mix 16) (copy : Scene) (mask : MixMask) (mode : ApplyMode) (fallback : Bool) : Nat :=
  ((List.finRange 16).map fun i =>
    if inMask mask i then
      (outgoing (mixes.get i) (copy.get i)).length
        - (finalOutgoing mode fallback (mixes.get i) (copy.get i)).length
    else 0).sum

/-- Whether an apply is made, and with the pool fallback or not; none when it is refused (R134). -/
def poolDecision (mixes : Table Mix 16) (copy : Scene) (mask : MixMask) (mode : ApplyMode) : Option Bool :=
  if recordsAfter mixes copy mask mode false ≤ Config.poolCap then some false
  else if mode = .glide ∧ recordsAfter mixes copy mask mode true ≤ Config.poolCap then some true
  else none

/-- The limiters after an apply: unity for a mix that the apply turned OFF (R115, R135). -/
def appliedLimiters (limiters : Table Limiter 16) (before after : Table Mix 16) : Table Limiter 16 :=
  Table.tabulate fun i =>
    if (before.get i).state ≠ .off ∧ (after.get i).state = .off then { limiters.get i with gain := Config.unity }
    else limiters.get i

/-- The apply of the copy of cue slot b: the state it leaves and its outcome (R133 to R139). The slot is OPEN after it. -/
def State.applyCue (s : State) (b : Fin 4) (w : CueWork) (mode : ApplyMode) (mask : MixMask) (moment : ApplyAt) :
    State × ApplyOutcome :=
  let record (r : LastApply) : Cues := s.cues.setSlot b (some { w with applying := false, last := some r })
  match poolDecision s.mixes w.copy mask mode with
  | none =>
    (s.withCues (record { outcome := .poolFull, mode := mode, mask := mask, moment := moment, cut := 0, fallback := false,
                          inserted := 0, freed := 0 }), .poolFull)
  | some fallback =>
    let after := appliedMixes s.mixes w.copy mask mode fallback
    (((s.withMixes after).withLimiters (appliedLimiters s.limiters s.mixes after)).withCues
      (record { outcome := .done, mode := mode, mask := mask, moment := moment,
                cut := cutMask s.mixes w.copy mask mode, fallback := fallback,
                inserted := insertedCount s.mixes w.copy mask,
                freed := freedCount s.mixes w.copy mask mode fallback }), .done)

/-- APPLY_CUE (R131): deferred while mixing, made at once as CUT otherwise. -/
def applyCueRequest (bank mode m1 m2 : Byte) : Owner := withBank bank fun b s =>
  match applyMode? mode with
  | none => (s, .fail .badValue)
  | some mode =>
    withOpenCue b (fun w s =>
      if s.clock.mixing then (s, .wouldDefer (.apply b mode (mixMask m1 m2)))
      else
        let (s', outcome) := s.applyCue b w .cut (mixMask m1 m2) .immediate
        (s', match outcome with | .done => .done [] | .poolFull => .fail .poolFull)) s

/-! ## Meanings -/

/-- The body of MIX_SET, LIVE or CUE by its target byte (R4, R212; log 9). -/
def mixSetBody : List Byte → Option Owner
  | [target, bank, mix, state, kind, master, ceiling, rel1, rel2, click] =>
    some (editTarget target bank (mixSetLive mix state kind master ceiling rel1 rel2 click)
      fun b => mixSetCue b mix state kind master ceiling rel1 rel2)
  | _ => none

def addSendBody : List Byte → Option Owner
  | [target, bank, mix, slot, level, balance, self, mute] =>
    some (editTarget target bank (addSendLive mix slot level balance self mute)
      fun b => addSendCue b mix slot level balance self mute)
  | _ => none

def setSendBody : List Byte → Option Owner
  | [target, bank, mix, slot, flags, level, balance, self, mute] =>
    some (editTarget target bank (setSendLive mix slot flags level balance self mute)
      fun b => setSendCue b mix slot flags level balance self mute)
  | _ => none

def removeSendBody : List Byte → Option Owner
  | [target, bank, mix, slot] =>
    some (editTarget target bank (removeSendLive mix slot) fun b => removeSendCue b mix slot)
  | _ => none

def execMixSetLive (tag : Byte) (fields : List Byte) (s : State) : Host.Outcome State Fault Refusal :=
  .next (takeRequest 0x30 tag (mixSetBody fields) s)

def execMixSetCue (tag : Byte) (fields : List Byte) (s : State) : Host.Outcome State Fault Refusal :=
  .next (takeRequest 0x30 tag (mixSetBody fields) s)

def execAddSendLive (tag : Byte) (fields : List Byte) (s : State) : Host.Outcome State Fault Refusal :=
  .next (takeRequest 0x31 tag (addSendBody fields) s)

def execAddSendCue (tag : Byte) (fields : List Byte) (s : State) : Host.Outcome State Fault Refusal :=
  .next (takeRequest 0x31 tag (addSendBody fields) s)

def execSetSendLive (tag : Byte) (fields : List Byte) (s : State) : Host.Outcome State Fault Refusal :=
  .next (takeRequest 0x32 tag (setSendBody fields) s)

def execSetSendCue (tag : Byte) (fields : List Byte) (s : State) : Host.Outcome State Fault Refusal :=
  .next (takeRequest 0x32 tag (setSendBody fields) s)

def execRemoveSendLive (tag : Byte) (fields : List Byte) (s : State) : Host.Outcome State Fault Refusal :=
  .next (takeRequest 0x33 tag (removeSendBody fields) s)

def execRemoveSendCue (tag : Byte) (fields : List Byte) (s : State) : Host.Outcome State Fault Refusal :=
  .next (takeRequest 0x33 tag (removeSendBody fields) s)

def execOpenCue (tag : Byte) (fields : List Byte) (s : State) : Host.Outcome State Fault Refusal :=
  .next (takeRequest 0x40 tag (match fields with | [bank, row] => some (openCue bank row) | _ => none) s)

def execTakeLive (tag : Byte) (fields : List Byte) (s : State) : Host.Outcome State Fault Refusal :=
  .next (takeRequest 0x41 tag (match fields with | [bank, m1, m2] => some (takeLive bank m1 m2) | _ => none) s)

def execStoreCue (tag : Byte) (fields : List Byte) (s : State) : Host.Outcome State Fault Refusal :=
  .next (takeRequest 0x42 tag (match fields with | [bank] => some (storeCue bank) | _ => none) s)

def execCloseCue (tag : Byte) (fields : List Byte) (s : State) : Host.Outcome State Fault Refusal :=
  .next (takeRequest 0x43 tag (match fields with | [bank, writeback] => some (closeCue bank writeback) | _ => none) s)

def execApplyCue (tag : Byte) (fields : List Byte) (s : State) : Host.Outcome State Fault Refusal :=
  .next (takeRequest 0x44 tag
    (match fields with | [bank, mode, m1, m2] => some (applyCueRequest bank mode m1 m2) | _ => none) s)

def execQueryCue (tag : Byte) (fields : List Byte) (s : State) : Host.Outcome State Fault Refusal :=
  .next (takeRequest 0x45 tag
    (match fields with | [bank, mix, start] => some (queryCue bank mix start) | _ => none) s)

def execQueryScene (tag : Byte) (fields : List Byte) (s : State) : Host.Outcome State Fault Refusal :=
  .next (takeRequest 0x46 tag
    (match fields with | [scene, mix, start] => some (queryScene scene mix start) | _ => none) s)

end Sys2Proof.Machine
end

