-- ==== Sys2Proof/Machine/Meters.lean ====
section
/-! DEFINITION. The meter unit (11): the meter interval, the METER report, and the requests METER_SET and QUERY_COUNTERS. -/

namespace Sys2Proof.Machine

/-! ## Accumulators and intervals (R199, R200) -/

/-- Every accumulator of slots and mixes cleared (R200). -/
def clearPeaks (slots : Table Slot 48) : Table Slot 48 := slots.map fun k => { k with peak := 0 }
def clearMeters (limiters : Table Limiter 16) : Table Limiter 16 :=
  limiters.map fun l => { l with peak := 0, lowest := Config.unity }

/-- A fresh interval (R198). -/
def Meter.fresh (m : Meter) (on : Bool) (interval : Nat) : Meter :=
  { m with on := on, interval := interval, pendingInterval := none, countdown := interval, seen := Table.fill false }

/-- The mixes computed at a boundary join those seen, and the boundary is counted (R199). -/
def Meter.counted (m : Meter) (computed : Table Bool 16) : Meter :=
  { m with seen := Table.zipWith (· || ·) m.seen computed, countdown := m.countdown - 1 }

/-- Whether the boundary just counted is an interval end (R199). -/
def Meter.intervalEnds (m : Meter) : Bool := m.countdown == 0

/-- The Meter Unit after an interval end (R199 steps 3 to 5, R201). -/
def Meter.nextInterval (m : Meter) : Meter :=
  let interval := m.pendingInterval.getD m.interval
  { m with interval := interval, pendingInterval := none, countdown := interval, seen := Table.fill false,
           sequence := if m.on then (m.sequence + 1) % 65536 else m.sequence }

/-- The two parts of the METER report, MIXES first (R201). -/
def meterReport (s : State) (m : Meter) : NoticeGroup :=
  let notice (info : NoticeInfo) : Notice := { event := .report, subject := none, block := s.clock.lastBlock, info := info }
  [notice (.meterMixes m.sequence m.interval
     ((m.seen.where? id).map fun i => (i, (s.limiters.get i).peak, (s.limiters.get i).lowest))),
   notice (.meterSlots m.sequence m.interval
     ((s.slots.where? Slot.bound).map fun i => (i, (s.slots.get i).peak)))]

/-! ## METER_SET (R198) -/

/-- What METER_SET reports (R198). -/
def meterReply (m : Meter) : List Byte :=
  yesNo m.on ++ be2 m.interval ++ optional 2 be2 m.pendingInterval ++ be2 m.countdown

/-- METER_SET (R198). -/
def meterSet (meters a b : Byte) : Owner := fun s =>
  match flag? meters with
  | none => (s, .fail .badValue)
  | some on =>
    let interval := clampNat 8 1024 (nat16 a b)
    if on = s.meter.on then
      let m := { s.meter with pendingInterval := some interval }
      (s.withMeter m, .done (meterReply m))
    else
      let m := s.meter.fresh on interval
      (((s.withMeter m).withSlots (clearPeaks s.slots)).withLimiters (clearMeters s.limiters), .done (meterReply m))

/-! ## QUERY_COUNTERS (R207 to R209) -/

/-- The counter groups (R207). -/
inductive Group where
  | link | clock | stage
  | stream (i : Fin 8)
  | slotMiss | queue | line
  | pack (a : Fin 24)
  deriving DecidableEq, Repr

/-- The group that a request names; the error when its group or its index is none of those that exist (R207). -/
def group? (group index : Byte) : Except ErrorCode Group :=
  match group.toNat with
  | 1 => .ok .link
  | 2 => .ok .clock
  | 3 => .ok .stage
  | 4 =>
    match index? 8 index with
    | some i => .ok (.stream i)
    | none => .error .badIndex
  | 5 => .ok .slotMiss
  | 6 => .ok .queue
  | 7 => .ok .line
  | 8 =>
    match address? index with
    | some a => .ok (.pack a)
    | none => .error .badIndex
  | _ => .error .badValue

/-- The counters of a pack record, in reply order (R207). -/
def packCounterList (c : PackCounters) : List Nat :=
  [c.grants, c.answers, c.silent, c.requests, c.refusals, c.losses, c.rejoins]

/-- The counters of a group, in reply order, as bytes (R207, R213). -/
def groupBytes (s : State) : Group → List Byte
  | .link => [s.link.linkErrors, s.link.overrun, s.link.noticesLost].flatMap be4
  | .clock =>
    [s.clock.syncBoundaries, s.clock.holdoverBoundaries, s.clock.earlySyncs, s.clock.foreignSyncs, s.clock.idleSyncs,
     s.clock.relocks, s.clock.realigns, s.clock.holdoverEntries].flatMap be4
  | .stage => [s.stage.unmatched, s.stage.malformed, s.stage.syncRejected].flatMap be4
  | .stream i =>
    let c := (s.stage.streams.get i).counters
    [c.stored, c.late, c.ahead, c.duplicate, c.damagedDropped, c.damagedKept, c.fullRejected, c.formatRejected,
     c.idleDiscarded].flatMap be4
  | .slotMiss => s.slots.list.flatMap fun k => be2 k.misses
  | .queue => [s.line.queueAgedOut, s.line.queueDropped, s.line.trimsUnsent, s.line.removedUnsent].flatMap be4
  | .line =>
    [s.line.joins, s.line.joinFailures, s.line.refusedJoins, s.line.collisions, s.line.announceStorms,
     s.line.upstreamErrors, s.line.badRequests].flatMap be4
  | .pack a => (packCounterList (s.line.packs.get a).counters).flatMap be4

/-- The counters of a group set to 0 (R208). -/
def clearGroup (s : State) : Group → State
  | .link => s.withLink { s.link with linkErrors := 0, overrun := 0, noticesLost := 0 }
  | .clock =>
    s.withClock { s.clock with syncBoundaries := 0, holdoverBoundaries := 0, earlySyncs := 0, foreignSyncs := 0,
                               idleSyncs := 0, relocks := 0, realigns := 0, holdoverEntries := 0 }
  | .stage => s.withStage { s.stage with unmatched := 0, malformed := 0, syncRejected := 0 }
  | .stream i =>
    s.withStage { s.stage with
      streams := s.stage.streams.modify i fun r => { r with counters := StreamCounters.zero } }
  | .slotMiss => s.withSlots (s.slots.map fun k => { k with misses := 0 })
  | .queue => s.withLine { s.line with queueAgedOut := 0, queueDropped := 0, trimsUnsent := 0, removedUnsent := 0 }
  | .line =>
    s.withLine { s.line with joins := 0, joinFailures := 0, refusedJoins := 0, collisions := 0, announceStorms := 0,
                             upstreamErrors := 0, badRequests := 0 }
  | .pack a =>
    s.withLine { s.line with packs := s.line.packs.modify a fun p => { p with counters := PackCounters.zero } }

/-- QUERY_COUNTERS (R207, R208). The tests of the group and of clear come before that of the index. -/
def queryCounters (group index clear : Byte) : Owner := fun s =>
  match group? group index, flag? clear with
  | .error .badValue, _ => (s, .fail .badValue)
  | _, none => (s, .fail .badValue)
  | .error e, some _ => (s, .fail e)
  | .ok g, some clears =>
    (if clears then clearGroup s g else s, .data ([group, index, clear] ++ groupBytes s g))

/-! ## Meanings -/

def execMeterSet (tag : Byte) (fields : List Byte) (s : State) : Host.Outcome State Fault Refusal :=
  .next (takeRequest 0x60 tag (match fields with | [meters, a, b] => some (meterSet meters a b) | _ => none) s)

def execQueryCounters (tag : Byte) (fields : List Byte) (s : State) : Host.Outcome State Fault Refusal :=
  .next (takeRequest 0x61 tag
    (match fields with | [group, index, clear] => some (queryCounters group index clear) | _ => none) s)

end Sys2Proof.Machine
end

