-- ==== Sys2Proof/Machine/Clock.lean ====
section
/-! DEFINITION. Engine states and the block clock (02): boundaries and all the work that hangs on them, entry into STOPPED, sync
frames, timer expiries, the stage port (R38, R39), and the requests FORMAT, START and STOP. -/

namespace Sys2Proof.Machine

/-! ## Durations (02, in units of 1/12,000,000 s; log 2) -/

/-- The block period: sixteen sample periods. -/
def blockPeriod : Rate → Time
  | .r48000 => 4000
  | .r96000 => 2000

/-- Half a block period (R28). -/
def halfPeriod (r : Rate) : Time := blockPeriod r / 2

/-- The span of the sync watch: two block periods (R31). -/
def watchSpan (r : Rate) : Time := 2 * blockPeriod r

/-! ## Entry into STOPPED (R25) -/

/-- The Block Clock on entry into STOPPED: M, the format and the sync counters are kept (R25). -/
def Clock.stopped (c : Clock) : Clock :=
  { c with engine := .stopped, timer := none, stopPending := false, unlocked := false, spell := none }

/-- A limiter on entry into STOPPED: its meter accumulators are kept (R101, R117). -/
def Limiter.stopped (l : Limiter) : Limiter := { l with gain := Config.unity, condition := false }

/-- Every block on entry into STOPPED (R25, R61, R75, R99, R101, R195, R205; the frame on the line: log 21). -/
def State.enterStopped (s : State) : State :=
  { s with
    clock := s.clock.stopped
    ring := s.ring.emptied
    slots := s.slots.map Slot.stopped
    mixes := s.mixes.map Mix.stopped
    limiters := s.limiters.map Limiter.stopped
    line := { s.line with frame := none }
    click := s.click.stopped }

/-! ## Deferred completion (R9, R132) -/

/-- The request kind of a deferred request (R211). -/
def jobKind : DeferredJob → Byte
  | .stop => 0x12
  | .apply .. => 0x44

/-- The outcomes of a COMPLETE (R9, R17). -/
inductive CompleteOutcome where
  | done
  | fail (code : ErrorCode)
  | aborted
  deriving DecidableEq, Repr

/-- Outcome and error code as bytes (R211). -/
def outcomeBytes : CompleteOutcome → List Byte
  | .done => be1 0 ++ be1 0
  | .fail code => be1 1 ++ be1 (errorCode code)
  | .aborted => be1 2 ++ be1 0

/-- The oldest deferred entry leaves the list, and its COMPLETE is queued in the entry that was reserved (R9, R10). -/
def Link.complete (l : Link) (d : Deferred) (o : CompleteOutcome) : Link :=
  ({ l with deferred := l.deferred.tail } : Link).pushReply
    { code := .complete, tag := d.tag, kind := jobKind d.job, fields := outcomeBytes o }

/-- The outcome of an apply as a COMPLETE carries it (R132). -/
def applyResult : ApplyOutcome → CompleteOutcome
  | .done => .done
  | .poolFull => .fail .poolFull

/-- A deferred request is carried out at a boundary after which the block clock holds m, and completed (R9, R132). What a
STOP does, the entry into STOPPED, follows when the list is empty (R24). -/
def State.completeEntry (s : State) (m : BlockNo) (d : Deferred) : State :=
  match d.job with
  | .stop => s.withLink (s.link.complete d .done)
  | .apply b mode mask =>
    match s.cues.slots.get b with
    | none => s.withLink (s.link.complete d (.fail .cueClosed))
    | some w =>
      let (s', o) := s.applyCue b w mode mask (.boundary m)
      s'.withLink (s'.link.complete d (applyResult o))

/-- Every entry that the deferred list holds is completed, oldest first (R9). -/
def State.completeDeferred (s : State) (m : BlockNo) : State :=
  s.link.deferred.foldl (fun s d => s.completeEntry m d) s

/-! ## Notices of a boundary (R203 to R206) -/

/-- A notice of a boundary, from the state after it. -/
def boundaryNotice (after : State) (subject : Option Nat) (info : NoticeInfo) (event : NoticeEvent) : Notice :=
  { event := event, subject := subject, block := after.clock.lastBlock, info := info }

/-- The CLOCK notices (R35): a LEAVE carries the record of the spell that has ended. -/
def clockSubjects (before after : State) : List (Bool × Bool × (NoticeEvent → Notice)) :=
  [(before.clock.unlocked, after.clock.unlocked, fun e =>
    boundaryNotice after none (.clock (if e = .leave then before.clock.spell else after.clock.spell)) e)]

/-- The RING notices (R59), with the frames rejected before the boundary. -/
def ringSubjects (rejected : Nat) (before after : State) : List (Bool × Bool × (NoticeEvent → Notice)) :=
  [(before.ring.condition, after.ring.condition,
    boundaryNotice after none (.ring rejected after.ring.pagesUsed after.ring.entries.length
      (after.ring.entries.filter fun e => !e.consumed).length after.ring.tailState))]

/-- The SLOT notices (R73). -/
def slotSubjects (before after : State) : List (Bool × Bool × (NoticeEvent → Notice)) :=
  (List.finRange 48).map fun i =>
    let k := after.slots.get i
    ((before.slots.get i).condition, k.condition,
     boundaryNotice after (some i.val) (.slot k.status k.stream.val k.channel k.misses))

/-- The LIMIT notices (R117; log 24). -/
def limitSubjects (peaks : Table Nat 16) (before after : State) : List (Bool × Bool × (NoticeEvent → Notice)) :=
  (List.finRange 16).map fun i =>
    let l := after.limiters.get i
    let m := after.mixes.get i
    ((before.limiters.get i).condition, l.condition,
     boundaryNotice after (some i.val) (.limit l.gain (peaks.get i) m.ceiling (ceilingOf m.ceiling)))

/-- Every notice that a boundary raises, one queue for each class (R203, R204, R199 steps 1 and 2). -/
def boundaryQueues (rejected : Nat) (peaks : Table Nat 16) (before after : State) : List (List NoticeGroup) :=
  let ends := after.meter.intervalEnds
  let each (sens : Sensitivity) (subjects : List (Bool × Bool × (NoticeEvent → Notice))) : List NoticeGroup :=
    (classNotices sens ends subjects).map fun n => [n]
  [each after.link.sensClock (clockSubjects before after),
   each after.link.sensRing (ringSubjects rejected before after),
   each after.link.sensSlot (slotSubjects before after),
   each after.link.sensLimit (limitSubjects peaks before after),
   if ends && after.meter.on then [meterReport after after.meter] else []]

/-! ## A boundary that mixes a block (R20) -/

/-- Slots and ring at the boundary that mixes n (R56, R59, R67). -/
def State.assemble (s : State) (n : BlockNo) : State :=
  (s.withSlots (s.slots.map (assembleSlot s.ring n))).withRing (s.ring.afterBlock n)

/-- The mixes, limiters and click as a boundary leaves them (R87, R88, R102, R186). -/
def State.settle (s : State) (computed : Table Computed 16) : State :=
  ((s.withMixes (computed.map Computed.mix)).withLimiters (computed.map Computed.limiter)).withClick s.click.afterBlock

/-- The end of a meter interval after its notices (R199 steps 3 to 5). -/
def State.endInterval (s : State) : State :=
  if s.meter.intervalEnds then
    ((s.withSlots (clearPeaks s.slots)).withLimiters (clearMeters s.limiters)).withMeter s.meter.nextInterval
  else s

/-- Everything a boundary does once the clock, the ring's marking and the deferred list are settled; `before` is the state
before the boundary (log 20). -/
def State.mixBlock (s before : State) (n : BlockNo) : State :=
  let s1 := s.assemble n
  let computed := computeMixes s1 s1.click.blockSamples
  let s2 := s1.settle computed
  let s3 := (s2.withLine (s2.line.sendFrame n (computed.list.filterMap Computed.block))).withMeter
    (s2.meter.counted (computed.map fun c => c.block.isSome))
  (s3.raiseQueues (boundaryQueues s.ring.rejects (computed.map Computed.peak) before s3)).endInterval

/-- A boundary that mixes n, with the clock as it leaves it. A relock hands the M before it, n - 1, to the ring (R57). -/
def State.mixingBoundary (s : State) (clock : Clock) (n : BlockNo) (relocked : Bool) : State :=
  let s1 := s.closeWindows
  let s2 := (s1.withClock clock).withRing (if relocked then s1.ring.relock (n - 1) else s1.ring)
  (s2.completeDeferred n).mixBlock s n

/-- The stopping boundary at time t (R24; last boundary time: log 18). -/
def State.stoppingBoundary (s : State) (t : Time) (bySync : Bool) : State :=
  let s1 := s.closeWindows
  let c := { s1.clock with
    lastBoundary := some t
    syncBoundaries := if bySync then count32 s1.clock.syncBoundaries else s1.clock.syncBoundaries }
  ((s1.withClock c).completeDeferred c.block).enterStopped

/-! ## The clock at each kind of boundary (R26 to R36) -/

/-- The expected block number E (R29). -/
def Clock.expected (c : Clock) (f : Format) : BlockNo := c.block + BitVec.ofNat 16 f.lag + 1

/-- Whether a time lies less than half a block period after the last boundary time (R28, R33, R34). -/
def Clock.isEarly (c : Clock) (f : Format) (t : Time) : Bool :=
  match c.lastBoundary with
  | none => false
  | some b => decide (t < b + halfPeriod f.rate)

/-- A new spell (R35). -/
def Spell.begin (cause : SpellCause) : Spell := { cause := cause, holdovers := 0, jumps := 0, lastJump := none }

/-- A holdover boundary in a spell, and a recorded jump in a spell (R35). -/
def Spell.addHoldover (p : Spell) : Spell := { p with holdovers := count16 p.holdovers }
def Spell.addJump (p : Spell) (jump : Int) : Spell := { p with jumps := count16 p.jumps, lastJump := some jump }

/-- The clock after a sync frame taken at time t as a boundary that mixes n: the first boundary or a normal sync (R26, R29,
R33, R35). -/
def Clock.afterSync (c : Clock) (f : Format) (t : Time) (n : BlockNo) : Clock :=
  { c with engine := .running, lastBlock := some n, lastBoundary := some t, timer := some (t + watchSpan f.rate),
           unlocked := false, spell := none, syncBoundaries := count32 c.syncBoundaries }

/-- The clock after a relock boundary (R30, R33, R35). -/
def Clock.afterRelock (c : Clock) (f : Format) (t : Time) (n : BlockNo) (jump : Int) : Clock :=
  { c.afterSync f t n with
    unlocked := true, spell := some ((c.spell.getD (Spell.begin .relock)).addJump jump), relocks := count32 c.relocks }

/-- The clock after an expiry at time t: of the sync watch in RUNNING, of the holdover timer in HOLDOVER (R31, R32, R35). -/
def Clock.afterExpiry (c : Clock) (f : Format) (t : Time) : Clock :=
  { c with engine := .holdover, lastBlock := some (c.block + 1), lastBoundary := some t,
           timer := some (t + blockPeriod f.rate), unlocked := true,
           spell := some (c.spell.getD (Spell.begin .holdover)).addHoldover,
           holdoverBoundaries := count32 c.holdoverBoundaries,
           holdoverEntries := if c.engine = .running then count32 c.holdoverEntries else c.holdoverEntries }

/-- The clock after a realignment (R34). The timer counts from the last boundary time, which is kept. -/
def Clock.afterRealign (c : Clock) (f : Format) (block : BlockNo) : Clock :=
  let stood := c.block + BitVec.ofNat 16 f.lag
  let c' := { c with engine := .running, timer := c.lastBoundary.map (· + watchSpan f.rate), realigns := count32 c.realigns }
  if block = stood then c'
  else
    { c' with lastBlock := some (block - BitVec.ofNat 16 f.lag)
              spell := c.spell.map (·.addJump (signedDistance stood block)) }

/-! ## Sync frames (R26 to R34) -/

/-- A sync frame that R29, R30 or R33 takes as a boundary; the stopping boundary while a STOP is pending (R24). -/
def State.syncBoundary (s : State) (f : Format) (t : Time) (block : BlockNo) : State :=
  let n := block - BitVec.ofNat 16 f.lag
  if s.clock.stopPending then s.stoppingBoundary t true
  else if block = s.clock.expected f then s.mixingBoundary (s.clock.afterSync f t n) n false
  else s.mixingBoundary (s.clock.afterRelock f t n (signedDistance (s.clock.expected f) block)) n true

/-- A realignment: no boundary; the ring takes the new M (R34, R57). -/
def State.realign (s : State) (f : Format) (block : BlockNo) : State :=
  let c := s.clock.afterRealign f block
  (s.withClock c).withRing (if block = s.clock.block + BitVec.ofNat 16 f.lag then s.ring else s.ring.relock c.block)

/-- A sync frame of the sync stream. -/
def State.ownSync (s : State) (f : Format) (t : Time) (block : BlockNo) : State :=
  match s.clock.engine with
  | .armed =>
    let n := block - BitVec.ofNat 16 f.lag
    s.mixingBoundary (s.clock.afterSync f t n) n false
  | .running =>
    if s.clock.isEarly f t then s.withClock { s.clock with earlySyncs := count32 s.clock.earlySyncs }
    else s.syncBoundary f t block
  | .holdover => if s.clock.isEarly f t then s.realign f block else s.syncBoundary f t block
  | .stopped => s
  | .unformatted => s

/-- A sync frame handed to the Block Clock (R27, R39). -/
def State.takeSync (s : State) (t : Time) (id : StreamId) (block : BlockNo) : State :=
  if s.clock.engine = .unformatted ∨ s.clock.engine = .stopped then
    s.withClock { s.clock with idleSyncs := count32 s.clock.idleSyncs }
  else
    match s.clock.format with
    | none => s.withClock { s.clock with foreignSyncs := count32 s.clock.foreignSyncs }
    | some f =>
      if id = f.syncId then s.ownSync f t block
      else s.withClock { s.clock with foreignSyncs := count32 s.clock.foreignSyncs }

/-! ## The stage port (R38, R39) -/

/-- A complete stage frame at time t (R38, R39, R46). -/
def State.stageFrame (s : State) (t : Time) (frame : List Byte) : State :=
  if frame.length < 8 then s.withStage { s.stage with malformed := count32 s.stage.malformed }
  else if byteAt frame 0 = 1 then s.takeAudio frame
  else if byteAt frame 0 = 2 then
    (if frame.length = 8 ∧ checkHolds frame then s.takeSync t (frameId frame) (frameBlock frame)
     else s.withStage { s.stage with syncRejected := count32 s.stage.syncRejected })
  else s.withStage { s.stage with malformed := count32 s.stage.malformed }

/-! ## Timer expiries (R31, R32) -/

/-- The timer expires at its due time t: a boundary (R24, R31, R32). -/
def State.expire (s : State) (f : Format) (t : Time) : State :=
  if s.clock.stopPending then s.stoppingBoundary t false
  else s.mixingBoundary (s.clock.afterExpiry f t) (s.clock.block + 1) false

/-- An expiry of the timer in the engine state that runs it so; a timer that does not run so cannot expire (log 4). -/
def State.timerExpiry (s : State) (e : EngineState) : State :=
  if s.clock.engine = e then
    match s.clock.timer, s.clock.format with
    | some t, some f => s.expire f t
    | _, _ => s
  else s

/-! ## FORMAT, START, STOP (R21 to R23) -/

/-- The sample rate of a FORMAT (R21). -/
def rate? (hertz : Nat) : Option Rate :=
  if hertz = 48000 then some .r48000 else if hertz = 96000 then some .r96000 else none

/-- FORMAT (R21). -/
def setFormat (r1 r2 r3 r4 lag i1 i2 i3 : Byte) : Owner := fun s =>
  let id : StreamId := BitVec.ofNat 24 (nat24 i1 i2 i3)
  match rate? (nat32 r1 r2 r3 r4) with
  | none => (s, .fail .badValue)
  | some rate =>
    if lag.toNat < 1 ∨ 4 < lag.toNat ∨ id = noStream ∨ (s.stage.recordOf id).isSome then (s, .fail .badValue)
    else if s.clock.engine ≠ .unformatted ∧ s.clock.engine ≠ .stopped then (s, .fail .wrongState)
    else if s.cues.slots.list.any Option.isSome then (s, .fail .cueOpen)
    else
      ((s.withClock { s.clock with format := some { rate := rate, lag := lag.toNat, syncId := id } }).enterStopped, .done [])

/-- START (R22). -/
def startEngine : Owner := fun s =>
  match s.clock.engine with
  | .unformatted => (s, .fail .wrongState)
  | .stopped => (s.withClock { s.clock with engine := .armed }, .done [])
  | .armed => (s, .done [])
  | .running => (s, .done [])
  | .holdover => (s, .done [])

/-- STOP (R23). -/
def stopEngine : Owner := fun s =>
  match s.clock.engine with
  | .unformatted => (s, .fail .wrongState)
  | .stopped => (s, .done [])
  | .armed => (s.enterStopped, .done [])
  | .running => (s, .wouldDefer .stop)
  | .holdover => (s, .wouldDefer .stop)

/-! ## Meanings -/

def execFormat (tag : Byte) (fields : List Byte) (s : State) : Host.Outcome State Fault Refusal :=
  .next (takeRequest 0x10 tag
    (match fields with
     | [r1, r2, r3, r4, lag, i1, i2, i3] => some (setFormat r1 r2 r3 r4 lag i1 i2 i3)
     | _ => none) s)

def execStart (tag : Byte) (fields : List Byte) (s : State) : Host.Outcome State Fault Refusal :=
  .next (takeRequest 0x11 tag (zeroField startEngine fields) s)

def execStop (tag : Byte) (fields : List Byte) (s : State) : Host.Outcome State Fault Refusal :=
  .next (takeRequest 0x12 tag (zeroField stopEngine fields) s)

/-- SYNC_FRAME (R39). -/
def execSyncFrame (time : Time) (frame : List Byte) (s : State) : Host.Outcome State Fault Refusal :=
  .next (s.stageFrame time frame)

/-- AUDIO_FRAME (R46). -/
def execAudioFrame (time : Time) (frame : List Byte) (s : State) : Host.Outcome State Fault Refusal :=
  .next (s.stageFrame time frame)

/-- MALFORMED_STAGE_FRAME (R38). -/
def execMalformedStageFrame (time : Time) (frame : List Byte) (s : State) : Host.Outcome State Fault Refusal :=
  .next (s.stageFrame time frame)

/-- SYNC_WATCH_EXPIRY (R31). -/
def execSyncWatchExpiry (s : State) : Host.Outcome State Fault Refusal := .next (s.timerExpiry .running)

/-- HOLDOVER_TIMER_EXPIRY (R32). -/
def execHoldoverTimerExpiry (s : State) : Host.Outcome State Fault Refusal := .next (s.timerExpiry .holdover)

end Sys2Proof.Machine
end

