-- ==== Sys2Proof/Machine/Link.lean ====
section
/-! DEFINITION. The control link (01): frame assembly, the end of a transmission, power-on, the requests IDENT, STATUS, RESET and
NOTICE_SET, and the taking of a complete body. -/

namespace Sys2Proof.Machine

/-! ## IDENT and STATUS (R15, R16, R211) -/

/-- IDENT (R15); the pool capacity 256 is carried as 0 (R211). -/
def identify : Owner := fun s =>
  (s, .data (be2 0x46DA ++ be2 1648 ++ be1 1 ++ be1 16 ++ be1 48 ++ be1 8 ++ be1 256 ++ be1 32 ++ be1 24))

/-- The format as STATUS reports it (R16, R211). -/
def formatBytes (f : Format) : List Byte := be4 (rateHertz f.rate) ++ be1 f.lag ++ be3 f.syncId.toNat

/-- STATUS (R16). The reply queue count includes the STATUS reply itself. -/
def reportStatus : Owner := fun s =>
  (s, .data (be1 (engineCode s.clock.engine) ++ optional 2 (fun b => be2 b.toNat) s.clock.lastBlock
    ++ optional 8 formatBytes s.clock.format ++ yesNo (s.link.deferred.any fun d => d.job == .stop)
    ++ be4 s.link.linkErrors ++ be4 s.link.overrun ++ be4 s.link.noticesLost ++ be1 s.link.deferred.length
    ++ be1 (s.link.inUse + 1) ++ be1 s.link.notices.length ++ be2 (poolFree s.mixes) ++ be2 s.ring.pagesUsed
    ++ be1 s.ring.entries.length ++ be1 s.line.inUse))

/-! ## RESET (R17) -/

/-- Every deferred entry is completed with ABORTED, oldest first, and is not carried out (R17 step 1). -/
def Link.abortDeferred (l : Link) : Link := l.deferred.foldl (fun l d => l.complete d .aborted) l

/-- The Block Clock after the RESET request (R37). -/
def Clock.softReset (c : Clock) : Clock :=
  { c with engine := if c.format.isSome then .stopped else .unformatted, timer := none, stopPending := false,
           unlocked := false, spell := none }

/-- The Stage Receiver after the RESET request: the device-wide counters are kept (R61). -/
def Stage.softReset (g : Stage) : Stage := { g with streams := Table.fill Stream.unbound }

/-- The Cue Controller after the RESET request: the scenes are kept, every cue slot is CLOSED (R140). -/
def Cues.softReset (c : Cues) : Cues := { c with slots := Table.fill none }

/-- The notice queue after the RESET request: only a notice in transmission stays (R17 step 3). -/
def Link.purgeNotices (l : Link) : Link :=
  { l with notices := match l.tx with
      | .notice => l.notices.take 1
      | _ => [] }

/-- The notice settings at their defaults (R14, R17 step 4). -/
def Link.defaultSettings (l : Link) : Link :=
  { l with sensLimit := .off, sensSlot := .off, sensRing := .off, sensClock := .off, packNotices := true }

/-- The soft reset, in the order of R17. -/
def State.softReset (s : State) : State :=
  { s with
    link := s.link.abortDeferred.purgeNotices.defaultSettings
    clock := s.clock.softReset
    stage := s.stage.softReset
    ring := s.ring.emptied
    slots := Table.fill Slot.unbound
    mixes := Table.fill Mix.default
    limiters := Table.fill Limiter.reset
    cues := s.cues.softReset
    line := s.line.softReset
    click := Click.reset
    meter := Meter.reset }

/-- RESET (R17). -/
def resetPart : Owner := fun s => (s.softReset, .done [])

/-! ## NOTICE_SET (R14) -/

/-- The link with the setting of a class replaced; none when the class does not accept the setting (R14, R210). -/
def Link.noticeSet? (l : Link) (cls setting : Byte) : Option Link :=
  match cls.toNat with
  | 1 => (sensitivity? setting).map fun v => { l with sensLimit := v }
  | 2 => (sensitivity? setting).map fun v => { l with sensSlot := v }
  | 3 => (sensitivity? setting).map fun v => { l with sensRing := v }
  | 4 => (sensitivity? setting).map fun v => { l with sensClock := v }
  | 5 => (flag? setting).map fun v => { l with packNotices := v }
  | _ => none

/-- NOTICE_SET (R14). -/
def noticeSet (cls setting : Byte) : Owner := fun s =>
  match s.link.noticeSet? cls setting with
  | none => (s, .fail .badValue)
  | some l => (s.withLink l, .done [])

/-! ## Meanings of the Link Controller's requests -/

def execIdent (tag : Byte) (fields : List Byte) (s : State) : Host.Outcome State Fault Refusal :=
  .next (takeRequest 0x01 tag (zeroField identify fields) s)

def execStatus (tag : Byte) (fields : List Byte) (s : State) : Host.Outcome State Fault Refusal :=
  .next (takeRequest 0x02 tag (zeroField reportStatus fields) s)

def execReset (tag : Byte) (fields : List Byte) (s : State) : Host.Outcome State Fault Refusal :=
  .next (takeRequest 0x03 tag (zeroField resetPart fields) s)

def execNoticeSet (tag : Byte) (fields : List Byte) (s : State) : Host.Outcome State Fault Refusal :=
  .next (takeRequest 0x04 tag (match fields with | [cls, setting] => some (noticeSet cls setting) | _ => none) s)

/-- A frame whose kind byte names no request kind. Its fields are not looked at (R3 test 2). The row is for such kinds only;
with a kind that is one of R212 the bytes decide nothing else (log 9). -/
def execUnknownKindRequest (kind tag : Byte) (_fields : List Byte) (s : State) : Host.Outcome State Fault Refusal :=
  .next (takeUnknownKind kind tag s)

/-! ## Frame assembly (R1, R2) -/

/-- The receiver in HUNT with no bytes kept. -/
def Receiver.hunting (t : Time) : Receiver := { phase := .hunt, declared := 0, body := [], sum := 0, lastAt := t }

/-- What a byte does to frame assembly. -/
inductive RxEvent where
  /-- Assembly goes on, or hunts. -/
  | taken
  /-- The frame is discarded (R2). -/
  | discarded
  /-- The frame is complete, with this body (R1). -/
  | complete (body : List Byte)
  deriving DecidableEq, Repr

/-- A byte received at time t, by the receive state (R1). -/
def Receiver.receive (r : Receiver) (t : Time) (b : Byte) : Receiver × RxEvent :=
  match r.phase with
  | .hunt => if b = 0xC3 then ({ Receiver.hunting t with phase := .length }, .taken) else (Receiver.hunting t, .taken)
  | .length =>
    if 3 ≤ b.toNat ∧ b.toNat ≤ 250 then
      ({ phase := .body, declared := b.toNat, body := [], sum := b.toNat, lastAt := t }, .taken)
    else (Receiver.hunting t, .discarded)
  | .body =>
    let body := r.body ++ [b]
    ({ r with phase := if body.length = r.declared then .check else .body, body := body, sum := r.sum + b.toNat, lastAt := t },
     .taken)
  | .check =>
    (Receiver.hunting t, if (r.sum + b.toNat) % 256 = 0 then .complete r.body else .discarded)

/-- A frame in assembly is discarded (R2). -/
def Link.discardFrame (l : Link) : Link :=
  { l with rx := Receiver.hunting l.rx.lastAt, linkErrors := count32 l.linkErrors }

/-- A gap of more than 2 ms has run out between two bytes of a frame (R2). -/
def Link.gapExpired (l : Link) (t : Time) : Bool := l.rx.phase != .hunt && decide (l.rx.lastAt + Config.gapLimit < t)

/-- INTER_BYTE_GAP_EXPIRY (R2); in HUNT there is no frame whose gap could expire (log 4). -/
def Link.gapExpiry (l : Link) : Link := if l.rx.phase = .hunt then l else l.discardFrame

/-- The link as a byte finds it: a gap that has run out has discarded its frame (R2; log 26). -/
def Link.settleGap (l : Link) (t : Time) : Link := if l.gapExpired t then l.discardFrame else l

/-- The meaning of the request that a body is. The rows that are no requests are never decoded from a body. -/
def requestMeaning : Instr → State → Host.Outcome State Fault Refusal
  | .ident tag fields, s => execIdent tag fields s
  | .status tag fields, s => execStatus tag fields s
  | .reset tag fields, s => execReset tag fields s
  | .noticeSet tag fields, s => execNoticeSet tag fields s
  | .format tag fields, s => execFormat tag fields s
  | .start tag fields, s => execStart tag fields s
  | .stop tag fields, s => execStop tag fields s
  | .bindStream tag fields, s => execBindStream tag fields s
  | .unbindStream tag fields, s => execUnbindStream tag fields s
  | .flushStream tag fields, s => execFlushStream tag fields s
  | .setStream tag fields, s => execSetStream tag fields s
  | .queryStream tag fields, s => execQueryStream tag fields s
  | .bindSlot tag fields, s => execBindSlot tag fields s
  | .setSlot tag fields, s => execSetSlot tag fields s
  | .unbindSlot tag fields, s => execUnbindSlot tag fields s
  | .querySlot tag fields, s => execQuerySlot tag fields s
  | .mixSetLive tag fields, s => execMixSetLive tag fields s
  | .mixSetCue tag fields, s => execMixSetCue tag fields s
  | .addSendLive tag fields, s => execAddSendLive tag fields s
  | .addSendCue tag fields, s => execAddSendCue tag fields s
  | .setSendLive tag fields, s => execSetSendLive tag fields s
  | .setSendCue tag fields, s => execSetSendCue tag fields s
  | .removeSendLive tag fields, s => execRemoveSendLive tag fields s
  | .removeSendCue tag fields, s => execRemoveSendCue tag fields s
  | .setTrim tag fields, s => execSetTrim tag fields s
  | .queryMix tag fields, s => execQueryMix tag fields s
  | .openCue tag fields, s => execOpenCue tag fields s
  | .takeLive tag fields, s => execTakeLive tag fields s
  | .storeCue tag fields, s => execStoreCue tag fields s
  | .closeCue tag fields, s => execCloseCue tag fields s
  | .applyCue tag fields, s => execApplyCue tag fields s
  | .queryCue tag fields, s => execQueryCue tag fields s
  | .queryScene tag fields, s => execQueryScene tag fields s
  | .assignPack tag fields, s => execAssignPack tag fields s
  | .removePack tag fields, s => execRemovePack tag fields s
  | .packText tag fields, s => execPackText tag fields s
  | .queryPack tag fields, s => execQueryPack tag fields s
  | .clickSet tag fields, s => execClickSet tag fields s
  | .clickStart tag fields, s => execClickStart tag fields s
  | .clickStop tag fields, s => execClickStop tag fields s
  | .meterSet tag fields, s => execMeterSet tag fields s
  | .queryCounters tag fields, s => execQueryCounters tag fields s
  | .unknownKindRequest kind tag fields, s => execUnknownKindRequest kind tag fields s
  | .powerOn, s => .next s
  | .linkByteReceived _ _, s => .next s
  | .interByteGapExpiry, s => .next s
  | .transmitEnd, s => .next s
  | .syncFrame _ _, s => .next s
  | .audioFrame _ _, s => .next s
  | .malformedStageFrame _ _, s => .next s
  | .syncWatchExpiry, s => .next s
  | .holdoverTimerExpiry, s => .next s
  | .announceWindowClose _, s => .next s
  | .grantedWindowClose _, s => .next s
  | .upstreamSignalAfterIdle, s => .next s

/-- A complete body is handed to decoding at once (R3; log 10). -/
def State.takeBody (s : State) (body : List Byte) : Host.Outcome State Fault Refusal :=
  match decodeBody body with
  | some i => requestMeaning i s
  | none => .next s

/-! ## Meanings of the link's events -/

/-- POWER_ON (R18 and the power-on values of every block). The waiting commands are not the part's state. -/
def execPowerOn (s : State) : Host.Outcome State Fault Refusal :=
  .next ((State.reset.withPending s.pending).withDraws s.draws)

/-- LINK_BYTE_RECEIVED (R1 to R3). -/
def execLinkByteReceived (time : Time) (byte : Byte) (s : State) : Host.Outcome State Fault Refusal :=
  let l := s.link.settleGap time
  let (rx, event) := l.rx.receive time byte
  match event with
  | .taken => .next (s.withLink { l with rx := rx })
  | .discarded => .next (s.withLink { l with rx := rx, linkErrors := count32 l.linkErrors })
  | .complete body => (s.withLink { l with rx := rx }).takeBody body

/-- INTER_BYTE_GAP_EXPIRY (R2). -/
def execInterByteGapExpiry (s : State) : Host.Outcome State Fault Refusal := .next (s.withLink s.link.gapExpiry)

/-- TRANSMIT_END (R12). -/
def execTransmitEnd (s : State) : Host.Outcome State Fault Refusal := .next (s.withLink s.link.endTx)

end Sys2Proof.Machine
end

