-- ==== Sys2Proof/Machine/Dispatch.lean ====
section
/-! DEFINITION. The dispatch: one arm for each command, each a direct call of its meaning. -/

namespace Sys2Proof.Machine

def exec (i : Instr) (s : State) : Host.Outcome State Fault Refusal :=
  match i with
  | .powerOn => Sys2Proof.Machine.execPowerOn s
  | .linkByteReceived time byte => Sys2Proof.Machine.execLinkByteReceived time byte s
  | .interByteGapExpiry => Sys2Proof.Machine.execInterByteGapExpiry s
  | .unknownKindRequest kind tag fields => Sys2Proof.Machine.execUnknownKindRequest kind tag fields s
  | .transmitEnd => Sys2Proof.Machine.execTransmitEnd s
  | .ident tag fields => Sys2Proof.Machine.execIdent tag fields s
  | .status tag fields => Sys2Proof.Machine.execStatus tag fields s
  | .reset tag fields => Sys2Proof.Machine.execReset tag fields s
  | .noticeSet tag fields => Sys2Proof.Machine.execNoticeSet tag fields s
  | .format tag fields => Sys2Proof.Machine.execFormat tag fields s
  | .start tag fields => Sys2Proof.Machine.execStart tag fields s
  | .stop tag fields => Sys2Proof.Machine.execStop tag fields s
  | .syncFrame time frame => Sys2Proof.Machine.execSyncFrame time frame s
  | .audioFrame time frame => Sys2Proof.Machine.execAudioFrame time frame s
  | .malformedStageFrame time frame => Sys2Proof.Machine.execMalformedStageFrame time frame s
  | .syncWatchExpiry => Sys2Proof.Machine.execSyncWatchExpiry s
  | .holdoverTimerExpiry => Sys2Proof.Machine.execHoldoverTimerExpiry s
  | .bindStream tag fields => Sys2Proof.Machine.execBindStream tag fields s
  | .unbindStream tag fields => Sys2Proof.Machine.execUnbindStream tag fields s
  | .flushStream tag fields => Sys2Proof.Machine.execFlushStream tag fields s
  | .setStream tag fields => Sys2Proof.Machine.execSetStream tag fields s
  | .queryStream tag fields => Sys2Proof.Machine.execQueryStream tag fields s
  | .bindSlot tag fields => Sys2Proof.Machine.execBindSlot tag fields s
  | .setSlot tag fields => Sys2Proof.Machine.execSetSlot tag fields s
  | .unbindSlot tag fields => Sys2Proof.Machine.execUnbindSlot tag fields s
  | .querySlot tag fields => Sys2Proof.Machine.execQuerySlot tag fields s
  | .mixSetLive tag fields => Sys2Proof.Machine.execMixSetLive tag fields s
  | .mixSetCue tag fields => Sys2Proof.Machine.execMixSetCue tag fields s
  | .addSendLive tag fields => Sys2Proof.Machine.execAddSendLive tag fields s
  | .addSendCue tag fields => Sys2Proof.Machine.execAddSendCue tag fields s
  | .setSendLive tag fields => Sys2Proof.Machine.execSetSendLive tag fields s
  | .setSendCue tag fields => Sys2Proof.Machine.execSetSendCue tag fields s
  | .removeSendLive tag fields => Sys2Proof.Machine.execRemoveSendLive tag fields s
  | .removeSendCue tag fields => Sys2Proof.Machine.execRemoveSendCue tag fields s
  | .setTrim tag fields => Sys2Proof.Machine.execSetTrim tag fields s
  | .queryMix tag fields => Sys2Proof.Machine.execQueryMix tag fields s
  | .openCue tag fields => Sys2Proof.Machine.execOpenCue tag fields s
  | .takeLive tag fields => Sys2Proof.Machine.execTakeLive tag fields s
  | .storeCue tag fields => Sys2Proof.Machine.execStoreCue tag fields s
  | .closeCue tag fields => Sys2Proof.Machine.execCloseCue tag fields s
  | .applyCue tag fields => Sys2Proof.Machine.execApplyCue tag fields s
  | .queryCue tag fields => Sys2Proof.Machine.execQueryCue tag fields s
  | .queryScene tag fields => Sys2Proof.Machine.execQueryScene tag fields s
  | .assignPack tag fields => Sys2Proof.Machine.execAssignPack tag fields s
  | .removePack tag fields => Sys2Proof.Machine.execRemovePack tag fields s
  | .packText tag fields => Sys2Proof.Machine.execPackText tag fields s
  | .queryPack tag fields => Sys2Proof.Machine.execQueryPack tag fields s
  | .announceWindowClose heard => Sys2Proof.Machine.execAnnounceWindowClose heard s
  | .grantedWindowClose heard => Sys2Proof.Machine.execGrantedWindowClose heard s
  | .upstreamSignalAfterIdle => Sys2Proof.Machine.execUpstreamSignalAfterIdle s
  | .clickSet tag fields => Sys2Proof.Machine.execClickSet tag fields s
  | .clickStart tag fields => Sys2Proof.Machine.execClickStart tag fields s
  | .clickStop tag fields => Sys2Proof.Machine.execClickStop tag fields s
  | .meterSet tag fields => Sys2Proof.Machine.execMeterSet tag fields s
  | .queryCounters tag fields => Sys2Proof.Machine.execQueryCounters tag fields s

end Sys2Proof.Machine
end

