-- ==== Sys2Proof/Safety.lean ====
section
/-! DEFINITION. What a sound state is: the ranges and relations that the rules give the part's state, block by block. Every
run from power-on keeps them; claims about every state take them as their premise. -/

namespace Sys2Proof.Machine

/-! ## Control link -/

/-- The bounds of the queues (R8, R10, R13), the hold line (R11), and a transmitter that idles only when no message waits and
sends only a message that exists (R12). -/
abbrev Link.Sound (l : Link) : Prop :=
  l.inUse ≤ 16 ∧ l.notices.length ≤ 64 ∧ l.deferred.length ≤ 8 ∧ l.hold = decide (12 ≤ l.inUse)
    ∧ (l.tx = .idle → l.replies = [] ∧ l.notices = []) ∧ (l.tx = .reply → l.replies ≠ []) ∧ (l.tx = .notice → l.notices ≠ [])

/-- The Link Controller's own tests of a request pass (R3 tests 1, 3 and 5): a free entry, a tag that is not 0, and no deferred
entry that holds it. -/
abbrev State.Admits (s : State) (tag : Byte) : Prop := 1 ≤ s.link.free ∧ tag ≠ 0 ∧ s.link.holdsTag tag = false

/-- The body lengths that R212 admits for a request kind; none for a byte that is no request kind. -/
def admittedLengths (kind : Byte) : List Nat :=
  match kind.toNat with
  | 0x01 => [3]
  | 0x02 => [3]
  | 0x03 => [3]
  | 0x04 => [4]
  | 0x10 => [10]
  | 0x11 => [3]
  | 0x12 => [3]
  | 0x20 => [8]
  | 0x21 => [3]
  | 0x22 => [3]
  | 0x23 => [4]
  | 0x24 => [3]
  | 0x28 => [7]
  | 0x29 => [5]
  | 0x2A => [3]
  | 0x2B => [3]
  | 0x30 => [12]
  | 0x31 => [10]
  | 0x32 => [11]
  | 0x33 => [6]
  | 0x34 => [7]
  | 0x35 => [4]
  | 0x40 => [4]
  | 0x41 => [5]
  | 0x42 => [3]
  | 0x43 => [4]
  | 0x44 => [6]
  | 0x45 => [5]
  | 0x46 => [5]
  | 0x50 => [5]
  | 0x51 => [3]
  | 0x52 => List.range' 4 32
  | 0x53 => [3]
  | 0x58 => [8]
  | 0x59 => [3]
  | 0x5A => [3]
  | 0x60 => [5]
  | 0x61 => [5]
  | _ => []

/-- The kinds of the requests that carry the zero field (R211, R212). -/
def zeroFieldKinds : List Byte := [0x01, 0x02, 0x03, 0x11, 0x12, 0x59, 0x5A]

/-- Bytes received one after the other, each at its time. -/
def feedBytes : List (Time × Byte) → State → Host.Outcome State Fault Refusal
  | [], s => .next s
  | (t, b) :: rest, s =>
    match exec (.linkByteReceived t b) s with
    | .next s' => feedBytes rest s'
    | o => o

/-- The bytes and the sum that frame assembly holds in each receive state (R1). -/
abbrev Receiver.Sound (r : Receiver) : Prop :=
  (r.phase = .hunt ∨ r.phase = .length → r.body = [])
    ∧ (r.phase = .body ∨ r.phase = .check → 3 ≤ r.declared ∧ r.declared ≤ 250 ∧ r.sum = r.declared + byteSum r.body)
    ∧ (r.phase = .body → r.body.length < r.declared) ∧ (r.phase = .check → r.body.length = r.declared)

/-! ## Block clock -/

/-- What the engine state says about the clock's other state (R19, R21, R31, R35, R37). -/
abbrev Clock.Sound (c : Clock) : Prop :=
  (c.engine = .unformatted ↔ c.format = none)
    ∧ (c.mixing = true → c.lastBlock.isSome ∧ c.lastBoundary.isSome ∧ c.timer.isSome)
    ∧ (c.mixing = false → c.timer = none ∧ c.stopPending = false ∧ c.unlocked = false)
    ∧ c.unlocked = c.spell.isSome
    ∧ (c.engine = .holdover → c.unlocked = true)
    ∧ ∀ f ∈ c.format.toList, 1 ≤ f.lag ∧ f.lag ≤ 4 ∧ f.syncId ≠ noStream

/-- Whether a deferred entry is an apply of cue slot b. -/
def Deferred.isApply (b : Fin 4) (d : Deferred) : Bool :=
  match d.job with
  | .apply c _ _ => c == b
  | .stop => false

/-- Whether a cue slot is APPLYING (R122). -/
def Cues.applying (c : Cues) (b : Fin 4) : Bool := (c.slots.get b).any CueWork.applying

/-- The deferred list against the blocks whose pending state it holds (R3, R8, R25, R122): only while mixing; tags distinct
and not 0; a STOP last and pending; an APPLYING cue slot for each deferred apply. -/
abbrev State.DeferralSound (s : State) : Prop :=
  (s.link.deferred ≠ [] → s.clock.mixing = true)
    ∧ (s.link.deferred.map Deferred.tag).Nodup ∧ (∀ d ∈ s.link.deferred, d.tag ≠ 0)
    ∧ (∀ d ∈ s.link.deferred.dropLast, d.job ≠ .stop)
    ∧ (s.clock.stopPending = s.link.deferred.any fun d => d.job == .stop)
    ∧ ∀ b : Fin 4, (s.link.deferred.filter (Deferred.isApply b)).length = if s.cues.applying b then 1 else 0

/-! ## Streams and ring -/

/-- A stream record's ranges (03, The stream table). -/
abbrev Stream.Sound (r : Stream) : Prop :=
  if r.bound then r.id ≠ noStream ∧ 1 ≤ r.channels ∧ r.channels ≤ 8 else r = { Stream.unbound with counters := r.counters }

/-- BOUND ids are distinct, and none is the sync id (R21, R41). -/
abbrev State.StreamsSound (s : State) : Prop :=
  (∀ r ∈ s.stage.streams.list, r.Sound)
    ∧ ((s.stage.streams.list.filter Stream.bound).map Stream.id).Nodup
    ∧ ∀ f ∈ s.clock.format.toList, ∀ r ∈ s.stage.streams.list, r.bound = true → r.id ≠ f.syncId

/-- Each entry of the index lies in the circle of pages where the one before it ends; the head is where the last ends. -/
def Ring.chained (head : Nat) : List RingEntry → Bool
  | [] => true
  | [e] => decide (head = (e.first + e.pages) % Config.ringPages)
  | e :: e' :: rest => decide (e'.first = (e.first + e.pages) % Config.ringPages) && Ring.chained head (e' :: rest)

/-- The ring against its capacities and its layout (R52 to R55), its tail after reclaim (R58), and its canonical storage. -/
abbrev Ring.Sound (r : Ring) : Prop :=
  storageWf r.pages = true ∧ r.pagesUsed ≤ 384 ∧ r.entries.length ≤ 64 ∧ r.head < 384
    ∧ (∀ e ∈ r.entries, e.first < 384 ∧ 1 ≤ e.channels ∧ e.channels ≤ 8 ∧ e.pages = pagesFor e.channels)
    ∧ Ring.chained r.head r.entries = true
    ∧ (∀ e ∈ r.entries.head?.toList, e.consumed = false)

/-- WAITING entries belong to a BOUND stream of their channel count, lie 1..8 blocks ahead of M, and are one to a stream and
block (R48, R50, R51, R56, R57). Outside RUNNING and HOLDOVER the ring is empty and no condition holds (R61, R205). -/
abbrev State.RingSound (s : State) : Prop :=
  s.ring.Sound
    ∧ (∀ e ∈ s.ring.entries, e.consumed = false →
        (s.stage.streams.get e.stream).bound = true ∧ (s.stage.streams.get e.stream).channels = e.channels
          ∧ inWindow s.clock.block e.block = true)
    ∧ ((s.ring.entries.filter fun e => !e.consumed).map fun e => (e.stream, e.block)).Nodup
    ∧ (s.clock.mixing = false → s.ring.entries = [] ∧ s.ring.rejects = 0 ∧ s.ring.condition = false)

/-! ## Slots -/

/-- A value that a sample word can hold. -/
abbrev SampleInRange (x : Sample) : Prop := -8388608 ≤ x ∧ x ≤ 8388607

/-- A slot record's ranges (R62, R71); its status is NONE when it is UNBOUND. -/
abbrev Slot.Sound (k : Slot) : Prop :=
  k.misses ≤ 65535 ∧ k.peak ≤ 8388608 ∧ (∀ x ∈ k.history.list, SampleInRange x) ∧ (∀ x ∈ k.assembled.list, SampleInRange x)
    ∧ (k.bound = false → k = { Slot.unbound with condition := k.condition })

/-- BOUND slots name a BOUND stream and one of its channels (R42, R63). -/
abbrev State.SlotsSound (s : State) : Prop :=
  ∀ k ∈ s.slots.list, k.Sound ∧ (k.bound = true →
    (s.stage.streams.get k.stream).bound = true ∧ k.channel < (s.stage.streams.get k.stream).channels)

/-! ## Mixes -/

/-- The largest gain: that of level code 127 (R79). -/
abbrev topGain : Nat := 240388

abbrev TrimInRange (t : Int) : Prop := -16 ≤ t ∧ t ≤ 16

/-- A send record's ranges; its targets are those that R81 gives at present (R83); in a MONO mix its right gains are 0. -/
abbrev Send.Sound (m : Mix) (d : Send) : Prop :=
  d.level ≤ 127 ∧ TrimInRange d.balance ∧ d.currentLeft ≤ topGain ∧ d.currentRight ≤ topGain
    ∧ (d.targetLeft, d.targetRight) = sendTargets m d ∧ (m.stereo = false → d.currentRight = 0)

/-- A mix record's ranges (R76), its send list (R78), its targets (R83), and what OFF means for it (R76). -/
abbrev Mix.Sound (m : Mix) : Prop :=
  m.master ≤ 127 ∧ 64 ≤ m.ceiling ∧ m.ceiling ≤ 112 ∧ 1 ≤ m.release ∧ m.release ≤ 4096 ∧ m.click ≤ 127
    ∧ TrimInRange m.volume ∧ TrimInRange m.self ∧ TrimInRange m.others ∧ (∀ t ∈ m.dim.toList, TrimInRange t)
    ∧ m.masterCurrent ≤ topGain ∧ m.masterTarget = masterTargetOf m
    ∧ m.sends.length ≤ 24 ∧ (m.sends.map Send.slot).Pairwise (· < ·) ∧ (∀ d ∈ m.sends, d.Sound m)
    ∧ (m.state = .off → m.masterCurrent = 0 ∧ ∀ d ∈ m.sends, d.removing = false)

/-- A limiter's ranges (R101, R114, R118); its condition needs a gain below unity (R117). -/
abbrev Limiter.Sound (l : Limiter) : Prop :=
  3 ≤ l.gain ∧ l.gain ≤ 65536 ∧ l.peak ≤ 8388607 ∧ 3 ≤ l.lowest ∧ l.lowest ≤ 65536 ∧ (l.condition = true → l.gain < 65536)

/-- Every mix, and the send pool (R77). -/
abbrev State.MixesSound (s : State) : Prop := (∀ m ∈ s.mixes.list, m.Sound) ∧ poolUsed s.mixes ≤ 256

/-- Every limiter; an OFF mix has its limiter at unity (R115). -/
abbrev State.LimitersSound (s : State) : Prop :=
  (∀ l ∈ s.limiters.list, l.Sound) ∧ ∀ i : Fin 16, (s.mixes.get i).state = .off → (s.limiters.get i).gain = 65536

/-- While the engine does not mix, no mix fades, no send is REMOVING, and every limiter is at unity with no LIMIT condition
(R85, R93, R99, R115, R205). -/
abbrev State.MixesAtRest (s : State) : Prop :=
  s.clock.mixing = false →
    (∀ m ∈ s.mixes.list, m.state ≠ .fading ∧ ∀ d ∈ m.sends, d.removing = false)
      ∧ ∀ l ∈ s.limiters.list, l.gain = 65536 ∧ l.condition = false

/-! ## Scenes and cue slots -/

/-- A mix entry's ranges and its send list (R121). -/
abbrev MixEntry.Sound (e : MixEntry) : Prop :=
  e.master ≤ 127 ∧ 64 ≤ e.ceiling ∧ e.ceiling ≤ 112 ∧ 1 ≤ e.release ∧ e.release ≤ 4096 ∧ e.sends.length ≤ 24
    ∧ (e.sends.map SceneSend.slot).Pairwise (· < ·) ∧ ∀ d ∈ e.sends, d.level ≤ 127 ∧ TrimInRange d.balance

/-- Every stored scene and every working copy (R121, R122). -/
abbrev Cues.Sound (c : Cues) : Prop :=
  (∀ o ∈ c.scenes.list, ∀ scene ∈ o.toList, ∀ e ∈ scene.list, e.Sound)
    ∧ ∀ o ∈ c.slots.list, ∀ w ∈ o.toList, ∀ e ∈ w.copy.list, e.Sound

/-! ## Pack line -/

/-- A pack record by its state (R158, R163, R173). -/
abbrev Pack.Sound (p : Pack) : Prop :=
  (p.state = .free → p = Pack.freeWith p.counters)
    ∧ (p.state = .joining → p.mix = none ∧ p.role = .listener ∧ p.busy = false ∧ p.presence = 0 ∧ p.attempts ≤ 3
        ∧ p.ticks ≤ 255 ∧ (p.offerSent = false → p.attempts = 0))
    ∧ (p.state = .present → 64 ≤ p.presence ∧ p.presence ≤ 127) ∧ (p.state = .lost → p.presence = 63)
    ∧ (p.mix = none → p.role = .listener)

/-- The message queue with its reservation (R145), ages (R149), serials and owners without a double (R158), the urgent order
(R158), the ranges of the arbiter and the announce state (09), and the record of an open window, unless it became FREE (R151,
R165, R172). -/
abbrev PackLine.Sound (l : PackLine) : Prop :=
  l.inUse ≤ 32 ∧ (∀ q ∈ l.queue, q.age ≤ 256)
    ∧ (∀ p ∈ l.packs.list, p.Sound)
    ∧ ((l.packs.list.filter fun p => p.state != .free).map Pack.serial).Nodup
    ∧ (∀ m : Fin 16, (l.packs.count fun p =>
        (p.state == .present || p.state == .lost) && p.role == .owner && p.mix == some m) ≤ 1)
    ∧ l.urgentOrder.Nodup ∧ (∀ a ∈ l.urgentOrder, (l.packs.get a).state = .present)
    ∧ l.roundRobin ≤ 24 ∧ l.recovery ≤ 8 ∧ l.collisionRun ≤ 15
    ∧ ∀ w ∈ l.window.toList, w.freed = false →
        (l.packs.get w.address).state = (if w.confirm then .joining else .present)
          ∧ (w.confirm = true → (l.packs.get w.address).offerSent = true)

/-- Windows and a frame on the line exist only while the engine mixes (R156, R160). -/
abbrev State.LineSound (s : State) : Prop :=
  s.line.Sound ∧ (s.clock.mixing = false → s.line.window = none ∧ s.line.announceOpen = false ∧ s.line.frame = none)

/-! ## Click and meters -/

/-- The click's ranges and what its states mean (R185, R187, R188). -/
abbrev Click.Sound (c : Click) : Prop :=
  2400 ≤ c.period ∧ c.period ≤ 192000 ∧ 1 ≤ c.accent ∧ c.accent ≤ 16 ∧ c.count ≤ 64 ∧ c.countdown ≤ 192000
    ∧ c.beatIndex ≤ 15 ∧ (∀ b ∈ c.burst.toList, b.position ≤ 255)
    ∧ (∀ p ∈ c.pendingPeriod.toList, 2400 ≤ p ∧ p ≤ 192000)
    ∧ (c.state = .idle → c.burst = none ∧ c.countdown = 0 ∧ c.beatIndex = 0)
    ∧ (c.state = .lastBurst → c.burst ≠ none)
    ∧ (c.state = .beating → c.beatsRemaining ≠ some 0)
    ∧ (∀ n ∈ c.beatsRemaining.toList, n ≤ 64)

/-- The meter unit's ranges (11). -/
abbrev Meter.Sound (m : Meter) : Prop :=
  8 ≤ m.interval ∧ m.interval ≤ 1024 ∧ (∀ i ∈ m.pendingInterval.toList, 8 ≤ i ∧ i ≤ 1024) ∧ 1 ≤ m.countdown
    ∧ m.countdown ≤ m.interval ∧ m.sequence < 65536

/-! ## Counters -/

/-- The 32-bit counters that device-wide groups hold (R207). -/
def State.deviceCounters (s : State) : List Nat :=
  [s.link.linkErrors, s.link.overrun, s.link.noticesLost,
   s.clock.syncBoundaries, s.clock.holdoverBoundaries, s.clock.earlySyncs, s.clock.foreignSyncs, s.clock.idleSyncs,
   s.clock.relocks, s.clock.realigns, s.clock.holdoverEntries,
   s.stage.unmatched, s.stage.malformed, s.stage.syncRejected,
   s.line.queueAgedOut, s.line.queueDropped, s.line.trimsUnsent, s.line.removedUnsent,
   s.line.joins, s.line.joinFailures, s.line.refusedJoins, s.line.collisions, s.line.announceStorms, s.line.upstreamErrors,
   s.line.badRequests]

/-- Every counter of R207 is at or below its top (R209). -/
abbrev State.CountersSound (s : State) : Prop :=
  (∀ n ∈ s.deviceCounters, n ≤ 4294967295)
    ∧ (∀ r ∈ s.stage.streams.list, ∀ n ∈ streamCounterList r.counters, n ≤ 4294967295)
    ∧ (∀ p ∈ s.line.packs.list, ∀ n ∈ packCounterList p.counters, n ≤ 4294967295)
    ∧ ∀ k ∈ s.slots.list, k.misses ≤ 65535

/-! ## The whole part -/

/-- A sound state: every relation above. -/
structure State.Sound (s : State) : Prop where
  link : s.link.Sound
  receiver : s.link.rx.Sound
  clock : s.clock.Sound
  deferral : s.DeferralSound
  streams : s.StreamsSound
  ring : s.RingSound
  slots : s.SlotsSound
  mixes : s.MixesSound
  limiters : s.LimitersSound
  atRest : s.MixesAtRest
  cues : s.cues.Sound
  line : s.LineSound
  click : s.click.Sound
  meter : s.meter.Sound
  counters : s.CountersSound

end Sys2Proof.Machine
end

