-- ==== Sys2Proof/WellFormed.lean ====
section
/-! DEFINITION. When a command's operands are those of its row: the row's name fits the bytes it carries. -/

namespace Sys2Proof

/-- The fields of a request fit a body: with kind and tag they are 3..250 bytes (R1, R211). -/
def fieldsFit (fields : List Byte) : Bool := decide (1 ≤ fields.length) && decide (fields.length ≤ 248)

/-- The stage frame has the eight bytes of a header (R38). -/
def hasHeader (frame : List Byte) : Bool := decide (8 ≤ frame.length)

/-- The check of a command: fields of a length a body can have; an unknown kind that is unknown (R3); the target of an edit
(R4); the type of a stage frame (R38). -/
def wellFormed : Instr → Bool
  | .unknownKindRequest kind _ fields => !isRequestKind kind && fieldsFit fields
  | .mixSetLive _ fields => !targetsCue fields && fieldsFit fields
  | .addSendLive _ fields => !targetsCue fields && fieldsFit fields
  | .setSendLive _ fields => !targetsCue fields && fieldsFit fields
  | .removeSendLive _ fields => !targetsCue fields && fieldsFit fields
  | .mixSetCue _ fields => targetsCue fields && fieldsFit fields
  | .addSendCue _ fields => targetsCue fields && fieldsFit fields
  | .setSendCue _ fields => targetsCue fields && fieldsFit fields
  | .removeSendCue _ fields => targetsCue fields && fieldsFit fields
  | .syncFrame _ frame => hasHeader frame && frame.head? == some 2
  | .audioFrame _ frame => hasHeader frame && frame.head? == some 1
  | .malformedStageFrame _ frame => !(hasHeader frame && (frame.head? == some 1 || frame.head? == some 2))
  | i =>
    match tagAndFields i with
    | some (_, fields) => fieldsFit fields
    | none => true

end Sys2Proof
end

