-- ==== Sys2Proof/Certificates/Slice0/Obligations.lean ====
section
/-! DEFINITION. The statements about the model, each a proposition to be proved from it. `Admits` (Safety.lean) says that the
Link Controller's own tests of a request pass. -/

open Sys2Proof Sys2Proof.Machine

/-! ## The queue of commands -/

/-- The block takes its commands in the order they wait, and idles without one. The queue and the idling are the model's
choice (log 3). -/
def Obligations.StepTakesFront : Prop :=
  (∀ (c : Instr) (rest : List Instr) (s : State), step (s.withPending (c :: rest)) = exec c (s.withPending rest))
    ∧ ∀ s : State, s.pending = [] → step s = .next s

/-- Every command answers a next state, in every state, and the queue of waiting commands stands in it. That no command, POWER_ON
included, touches the queue is the model's own (log 3). -/
def Obligations.EveryCommandCompletes : Prop :=
  ∀ (c : Instr) (s : State), ∃ t, exec c s = .next t ∧ t.pending = s.pending

/-! ## Control link (01) -/

/-- The state after power-on is sound. -/
def Obligations.ResetIsSound : Prop := State.reset.Sound

/-- Power-on gives every block the values of the reset tables, whatever the state before. Four clauses are the model's own: the
waiting commands stand (log 3), the count of free choices stands (log 7), the page storage lists nothing (log 6), and the
receiver's length, sum and time are 0 (log 1). -/
def Obligations.PowerOnValues : Prop :=
  ∀ s : State, ∃ t : State, exec .powerOn s = .next t ∧ t.pending = s.pending ∧ t.draws = s.draws
    ∧ t.link.rx = { phase := .hunt, declared := 0, body := [], sum := 0, lastAt := 0 }
    ∧ t.link.replies = [] ∧ t.link.notices = [] ∧ t.link.deferred = []
    ∧ t.link.linkErrors = 0 ∧ t.link.overrun = 0 ∧ t.link.noticesLost = 0 ∧ t.link.tx = .idle ∧ t.link.hold = false
    ∧ t.link.sensLimit = .off ∧ t.link.sensSlot = .off ∧ t.link.sensRing = .off ∧ t.link.sensClock = .off
    ∧ t.link.packNotices = true
    ∧ t.clock.engine = .unformatted ∧ t.clock.format = none ∧ t.clock.lastBlock = none ∧ t.clock.lastBoundary = none
    ∧ t.clock.timer = none ∧ t.clock.stopPending = false ∧ t.clock.unlocked = false ∧ t.clock.spell = none
    ∧ (∀ n ∈ t.deviceCounters, n = 0)
    ∧ (∀ i, t.stage.streams.get i = Stream.unbound)
    ∧ t.ring = { pages := [], entries := [], head := 0, rejects := 0, condition := false }
    ∧ (∀ i, t.slots.get i = Slot.unbound) ∧ (∀ i, t.mixes.get i = Mix.default)
    ∧ (∀ i, t.limiters.get i = { gain := 65536, peak := 0, lowest := 65536, condition := false })
    ∧ (∀ i, t.cues.scenes.get i = none) ∧ (∀ b, t.cues.slots.get b = none)
    ∧ (∀ a, t.line.packs.get a = Pack.freeWith PackCounters.zero) ∧ t.line.urgentOrder = [] ∧ t.line.queue = []
    ∧ t.line.window = none ∧ t.line.announceOpen = false ∧ t.line.frame = none ∧ t.line.roundRobin = 0
    ∧ t.line.lastUrgent = false ∧ t.line.recovery = 0 ∧ t.line.collisionRun = 0
    ∧ t.click = { period := 24000, accent := 4, count := 0, state := .idle, countdown := 0, beatIndex := 0, burst := none,
                  pendingPeriod := none, beatsRemaining := none, countReload := false }
    ∧ t.meter.on = false ∧ t.meter.interval = 64 ∧ t.meter.pendingInterval = none ∧ t.meter.countdown = 64
    ∧ (∀ i, t.meter.seen.get i = false) ∧ t.meter.sequence = 0

/-- A received byte moves frame assembly through its four states, while no gap has run out. -/
def Obligations.LinkBytesAssembleFrames : Prop :=
  ∀ (s : State) (t : Time) (b : Byte), s.link.gapExpired t = false →
    let r := s.link.rx
    let hunting : Receiver := { phase := .hunt, declared := 0, body := [], sum := 0, lastAt := t }
    (r.phase = .hunt → b ≠ 0xC3 → exec (.linkByteReceived t b) s = .next (s.withLink { s.link with rx := hunting }))
      ∧ (r.phase = .hunt → b = 0xC3 →
          exec (.linkByteReceived t b) s = .next (s.withLink { s.link with rx := { hunting with phase := .length } }))
      ∧ (r.phase = .length → 3 ≤ b.toNat → b.toNat ≤ 250 →
          exec (.linkByteReceived t b) s = .next (s.withLink { s.link with
            rx := { phase := .body, declared := b.toNat, body := [], sum := b.toNat, lastAt := t } }))
      ∧ (r.phase = .length → b.toNat < 3 ∨ 250 < b.toNat →
          exec (.linkByteReceived t b) s
            = .next (s.withLink { s.link with rx := hunting, linkErrors := min (s.link.linkErrors + 1) 4294967295 }))
      ∧ (r.phase = .body →
          exec (.linkByteReceived t b) s = .next (s.withLink { s.link with
            rx := { phase := if r.body.length + 1 = r.declared then .check else .body, declared := r.declared,
                    body := r.body ++ [b], sum := r.sum + b.toNat, lastAt := t } }))
      ∧ (r.phase = .check → (r.sum + b.toNat) % 256 ≠ 0 →
          exec (.linkByteReceived t b) s
            = .next (s.withLink { s.link with rx := hunting, linkErrors := min (s.link.linkErrors + 1) 4294967295 }))
      ∧ (r.phase = .check → (r.sum + b.toNat) % 256 = 0 →
          exec (.linkByteReceived t b) s = (s.withLink { s.link with rx := hunting }).takeBody r.body)

/-- A gap of more than 2 ms in a frame discards the frame and counts it; the byte after the gap is taken in HUNT. 2 ms are
24000 time units (log 2); a gap that runs out in HUNT, where no frame is in assembly, does nothing (log 4); a late byte finds
the frame discarded though no expiry came before it (log 26); in HUNT the record of a frame is empty (log 1). -/
def Obligations.GapDiscardsFrame : Prop :=
  ∀ s : State,
    let counted : Nat := min (s.link.linkErrors + 1) 4294967295
    let hunting (t : Time) : Receiver := { phase := .hunt, declared := 0, body := [], sum := 0, lastAt := t }
    (s.link.rx.phase ≠ .hunt → exec .interByteGapExpiry s
        = .next (s.withLink { s.link with rx := hunting s.link.rx.lastAt, linkErrors := counted }))
      ∧ (s.link.rx.phase = .hunt → exec .interByteGapExpiry s = .next s)
      ∧ ∀ (t : Time) (b : Byte), s.link.rx.phase ≠ .hunt → s.link.rx.lastAt + 24000 < t →
          exec (.linkByteReceived t b) s = .next (s.withLink { s.link with
            rx := if b = 0xC3 then { hunting t with phase := .length } else hunting t, linkErrors := counted })

/-- Replies and notices are queued at the back, the transmitter sends the oldest reply before any notice, and the hold line
follows the entries in use. A TRANSMIT_END without a message in transmission does nothing (log 4). -/
def Obligations.QueuesAndTransmitter : Prop :=
  ∀ s : State, s.link.Sound →
    (∀ (code : ReplyCode) (kind tag : Byte) (fields : List Byte),
        s.reply code kind tag fields = s.withLink { s.link with
          replies := s.link.replies ++ [{ code := code, tag := tag, kind := kind, fields := fields }]
          tx := if s.link.tx = .idle then .reply else s.link.tx
          hold := decide (12 ≤ s.link.replies.length + 1 + s.link.deferred.length) })
      ∧ (∀ n : Notice, s.link.notices.length < 64 →
          s.raise n = s.withLink { s.link with
            notices := s.link.notices ++ [n], tx := if s.link.tx = .idle then .notice else s.link.tx })
      ∧ (∀ n : Notice, s.link.notices.length = 64 →
          s.raise n = s.withLink { s.link with noticesLost := min (s.link.noticesLost + 1) 4294967295 })
      ∧ (∀ (r : Reply) (rest : List Reply), s.link.tx = .reply → s.link.replies = r :: rest →
          exec .transmitEnd s = .next (s.withLink { s.link with
            replies := rest
            tx := if rest ≠ [] then .reply else if s.link.notices ≠ [] then .notice else .idle
            hold := decide (12 ≤ rest.length + s.link.deferred.length) }))
      ∧ (∀ (n : Notice) (rest : List Notice), s.link.tx = .notice → s.link.notices = n :: rest →
          exec .transmitEnd s = .next (s.withLink { s.link with
            notices := rest
            tx := if s.link.replies ≠ [] then .reply else if rest ≠ [] then .notice else .idle }))
      ∧ (s.link.tx = .idle → exec .transmitEnd s = .next s)

/-- The Link Controller's tests of a request, in their order, for every request row. The replies carry the tag as received. -/
def Obligations.RequestTestsInOrder : Prop :=
  ∀ (i : Instr) (s : State) (kind tag : Byte) (fields : List Byte),
    wellFormed i = true → kindOf i = some kind → tagAndFields i = some (tag, fields) →
    (s.link.free = 0 →
        exec i s = .next (s.withLink { s.link with overrun := min (s.link.overrun + 1) 4294967295 }))
      ∧ (1 ≤ s.link.free → admittedLengths kind = [] → exec i s = .next (s.replyFail kind tag .unknownKind))
      ∧ (1 ≤ s.link.free → admittedLengths kind ≠ [] → tag = 0 → exec i s = .next (s.replyFail kind tag .badValue))
      ∧ (1 ≤ s.link.free → admittedLengths kind ≠ [] → tag ≠ 0 → fields.length + 2 ∉ admittedLengths kind →
          exec i s = .next (s.replyFail kind tag .badLength))
      ∧ (1 ≤ s.link.free → tag ≠ 0 → fields.length + 2 ∈ admittedLengths kind → s.link.holdsTag tag = true →
          exec i s = .next (s.replyFail kind tag .tagInUse))
      ∧ (s.Admits tag → fields.length = 1 → kind ∈ zeroFieldKinds → fields ≠ [0] →
          exec i s = .next (s.replyFail kind tag .badValue))

/-- IDENT. -/
def Obligations.IdentReports : Prop :=
  ∀ (s : State) (tag : Byte), s.Admits tag →
    exec (.ident tag [0]) s = .next (s.reply .data 0x01 tag [0x46, 0xDA, 0x06, 0x70, 1, 16, 48, 8, 0, 32, 24])

/-- RESET completes every deferred entry as ABORTED, resets every block, removes the notices that are not in transmission,
and is answered last. The frame leaves the line (log 21), and an open window is dropped without the accounting of a close
(log 15). -/
def Obligations.ResetRequest : Prop :=
  ∀ (s : State) (tag : Byte), s.Admits tag → ∃ t : State,
    exec (.reset tag [0]) s = .next (t.reply .done 0x03 tag [])
      ∧ t.link.replies = s.link.replies ++ s.link.deferred.map (fun d =>
          { code := .complete, tag := d.tag, kind := jobKind d.job, fields := [2, 0] })
      ∧ t.link.deferred = [] ∧ t.link.notices = (if s.link.tx = .notice then s.link.notices.take 1 else [])
      ∧ t.link.tx = (if s.link.tx = .idle ∧ s.link.deferred ≠ [] then .reply else s.link.tx)
      ∧ t.link.hold = (if s.link.deferred = [] then s.link.hold
          else decide (12 ≤ s.link.replies.length + s.link.deferred.length))
      ∧ t.link.rx = s.link.rx ∧ t.link.linkErrors = s.link.linkErrors ∧ t.link.overrun = s.link.overrun
      ∧ t.link.noticesLost = s.link.noticesLost
      ∧ t.link.sensLimit = .off ∧ t.link.sensSlot = .off ∧ t.link.sensRing = .off ∧ t.link.sensClock = .off
      ∧ t.link.packNotices = true
      ∧ t.clock = { s.clock with
          engine := if s.clock.format.isSome then .stopped else .unformatted, timer := none, stopPending := false,
          unlocked := false, spell := none }
      ∧ t.stage = { s.stage with streams := Table.fill Stream.unbound }
      ∧ t.ring = { s.ring with entries := [], head := 0, rejects := 0, condition := false }
      ∧ t.slots = Table.fill Slot.unbound ∧ t.mixes = Table.fill Mix.default ∧ t.limiters = Table.fill Limiter.reset
      ∧ t.cues = { s.cues with slots := Table.fill none }
      ∧ (∀ a, t.line.packs.get a = if (s.line.packs.get a).state = .joining then
            { s.line.packs.get a with offerSent := true, ticks := 0 } else s.line.packs.get a)
      ∧ t.line = { s.line with
          packs := t.line.packs, queue := [], window := none, announceOpen := false, frame := none, lastUrgent := false,
          recovery := 0, collisionRun := 0 }
      ∧ t.click = Click.reset ∧ t.meter = Meter.reset ∧ t.draws = s.draws ∧ t.pending = s.pending

/-- NOTICE_SET replaces the setting of a class, and refuses a setting or a class that has none. What a boundary that mixes n then
raises, and in which order, `d` being the state after its windows and deferred entries: the notices of every class as its setting
has them, and the METER report; within a class ENTER and LEAVE come before HELD, each in ascending subject; the classes may
interleave in any order (log 7), but the report stands before every HELD (log 7), its two parts together. A LIMIT notice of an OFF
mix carries peak 0 and the ceiling of its record (log 24). -/
def Obligations.NoticeSettingsAndEvents : Prop :=
  (∀ (s : State) (tag cls setting : Byte), s.Admits tag →
      (∀ v : Sensitivity, sensitivity? setting = some v →
          (cls = 1 → exec (.noticeSet tag [cls, setting]) s
              = .next ((s.withLink { s.link with sensLimit := v }).reply .done 0x04 tag []))
            ∧ (cls = 2 → exec (.noticeSet tag [cls, setting]) s
              = .next ((s.withLink { s.link with sensSlot := v }).reply .done 0x04 tag []))
            ∧ (cls = 3 → exec (.noticeSet tag [cls, setting]) s
              = .next ((s.withLink { s.link with sensRing := v }).reply .done 0x04 tag []))
            ∧ (cls = 4 → exec (.noticeSet tag [cls, setting]) s
              = .next ((s.withLink { s.link with sensClock := v }).reply .done 0x04 tag [])))
        ∧ (∀ on : Bool, flag? setting = some on → cls = 5 → exec (.noticeSet tag [cls, setting]) s
              = .next ((s.withLink { s.link with packNotices := on }).reply .done 0x04 tag []))
        ∧ ((cls.toNat = 0 ∨ 6 ≤ cls.toNat) ∨ (cls.toNat ≤ 4 ∧ 5 ≤ setting.toNat) ∨ (cls = 5 ∧ 2 ≤ setting.toNat) →
            exec (.noticeSet tag [cls, setting]) s = .next (s.replyFail 0x04 tag .badValue)))
    ∧ (∀ (s : State) (c : Clock) (n : BlockNo) (relocked : Bool),
      let ring := if relocked then s.ring.consume fun e => !inWindow (n - 1) e.block else s.ring
      let d := ((s.closeWindows.withClock c).withRing ring).completeDeferred n
      let u := s.mixingBoundary c n relocked
      let computed := computeMixes (d.assemble n) s.click.blockSamples
      let ends := decide (s.meter.countdown ≤ 1)
      let change (sens : Sensitivity) (before after : Bool) : Option NoticeEvent :=
        if before = false ∧ after = true ∧ (sens = .enter ∨ sens = .both ∨ sens = .enterHeld) then some .enter
        else if before = true ∧ after = false ∧ (sens = .leave ∨ sens = .both) then some .leave
        else none
      let raisedBy (sens : Sensitivity) (subjects : List (Bool × Bool × (NoticeEvent → Notice))) : List Notice :=
        (subjects.filterMap fun (before, after, make) => (change sens before after).map make)
          ++ if ends then subjects.filterMap fun (before, after, make) =>
              if sens = .enterHeld ∧ before = true ∧ after = true then some (make .held) else none
            else []
      let notice (subject : Option Nat) (info : NoticeInfo) (event : NoticeEvent) : Notice :=
        { event := event, subject := subject, block := c.lastBlock, info := info }
      let clocks := raisedBy s.link.sensClock [(s.clock.unlocked, c.unlocked, fun e =>
        notice none (.clock (if e = .leave then s.clock.spell else c.spell)) e)]
      let rings := raisedBy s.link.sensRing [(s.ring.condition, u.ring.condition, notice none
        (.ring s.ring.rejects (u.ring.entries.map RingEntry.pages).sum u.ring.entries.length
          (u.ring.entries.filter fun e => !e.consumed).length
          (match u.ring.entries with | [] => .empty | e :: _ => if e.consumed then .consumed else .waiting)))]
      let slots := raisedBy s.link.sensSlot ((List.finRange 48).map fun i =>
        let k := u.slots.get i
        ((s.slots.get i).condition, k.condition, notice (some i.val) (.slot k.status k.stream.val k.channel k.misses)))
      let limits := raisedBy s.link.sensLimit ((List.finRange 16).map fun i =>
        let r := computed.get i
        ((s.limiters.get i).condition, r.limiter.condition, notice (some i.val)
          (.limit r.limiter.gain r.peak r.mix.ceiling (8388607 * gainOf r.mix.ceiling / 65536))))
      let report : List Notice := if ends && s.meter.on then
          [notice none (.meterMixes s.meter.sequence s.meter.interval
             (((List.finRange 16).filter fun i => s.meter.seen.get i || (computed.get i).block.isSome).map fun i =>
               (i, (computed.get i).limiter.peak, (computed.get i).limiter.lowest))) .report,
           notice none (.meterSlots s.meter.sequence s.meter.interval
             (((List.finRange 48).filter fun i => (s.slots.get i).bound).map fun i =>
               (i, (assembleSlot ring n (s.slots.get i)).peak))) .report]
        else []
      ∃ raised : List Notice, u.link = raised.foldl Link.pushNotice d.link
        ∧ raised.Perm (clocks ++ rings ++ slots ++ limits ++ report)
        ∧ clocks.Sublist raised ∧ rings.Sublist raised ∧ slots.Sublist raised ∧ limits.Sublist raised
        ∧ ∃ before after : List Notice, raised = before ++ report ++ after
            ∧ (report ≠ [] → ∀ x ∈ before, x.event ≠ .held))

/-! ## Engine states and the block clock (02) -/

/-- FORMAT, START and STOP: their tests in order and their effect by the engine state, with the deferral tests of a STOP in a
mixing engine. -/
def Obligations.FormatStartStop : Prop :=
  (∀ (s : State) (tag r1 r2 r3 r4 lag i1 i2 i3 : Byte), s.Admits tag →
      let id : StreamId := BitVec.ofNat 24 (nat24 i1 i2 i3)
      let hertz := nat32 r1 r2 r3 r4
      let fit := (hertz = 48000 ∨ hertz = 96000) ∧ 1 ≤ lag.toNat ∧ lag.toNat ≤ 4 ∧ id ≠ 0xFFFFFF
        ∧ ∀ i, (s.stage.streams.get i).bound = true → (s.stage.streams.get i).id ≠ id
      let idle := s.clock.engine = .unformatted ∨ s.clock.engine = .stopped
      let command : Instr := .format tag [r1, r2, r3, r4, lag, i1, i2, i3]
      (¬ fit → exec command s = .next (s.replyFail 0x10 tag .badValue))
        ∧ (fit → ¬ idle → exec command s = .next (s.replyFail 0x10 tag .wrongState))
        ∧ (fit → idle → (∃ b, s.cues.slots.get b ≠ none) → exec command s = .next (s.replyFail 0x10 tag .cueOpen))
        ∧ (fit → idle → (∀ b, s.cues.slots.get b = none) →
            exec command s = .next ((s.withClock { s.clock with
              format := some { rate := if hertz = 48000 then .r48000 else .r96000, lag := lag.toNat, syncId := id }
            }).enterStopped.reply .done 0x10 tag [])))
    ∧ (∀ (s : State) (tag : Byte), s.Admits tag →
      (s.clock.engine = .unformatted → exec (.start tag [0]) s = .next (s.replyFail 0x11 tag .wrongState))
        ∧ (s.clock.engine = .stopped → exec (.start tag [0]) s
            = .next ((s.withClock { s.clock with engine := .armed }).reply .done 0x11 tag []))
        ∧ (s.clock.engine = .armed ∨ s.clock.engine = .running ∨ s.clock.engine = .holdover →
            exec (.start tag [0]) s = .next (s.reply .done 0x11 tag [])))
    ∧ (∀ (s : State) (tag : Byte), s.Admits tag →
      let mixing := s.clock.engine = .running ∨ s.clock.engine = .holdover
      let stopHeld := ∃ d ∈ s.link.deferred, d.job = .stop
      (s.clock.engine = .unformatted → exec (.stop tag [0]) s = .next (s.replyFail 0x12 tag .wrongState))
        ∧ (s.clock.engine = .stopped → exec (.stop tag [0]) s = .next (s.reply .done 0x12 tag []))
        ∧ (s.clock.engine = .armed → exec (.stop tag [0]) s = .next (s.enterStopped.reply .done 0x12 tag []))
        ∧ (mixing → stopHeld → exec (.stop tag [0]) s = .next (s.replyFail 0x12 tag .stopping))
        ∧ (mixing → ¬ stopHeld → 8 ≤ s.link.deferred.length ∨ s.link.free < 2 →
            exec (.stop tag [0]) s = .next (s.reply .retry 0x12 tag [1]))
        ∧ (mixing → ¬ stopHeld → s.link.deferred.length < 8 → 2 ≤ s.link.free →
            exec (.stop tag [0]) s = .next
              (((s.withLink { s.link with deferred := s.link.deferred ++ [{ tag := tag, job := .stop }] }).withClock
                { s.clock with stopPending := true }).reply .defer 0x12 tag [])))

/-- What entry into STOPPED does to each block. -/
def Obligations.EntryIntoStopped : Prop :=
  ∀ s : State, let t := s.enterStopped
    t.clock = { s.clock with engine := .stopped, timer := none, stopPending := false, unlocked := false, spell := none }
      ∧ t.ring = { s.ring with entries := [], head := 0, rejects := 0, condition := false }
      ∧ (∀ i, t.slots.get i
          = { s.slots.get i with status := .none, history := silence, assembled := silence, condition := false })
      ∧ (∀ i, let m := s.mixes.get i
          t.mixes.get i = { m with
            state := if m.state = .fading then .off else m.state
            masterCurrent := 0
            masterTarget := if m.state = .fading then 0 else m.masterTarget
            sends := (m.sends.filter fun d => !d.removing).map fun d => { d with currentLeft := 0, currentRight := 0 } })
      ∧ (∀ i, t.limiters.get i = { s.limiters.get i with gain := 65536, condition := false })
      ∧ t.line = { s.line with frame := none }
      ∧ t.click = { s.click with state := .idle, countdown := 0, beatIndex := 0, burst := none, pendingPeriod := none,
                                 beatsRemaining := none, countReload := false }
      ∧ t.link = s.link ∧ t.stage = s.stage ∧ t.cues = s.cues ∧ t.meter = s.meter

/-- A sync frame that the engine state does not admit is counted and discarded. -/
def Obligations.CountedSyncFrames : Prop :=
  ∀ (s : State) (t : Time) (f : List Byte), f.length = 8 → byteAt f 0 = 2 → checkHolds f = true →
    (s.clock.engine = .unformatted ∨ s.clock.engine = .stopped →
        exec (.syncFrame t f) s
          = .next (s.withClock { s.clock with idleSyncs := min (s.clock.idleSyncs + 1) 4294967295 }))
      ∧ ∀ fmt, s.clock.format = some fmt → frameId f ≠ fmt.syncId →
          s.clock.engine = .armed ∨ s.clock.engine = .running ∨ s.clock.engine = .holdover →
          exec (.syncFrame t f) s
            = .next (s.withClock { s.clock with foreignSyncs := min (s.clock.foreignSyncs + 1) 4294967295 })

/-- An early sync in RUNNING is discarded and counted; at exactly half a block period a sync is no longer early, and in
HOLDOVER an early one realigns. A block period is 4000 time units at 48000 Hz and 2000 at 96000 Hz (log 2). -/
def Obligations.EarlySync : Prop :=
  ∀ (s : State) (t b : Time) (f : List Byte) (fmt : Format), f.length = 8 → byteAt f 0 = 2 → checkHolds f = true →
    s.clock.format = some fmt → frameId f = fmt.syncId → s.clock.lastBoundary = some b →
    let half := match fmt.rate with | .r48000 => 2000 | .r96000 => 1000
    (s.clock.engine = .running → t < b + half →
        exec (.syncFrame t f) s
          = .next (s.withClock { s.clock with earlySyncs := min (s.clock.earlySyncs + 1) 4294967295 }))
      ∧ (s.clock.engine = .running → t = b + half →
          exec (.syncFrame t f) s = .next (s.syncBoundary fmt t (frameBlock f)))
      ∧ (s.clock.engine = .holdover → t < b + half →
          exec (.syncFrame t f) s = .next (s.realign fmt (frameBlock f)))

/-- A sync frame taken as a boundary: the first boundary, a normal sync, a relock, in RUNNING and in HOLDOVER alike. The clock
after the boundary is given whole; what the boundary does in the other blocks is in BoundaryWork. -/
def Obligations.SyncBoundaries : Prop :=
  ∀ (s : State) (t b : Time) (m : BlockNo) (f : List Byte) (fmt : Format), f.length = 8 → byteAt f 0 = 2 →
    checkHolds f = true → s.clock.format = some fmt → frameId f = fmt.syncId →
    let lag := BitVec.ofNat 16 fmt.lag
    let n := frameBlock f - lag
    let period := match fmt.rate with | .r48000 => 4000 | .r96000 => 2000
    let normal : Clock := { s.clock with
      engine := .running, lastBlock := some n, lastBoundary := some t, timer := some (t + 2 * period), unlocked := false,
      spell := none, syncBoundaries := min (s.clock.syncBoundaries + 1) 4294967295 }
    let spell := s.clock.spell.getD { cause := .relock, holdovers := 0, jumps := 0, lastJump := none }
    let relocked : Clock := { normal with
      unlocked := true, relocks := min (s.clock.relocks + 1) 4294967295
      spell := some { spell with jumps := min (spell.jumps + 1) 65535,
                                 lastJump := some (signedDistance (m + lag + 1) (frameBlock f)) } }
    (s.clock.engine = .armed →
        exec (.syncFrame t f) s = .next (s.mixingBoundary normal n false) ∧ (s.mixingBoundary normal n false).clock = normal)
      ∧ (s.clock.engine = .running ∨ s.clock.engine = .holdover → s.clock.stopPending = false →
          s.clock.lastBlock = some m → s.clock.lastBoundary = some b → b + period / 2 ≤ t →
          (frameBlock f = m + lag + 1 →
              n = m + 1 ∧ exec (.syncFrame t f) s = .next (s.mixingBoundary normal n false)
                ∧ (s.mixingBoundary normal n false).clock = normal)
            ∧ (frameBlock f ≠ m + lag + 1 →
              exec (.syncFrame t f) s = .next (s.mixingBoundary relocked n true)
                ∧ (s.mixingBoundary relocked n true).clock = relocked))

/-- A realignment: no boundary, only clock and ring change. -/
def Obligations.Realignment : Prop :=
  ∀ (s : State) (t b : Time) (m : BlockNo) (f : List Byte) (fmt : Format), f.length = 8 → byteAt f 0 = 2 →
    checkHolds f = true → s.clock.format = some fmt → frameId f = fmt.syncId → s.clock.engine = .holdover →
    s.clock.lastBlock = some m → s.clock.lastBoundary = some b →
    let lag := BitVec.ofNat 16 fmt.lag
    let period := match fmt.rate with | .r48000 => 4000 | .r96000 => 2000
    let kept : Clock := { s.clock with
      engine := .running, timer := some (b + 2 * period), realigns := min (s.clock.realigns + 1) 4294967295 }
    t < b + period / 2 →
      (frameBlock f = m + lag → exec (.syncFrame t f) s = .next (s.withClock kept))
        ∧ (frameBlock f ≠ m + lag →
            exec (.syncFrame t f) s = .next ((s.withClock { kept with
              lastBlock := some (frameBlock f - lag)
              spell := s.clock.spell.map fun p =>
                { p with jumps := min (p.jumps + 1) 65535, lastJump := some (signedDistance (m + lag) (frameBlock f)) }
            }).withRing (s.ring.consume fun e => !inWindow (frameBlock f - lag) e.block)))

/-- The expiries of the sync watch and of the holdover timer are boundaries that mix the next block. -/
def Obligations.TimerExpiries : Prop :=
  ∀ (s : State) (t : Time) (m : BlockNo) (fmt : Format), s.clock.format = some fmt → s.clock.timer = some t →
    s.clock.lastBlock = some m → s.clock.stopPending = false →
    let period := match fmt.rate with | .r48000 => 4000 | .r96000 => 2000
    let spell := s.clock.spell.getD { cause := .holdover, holdovers := 0, jumps := 0, lastJump := none }
    let held : Clock := { s.clock with
      engine := .holdover, lastBlock := some (m + 1), lastBoundary := some t, timer := some (t + period), unlocked := true,
      spell := some { spell with holdovers := min (spell.holdovers + 1) 65535 }
      holdoverBoundaries := min (s.clock.holdoverBoundaries + 1) 4294967295 }
    let entered : Clock := { held with holdoverEntries := min (s.clock.holdoverEntries + 1) 4294967295 }
    (s.clock.engine = .running →
        exec .syncWatchExpiry s = .next (s.mixingBoundary entered (m + 1) false)
          ∧ (s.mixingBoundary entered (m + 1) false).clock = entered)
      ∧ (s.clock.engine = .holdover →
          exec .holdoverTimerExpiry s = .next (s.mixingBoundary held (m + 1) false)
            ∧ (s.mixingBoundary held (m + 1) false).clock = held)

/-- The stopping boundary, reached by a sync frame or by an expiry: no block is mixed, every deferred entry is completed in
order, and the engine is STOPPED. A window that is still open closes first, with nothing heard (log 5). -/
def Obligations.StoppingBoundary : Prop :=
  ∀ (s : State) (fmt : Format), s.clock.format = some fmt → s.clock.stopPending = true →
    let stopped (t : Time) (bySync : Bool) (u : State) : Prop :=
      u = s.stoppingBoundary t bySync ∧ u.clock.engine = .stopped ∧ u.clock.lastBlock = s.clock.lastBlock
        ∧ u.clock.timer = none ∧ u.clock.stopPending = false ∧ u.clock.unlocked = false ∧ u.clock.spell = none
        ∧ u.clock.syncBoundaries
            = (if bySync then min (s.clock.syncBoundaries + 1) 4294967295 else s.clock.syncBoundaries)
        ∧ u.clock.holdoverBoundaries = s.clock.holdoverBoundaries ∧ u.clock.holdoverEntries = s.clock.holdoverEntries
        ∧ u.clock.relocks = s.clock.relocks ∧ u.link.deferred = []
        ∧ (∃ completions : List Reply, u.link.replies = s.link.replies ++ completions
            ∧ completions.map Reply.tag = s.link.deferred.map Deferred.tag
            ∧ ∀ r ∈ completions, r.code = .complete)
        ∧ u.ring.entries = [] ∧ u.line.window = none ∧ u.line.announceOpen = false ∧ u.stage = s.stage
        ∧ u.cues.scenes = s.cues.scenes ∧ u.meter = s.meter
    (∀ t, s.clock.timer = some t → s.clock.engine = .running →
        ∃ u : State, exec .syncWatchExpiry s = .next u ∧ stopped t false u)
      ∧ (∀ t, s.clock.timer = some t → s.clock.engine = .holdover →
        ∃ u : State, exec .holdoverTimerExpiry s = .next u ∧ stopped t false u)
      ∧ (∀ (t b : Time) (f : List Byte), s.clock.engine = .running ∨ s.clock.engine = .holdover → f.length = 8 →
          byteAt f 0 = 2 → checkHolds f = true → frameId f = fmt.syncId → s.clock.lastBoundary = some b →
          b + halfPeriod fmt.rate ≤ t → ∃ u : State, exec (.syncFrame t f) s = .next u ∧ stopped t true u)

/-- What a boundary that mixes block n leaves in the blocks: ring, slots, click, mixes and limiters, the pack line with its frame,
the meter unit. Windows and deferred entries come first; `d` is the state after them. The order inside a boundary is deduced
(log 20); windows still open close as SILENT (log 5). What `sendFrame` does to the pack line is in ArbiterChoice, what the
computation does to a mix in MixSettles, and what is raised in NoticeSettingsAndEvents. -/
def Obligations.BoundaryWork : Prop :=
  ∀ (s : State) (c : Clock) (n : BlockNo) (relocked : Bool),
    let ring := if relocked then s.ring.consume fun e => !inWindow (n - 1) e.block else s.ring
    let d := ((s.closeWindows.withClock c).withRing ring).completeDeferred n
    let u := s.mixingBoundary c n relocked
    let computed := computeMixes (d.assemble n) s.click.blockSamples
    let ends := s.meter.countdown ≤ 1
    let next := s.meter.pendingInterval.getD s.meter.interval
    u.clock = c ∧ u.link.deferred = [] ∧ u.stage = s.stage ∧ u.cues = d.cues ∧ u.cues.scenes = s.cues.scenes
      ∧ u.ring = { ring.consume (fun e => notAfter n e.block) with condition := decide (0 < s.ring.rejects), rejects := 0 }
      ∧ (∀ i, let k := assembleSlot ring n (s.slots.get i)
          u.slots.get i = { k with peak := if ends then 0 else k.peak })
      ∧ u.click = (s.click.ticks 16).1
      ∧ (∀ i, u.mixes.get i = (computed.get i).mix)
      ∧ (∀ i, let l := (computed.get i).limiter
          u.limiters.get i = { l with peak := if ends then 0 else l.peak, lowest := if ends then 65536 else l.lowest })
      ∧ u.line = d.line.sendFrame n (computed.list.filterMap Computed.block)
      ∧ (ends → u.meter.interval = next ∧ u.meter.countdown = next ∧ u.meter.pendingInterval = none
          ∧ (∀ i, u.meter.seen.get i = false)
          ∧ u.meter.sequence = if s.meter.on then (s.meter.sequence + 1) % 65536 else s.meter.sequence)
      ∧ (¬ ends → u.meter.interval = s.meter.interval ∧ u.meter.countdown = s.meter.countdown - 1
          ∧ u.meter.pendingInterval = s.meter.pendingInterval
          ∧ (∀ i, u.meter.seen.get i = (s.meter.seen.get i || (computed.get i).block.isSome))
          ∧ u.meter.sequence = s.meter.sequence)
      ∧ u.meter.on = s.meter.on

/-! ## Stage input and the frame ring (03) -/

/-- Stage frames that are discarded: malformed ones, sync frames that fail their tests, and audio frames by the tests in their
order, with the counter of each. The ring's full-rejection count has no stated top, and the model counts it without one
(log 29). -/
def Obligations.RejectedFrames : Prop :=
  (∀ (s : State) (t : Time) (f : List Byte),
      (f.length < 8 ∨ (byteAt f 0 ≠ 1 ∧ byteAt f 0 ≠ 2) →
          exec (.malformedStageFrame t f) s
            = .next (s.withStage { s.stage with malformed := min (s.stage.malformed + 1) 4294967295 }))
        ∧ (8 ≤ f.length → byteAt f 0 = 2 → f.length ≠ 8 ∨ checkHolds f = false →
          exec (.syncFrame t f) s
            = .next (s.withStage { s.stage with syncRejected := min (s.stage.syncRejected + 1) 4294967295 })))
    ∧ (∀ (s : State) (t : Time) (f : List Byte), 8 ≤ f.length → byteAt f 0 = 1 →
      let counted (i : Fin 8) (g : StreamCounters → StreamCounters) : Stage :=
        { s.stage with streams := s.stage.streams.modify i fun r => { r with counters := g r.counters } }
      ((∀ i, (s.stage.streams.get i).bound = true → (s.stage.streams.get i).id ≠ frameId f) →
          exec (.audioFrame t f) s
            = .next (s.withStage { s.stage with unmatched := min (s.stage.unmatched + 1) 4294967295 }))
        ∧ ∀ i, s.stage.recordOf (frameId f) = some i →
          let r := s.stage.streams.get i
          let mixing := s.clock.engine = .running ∨ s.clock.engine = .holdover
          let fits := frameRate f ≠ none ∧ frameRate f = s.clock.format.map Format.rate ∧ frameChannels f = r.channels
            ∧ f.length = 8 + 48 * r.channels + 2
          let passes := checkHolds f = true ∨ r.acceptDamaged = true
          let d := distance s.clock.block (frameBlock f)
          let full := 384 < (s.ring.entries.map RingEntry.pages).sum + pagesFor r.channels ∨ 64 ≤ s.ring.entries.length
          (¬ mixing → exec (.audioFrame t f) s
              = .next (s.withStage (counted i fun c => { c with idleDiscarded := min (c.idleDiscarded + 1) 4294967295 })))
            ∧ (mixing → ¬ fits → exec (.audioFrame t f) s
              = .next (s.withStage (counted i fun c => { c with formatRejected := min (c.formatRejected + 1) 4294967295 })))
            ∧ (mixing → fits → ¬ passes → exec (.audioFrame t f) s
              = .next (s.withStage (counted i fun c => { c with damagedDropped := min (c.damagedDropped + 1) 4294967295 })))
            ∧ (mixing → fits → passes → d = 0 ∨ 32768 ≤ d → exec (.audioFrame t f) s
              = .next (s.withStage (counted i fun c => { c with late := min (c.late + 1) 4294967295 })))
            ∧ (mixing → fits → passes → 9 ≤ d → d ≤ 32767 → exec (.audioFrame t f) s
              = .next (s.withStage (counted i fun c => { c with ahead := min (c.ahead + 1) 4294967295 })))
            ∧ (mixing → fits → passes → 1 ≤ d → d ≤ 8 →
                (∃ e ∈ s.ring.entries, e.stream = i ∧ e.consumed = false ∧ e.block = frameBlock f) →
                exec (.audioFrame t f) s
                  = .next (s.withStage (counted i fun c => { c with duplicate := min (c.duplicate + 1) 4294967295 })))
            ∧ (mixing → fits → passes → 1 ≤ d → d ≤ 8 →
                (∀ e ∈ s.ring.entries, e.stream = i → e.consumed = false → e.block ≠ frameBlock f) → full →
                exec (.audioFrame t f) s
                  = .next ((s.withStage (counted i fun c => { c with fullRejected := min (c.fullRejected + 1) 4294967295 })).withRing
                      { s.ring with rejects := s.ring.rejects + 1 })))

/-- An audio frame that passes every test is stored, and its record counts it. -/
def Obligations.StoredAudio : Prop :=
  ∀ (s : State) (t : Time) (f : List Byte) (i : Fin 8), 8 ≤ f.length → byteAt f 0 = 1 →
    s.stage.recordOf (frameId f) = some i →
    let r := s.stage.streams.get i
    let d := distance s.clock.block (frameBlock f)
    let damaged := !checkHolds f
    let p := (8 + 48 * r.channels + 63) / 64
    s.clock.engine = .running ∨ s.clock.engine = .holdover →
    frameRate f ≠ none → frameRate f = s.clock.format.map Format.rate → frameChannels f = r.channels →
    f.length = 8 + 48 * r.channels + 2 → checkHolds f = true ∨ r.acceptDamaged = true → 1 ≤ d → d ≤ 8 →
    (∀ e ∈ s.ring.entries, e.stream = i → e.consumed = false → e.block ≠ frameBlock f) →
    (s.ring.entries.map RingEntry.pages).sum + p ≤ 384 → s.ring.entries.length < 64 →
    exec (.audioFrame t f) s = .next ((s.withStage { s.stage with
        streams := s.stage.streams.set i { r with
          lastBlock := some (frameBlock f)
          counters := { r.counters with
            stored := min (r.counters.stored + 1) 4294967295
            damagedKept := if damaged then min (r.counters.damagedKept + 1) 4294967295 else r.counters.damagedKept } }
      }).withRing { s.ring with
        pages := writeBytes s.ring.pages (s.ring.head * 64) (f.take (8 + 48 * r.channels))
        entries := s.ring.entries ++ [{ stream := i, block := frameBlock f, channels := r.channels, damaged := damaged,
                                        consumed := false, first := s.ring.head, pages := p }]
        head := (s.ring.head + p) % 384 })

/-- Storing a frame keeps the ring sound and the samples of every older entry, and the new entry reads back the samples of the
frame, across the end of the circle of pages too. -/
def Obligations.StoredAudioReadsBack : Prop :=
  ∀ (r : Ring) (stream : Fin 8) (block : BlockNo) (channels : Nat) (damaged : Bool) (f : List Byte),
    r.Sound → 1 ≤ channels → channels ≤ 8 → f.length = 8 + 48 * channels + 2 →
    r.pagesUsed + pagesFor channels ≤ 384 → r.entries.length < 64 →
    let r' := r.store stream block channels damaged f
    r'.Sound
      ∧ (∀ e ∈ r.entries, ∀ c, c < e.channels → r'.samples e c = r.samples e c)
      ∧ ∀ e, r'.entries.getLast? = some e → e.channels = channels ∧ e.block = block ∧ e.damaged = damaged
          ∧ ∀ c, c < channels → ∀ k : Fin 16, let o := 8 + 3 * (k.val * channels + c)
            (r'.samples e c).get k = sample24 (byteAt f o) (byteAt f (o + 1)) (byteAt f (o + 2))

/-- BIND_STREAM with a named index and with ANY (0xFF), UNBIND_STREAM, FLUSH_STREAM and SET_STREAM, with their tests in order.
That FLUSH_STREAM reports its number of entries in one byte is the model's reading (log 16). -/
def Obligations.StreamTableRequests : Prop :=
  (∀ (s : State) (tag index a b c channels accept : Byte), s.Admits tag →
      let id : StreamId := BitVec.ofNat 24 (nat24 a b c)
      let command : Instr := .bindStream tag [index, a, b, c, channels, accept]
      let values := id ≠ 0xFFFFFF ∧ 1 ≤ channels.toNat ∧ channels.toNat ≤ 8 ∧ accept.toNat ≤ 1
      let unused := (∀ j, (s.stage.streams.get j).bound = true → (s.stage.streams.get j).id ≠ id)
        ∧ s.clock.format.map Format.syncId ≠ some id
      let bound (i : Fin 8) : State := (s.withStage { s.stage with
        streams := s.stage.streams.set i
          { bound := true, id := id, channels := channels.toNat, acceptDamaged := decide (accept = 1), lastBlock := none,
            counters := StreamCounters.zero } }).reply .done 0x20 tag (be1 i.val)
      (8 ≤ index.toNat → index ≠ 0xFF → exec command s = .next (s.replyFail 0x20 tag .badIndex))
        ∧ (index.toNat < 8 ∨ index = 0xFF → ¬ values → exec command s = .next (s.replyFail 0x20 tag .badValue))
        ∧ (∀ i : Fin 8, index.toNat = i.val → values → (s.stage.streams.get i).bound = true →
            exec command s = .next (s.replyFail 0x20 tag .wrongState))
        ∧ (index = 0xFF → values → (∀ j, (s.stage.streams.get j).bound = true) →
            exec command s = .next (s.replyFail 0x20 tag .tableFull))
        ∧ ∀ i : Fin 8, (s.stage.streams.get i).bound = false →
            index.toNat = i.val ∨ (index = 0xFF ∧ ∀ j, j < i → (s.stage.streams.get j).bound = true) → values →
            (¬ unused → exec command s = .next (s.replyFail 0x20 tag .streamInUse))
              ∧ (unused → exec command s = .next (bound i)))
    ∧ (∀ (s : State) (tag index : Byte), s.Admits tag →
      (8 ≤ index.toNat → exec (.unbindStream tag [index]) s = .next (s.replyFail 0x21 tag .badIndex)
          ∧ exec (.flushStream tag [index]) s = .next (s.replyFail 0x22 tag .badIndex)
          ∧ ∀ v, exec (.setStream tag [index, v]) s = .next (s.replyFail 0x23 tag .badIndex))
        ∧ ∀ i : Fin 8, index.toNat = i.val →
          let r := s.stage.streams.get i
          let consumed := s.ring.consume fun e => e.stream == i
          (r.bound = false → exec (.unbindStream tag [index]) s = .next (s.replyFail 0x21 tag .notBound)
              ∧ exec (.flushStream tag [index]) s = .next (s.replyFail 0x22 tag .notBound)
              ∧ ∀ v, exec (.setStream tag [index, v]) s = .next (s.replyFail 0x23 tag .notBound))
            ∧ (r.bound = true → (∃ k ∈ s.slots.list, k.bound = true ∧ k.stream = i) →
                exec (.unbindStream tag [index]) s = .next (s.replyFail 0x21 tag .slotsAttached))
            ∧ (r.bound = true → (∀ k ∈ s.slots.list, k.bound = true → k.stream ≠ i) →
                exec (.unbindStream tag [index]) s = .next (((s.withRing consumed).withStage
                  { s.stage with streams := s.stage.streams.set i Stream.unbound }).reply .done 0x21 tag []))
            ∧ (r.bound = true → exec (.flushStream tag [index]) s = .next ((s.withRing consumed).reply .done 0x22 tag
                  (be1 (s.ring.entries.filter fun e => e.stream == i && !e.consumed).length)))
            ∧ (r.bound = true → ∀ v : Byte, 2 ≤ v.toNat →
                exec (.setStream tag [index, v]) s = .next (s.replyFail 0x23 tag .badValue))
            ∧ (r.bound = true → ∀ on : Bool,
                exec (.setStream tag [index, if on then 1 else 0]) s = .next ((s.withStage
                  { s.stage with streams := s.stage.streams.set i { r with acceptDamaged := on } }).reply .done 0x23 tag [])))

/-! ## Channel slots (04) -/

/-- BIND_SLOT, SET_SLOT and UNBIND_SLOT with their tests. Until the next boundary a slot keeps its SLOT condition. -/
def Obligations.SlotRequests : Prop :=
  ∀ (s : State) (tag slot stream channel polarity hold : Byte), s.Admits tag →
    let bind : Instr := .bindSlot tag [slot, stream, channel, polarity, hold]
    let set : Instr := .setSlot tag [slot, polarity, hold]
    let unbind : Instr := .unbindSlot tag [slot]
    (48 ≤ slot.toNat ∨ 8 ≤ stream.toNat ∨ 8 ≤ channel.toNat → exec bind s = .next (s.replyFail 0x28 tag .badIndex))
      ∧ (48 ≤ slot.toNat → exec set s = .next (s.replyFail 0x29 tag .badIndex)
          ∧ exec unbind s = .next (s.replyFail 0x2A tag .badIndex))
      ∧ ∀ (i : Fin 48) (g : Fin 8), slot.toNat = i.val → stream.toNat = g.val → channel.toNat < 8 →
        let k := s.slots.get i
        let r := s.stage.streams.get g
        let values := polarity.toNat ≤ 1 ∧ hold.toNat ≤ 1
        (¬ values → exec bind s = .next (s.replyFail 0x28 tag .badValue)
            ∧ exec set s = .next (s.replyFail 0x29 tag .badValue))
          ∧ (values → k.bound = true → exec bind s = .next (s.replyFail 0x28 tag .slotInUse))
          ∧ (values → k.bound = false → r.bound = false → exec bind s = .next (s.replyFail 0x28 tag .notBound))
          ∧ (values → k.bound = false → r.bound = true → r.channels ≤ channel.toNat →
              exec bind s = .next (s.replyFail 0x28 tag .channelRange))
          ∧ (values → k.bound = false → r.bound = true → channel.toNat < r.channels →
              exec bind s = .next ((s.withSlots (s.slots.set i
                { bound := true, stream := g, channel := channel.toNat, invert := decide (polarity = 1),
                  repeatOnce := decide (hold = 1), status := .none, misses := 0, history := silence, assembled := silence,
                  peak := 0, condition := k.condition })).reply .done 0x28 tag []))
          ∧ (values → k.bound = false → exec set s = .next (s.replyFail 0x29 tag .notBound))
          ∧ (values → k.bound = true → exec set s = .next ((s.withSlots (s.slots.set i
                { k with invert := decide (polarity = 1), repeatOnce := decide (hold = 1) })).reply .done 0x29 tag []))
          ∧ (k.bound = false → exec unbind s = .next (s.replyFail 0x2A tag .notBound))
          ∧ (k.bound = true → exec unbind s = .next ((s.withSlots (s.slots.set i
                { Slot.unbound with condition := k.condition })).reply .done 0x2A tag []))

/-- The assembly of a BOUND slot at a boundary that mixes n: samples, status, misses, history, polarity, peak and condition; and of
an UNBOUND slot, which is silent and has every field of an UNBOUND record after it. -/
def Obligations.SlotAssembly : Prop :=
  (∀ (r : Ring) (n : BlockNo) (k : Slot), k.bound = true →
    let k' := assembleSlot r n k
    let heard := r.present n k.stream
    let repeats := k.repeatOnce = true ∧ (k.status = .fresh ∨ k.status = .damaged)
    (∀ e, heard = some e → k'.history = r.samples e k.channel ∧ k'.status = (if e.damaged then .damaged else .fresh)
        ∧ k'.misses = k.misses ∧ k'.condition = false)
      ∧ (heard = none → repeats → k'.history = k.history ∧ k'.status = .repeated ∧ k'.misses = min (k.misses + 1) 65535
        ∧ k'.condition = true)
      ∧ (heard = none → ¬ repeats → k'.history = silence ∧ k'.status = .missing ∧ k'.misses = min (k.misses + 1) 65535
        ∧ k'.condition = true)
      ∧ (∀ j, k'.assembled.get j = if k.invert then
            (if k'.history.get j = -8388608 then 8388607 else -(k'.history.get j)) else k'.history.get j)
      ∧ k.peak ≤ k'.peak ∧ (∀ j, (k'.assembled.get j).natAbs ≤ k'.peak)
      ∧ (k'.peak = k.peak ∨ ∃ j, k'.peak = (k'.assembled.get j).natAbs)
      ∧ k'.bound = true ∧ k'.stream = k.stream ∧ k'.channel = k.channel ∧ k'.invert = k.invert
      ∧ k'.repeatOnce = k.repeatOnce)
    ∧ ∀ (r : Ring) (n : BlockNo) (k : Slot), k.bound = false → k.Sound →
      assembleSlot r n k
        = { bound := false, stream := 0, channel := 0, invert := false, repeatOnce := false, status := .none, misses := 0,
            history := silence, assembled := silence, peak := 0, condition := false }

/-! ## Mixes and the send pool (05) -/

/-- MIX_SET with target LIVE: its tests, and the whole record and limiter it leaves: the clamped values, the state, what the
change of kind makes of the currents (by the state before the request, log 11), the targets, the cut on OFF to ON, what OFF
clears. -/
def Obligations.MixSetLiveAndKinds : Prop :=
  ∀ (s : State) (tag bank mix state kind master ceiling rel1 rel2 click : Byte), s.Admits tag →
    let command : Instr := .mixSetLive tag [0, bank, mix, state, kind, master, ceiling, rel1, rel2, click]
    (16 ≤ mix.toNat → exec command s = .next (s.replyFail 0x30 tag .badIndex))
      ∧ ∀ i : Fin 16, mix.toNat = i.val →
        (2 ≤ state.toNat ∨ 2 ≤ kind.toNat → exec command s = .next (s.replyFail 0x30 tag .badValue))
          ∧ (state.toNat ≤ 1 → kind.toNat ≤ 1 →
            let m := s.mixes.get i
            let mixing := s.clock.engine = .running ∨ s.clock.engine = .holdover
            let next : MixState := if state = 1 then .on else match m.state with
              | .off => .off
              | .on => if mixing then .fading else .off
              | .fading => .fading
            let settled : Mix := { m with
              state := next, stereo := decide (kind = 1), master := min 127 master.toNat
              ceiling := max 64 (min 112 ceiling.toNat), release := max 1 (min 4096 (nat16 rel1 rel2))
              click := min 127 click.toNat }
            let turned (d : Send) : Send :=
              if m.stereo = false ∧ kind = 1 ∧ m.state ≠ .off then { d with currentRight := d.currentLeft }
              else if m.stereo = true ∧ kind = 0 then { d with currentRight := 0 }
              else d
            let aimed (d : Send) : Send :=
              { turned d with targetLeft := (sendTargets settled d).1, targetRight := (sendTargets settled d).2 }
            let m' : Mix := { settled with
              masterTarget := if next = .on then gainOf (effectiveMaster settled) else 0
              masterCurrent := if m.state = .on ∧ next = .off then 0 else m.masterCurrent
              sends :=
                if m.state = .off ∧ next = .on then
                  (m.sends.map aimed).map fun d => { d with currentLeft := d.targetLeft, currentRight := d.targetRight }
                else if m.state = .on ∧ next = .off then (m.sends.map aimed).filter fun d => !d.removing
                else m.sends.map aimed }
            let l' : Limiter := if m.state ≠ .off ∧ next = .off then { s.limiters.get i with gain := 65536 }
              else s.limiters.get i
            exec command s = .next (((s.withMixes (s.mixes.set i m')).withLimiters (s.limiters.set i l')).reply .done 0x30 tag
              (be1 (mixStateCode next) ++ [kind] ++ be1 m'.master ++ be1 m'.ceiling ++ be2 m'.release ++ be1 m'.click)))

/-- ADD_SEND, SET_SEND and REMOVE_SEND with target LIVE: the tests in their order, insertion, revival, change and removal. -/
def Obligations.SendRequestsLive : Prop :=
  (∀ (s : State) (tag bank mix slot level balance self mute : Byte), s.Admits tag →
      let command : Instr := .addSendLive tag [0, bank, mix, slot, level, balance, self, mute]
      let code := min 127 level.toNat
      let place := max (-16) (min 16 balance.toInt)
      (16 ≤ mix.toNat ∨ 48 ≤ slot.toNat → exec command s = .next (s.replyFail 0x31 tag .badIndex))
        ∧ ∀ (i : Fin 16) (k : Fin 48), mix.toNat = i.val → slot.toNat = k.val →
          let m := s.mixes.get i
          let used := (s.mixes.list.map fun m => m.sends.length).sum
          let values := self.toNat ≤ 1 ∧ mute.toNat ≤ 1
          let active := ∃ d ∈ m.sends, d.slot = k ∧ d.removing = false
          let removing := ∃ d ∈ m.sends, d.slot = k ∧ d.removing = true
          (¬ values → exec command s = .next (s.replyFail 0x31 tag .badValue))
            ∧ (values → active → exec command s = .next (s.replyFail 0x31 tag .sendExists))
            ∧ (values → ¬ active → removing → exec command s = .next ((s.withMixes (s.mixes.set i { m with
                  sends := m.sends.map fun d => if d.slot = k then
                    ({ d with level := code, balance := place, self := decide (self = 1), mute := decide (mute = 1),
                              removing := false } : Send).retarget m else d })).reply .done 0x31 tag
                  (be1 code ++ signed1 place ++ be1 1)))
            ∧ (values → ¬ active → ¬ removing → 24 ≤ m.sends.length →
                exec command s = .next (s.replyFail 0x31 tag .mixFull))
            ∧ (values → ¬ active → ¬ removing → m.sends.length < 24 → 256 ≤ used →
                exec command s = .next (s.replyFail 0x31 tag .poolFull))
            ∧ (values → ¬ active → ¬ removing → m.sends.length < 24 → used < 256 → ∃ sends : List Send,
                exec command s = .next ((s.withMixes (s.mixes.set i { m with sends := sends })).reply .done 0x31 tag
                  (be1 code ++ signed1 place ++ be1 0))
                  ∧ ∃ before after : List Send, m.sends = before ++ after ∧ sends = before ++
                      ({ slot := k, level := code, balance := place, self := decide (self = 1), mute := decide (mute = 1),
                         removing := false, currentLeft := 0, currentRight := 0, targetLeft := 0, targetRight := 0 } :
                        Send).retarget m :: after
                    ∧ (∀ d ∈ before, ¬ k < d.slot) ∧ ∀ d, after.head? = some d → k < d.slot))
    ∧ (∀ (s : State) (tag bank mix slot flags level balance self mute : Byte), s.Admits tag →
      let set : Instr := .setSendLive tag [0, bank, mix, slot, flags, level, balance, self, mute]
      let remove : Instr := .removeSendLive tag [0, bank, mix, slot]
      (16 ≤ mix.toNat ∨ 48 ≤ slot.toNat → exec set s = .next (s.replyFail 0x32 tag .badIndex)
          ∧ exec remove s = .next (s.replyFail 0x33 tag .badIndex))
        ∧ ∀ (i : Fin 16) (k : Fin 48), mix.toNat = i.val → slot.toNat = k.val →
          let m := s.mixes.get i
          let refusedValue := (flags.getLsbD 2 = true ∧ 2 ≤ self.toNat) ∨ (flags.getLsbD 3 = true ∧ 2 ≤ mute.toNat)
          let mixing := s.clock.engine = .running ∨ s.clock.engine = .holdover
          let changed (d : Send) : Send := { d with
            level := if flags.getLsbD 0 then min 127 level.toNat else d.level
            balance := if flags.getLsbD 1 then max (-16) (min 16 balance.toInt) else d.balance
            self := if flags.getLsbD 2 then decide (self = 1) else d.self
            mute := if flags.getLsbD 3 then decide (mute = 1) else d.mute }
          (refusedValue → exec set s = .next (s.replyFail 0x32 tag .badValue))
            ∧ (m.activeOn k = none → (¬ refusedValue → exec set s = .next (s.replyFail 0x32 tag .noSend))
                ∧ exec remove s = .next (s.replyFail 0x33 tag .noSend))
            ∧ ∀ d, m.activeOn k = some d →
              (¬ refusedValue → flags.toNat % 16 = 0 → exec set s = .next (s.reply .done 0x32 tag
                    (be1 d.level ++ signed1 d.balance ++ yesNo d.self ++ yesNo d.mute)))
                ∧ (¬ refusedValue → flags.toNat % 16 ≠ 0 →
                  exec set s = .next ((s.withMixes (s.mixes.set i { m with
                    sends := m.sends.map fun d => if d.slot = k then (changed d).retarget m else d })).reply .done 0x32 tag
                    (be1 (changed d).level ++ signed1 (changed d).balance ++ yesNo (changed d).self ++ yesNo (changed d).mute)))
                ∧ (mixing → m.state ≠ .off → exec remove s = .next ((s.withMixes (s.mixes.set i { m with
                    sends := m.sends.map fun d => if d.slot = k then
                      { d with removing := true, targetLeft := 0, targetRight := 0 } else d })).reply .done 0x33 tag [0]))
                ∧ (¬ (mixing ∧ m.state ≠ .off) → exec remove s = .next ((s.withMixes (s.mixes.set i { m with
                    sends := m.sends.filter fun d => d.slot != k })).reply .done 0x33 tag [1])))

/-- SET_TRIM: trims, dim, targets, the cut of the master; and to whom its TRIMS message goes. The reply's last byte
carries the saved trim (log 16) and is a free value while dim is OFF (log 8). -/
def Obligations.TrimsSetAndOffered : Prop :=
  (∀ (s : State) (tag mix volume self others dim : Byte), s.Admits tag →
      let command : Instr := .setTrim tag [mix, volume, self, others, dim]
      (16 ≤ mix.toNat → exec command s = .next (s.replyFail 0x34 tag .badIndex))
        ∧ ∀ i : Fin 16, mix.toNat = i.val →
          (2 ≤ dim.toNat → exec command s = .next (s.replyFail 0x34 tag .badValue))
            ∧ (dim.toNat ≤ 1 → ∃ (m' : Mix) (saved : Byte),
                let m := s.mixes.get i
                let on := dim = 1
                let v := max (-16) (min 16 volume.toInt)
                exec command s = .next (((s.withMixes (s.mixes.set i m')).withLine (s.line.offerTrims i
                      (.trims v m'.self m'.others (decide on)))).reply .done 0x34 tag
                      (signed1 m'.volume ++ signed1 m'.self ++ signed1 m'.others ++ [dim] ++ [saved]))
                  ∧ m'.self = max (-16) (min 16 self.toInt) ∧ m'.others = max (-16) (min 16 others.toInt)
                  ∧ m'.volume = (if m.dim.isSome ∧ on then m.volume else v)
                  ∧ m'.dim = (if on then some v else none) ∧ (on → [saved] = signed1 v)
                  ∧ m'.masterTarget = masterTargetOf m' ∧ (∀ d ∈ m'.sends, (d.targetLeft, d.targetRight) = sendTargets m' d)
                  ∧ m'.masterCurrent = (if m.dim = none ∧ on ∧ m.state = .on then m'.masterTarget else m.masterCurrent)
                  ∧ m'.state = m.state ∧ m'.stereo = m.stereo ∧ m'.master = m.master ∧ m'.ceiling = m.ceiling
                  ∧ m'.release = m.release ∧ m'.click = m.click
                  ∧ m'.sends.map (fun d => (d.slot, d.level, d.balance, d.self, d.mute, d.removing, d.currentLeft, d.currentRight))
                      = m.sends.map fun d => (d.slot, d.level, d.balance, d.self, d.mute, d.removing, d.currentLeft, d.currentRight)))
    ∧ (∀ (l : PackLine) (m : Fin 16) (msg : PackMessage),
      (l.ownerOf m = none → l.offerTrims m msg = l)
        ∧ ∀ a, l.ownerOf m = some a →
          ((l.packs.get a).state = .lost → l.offerTrims m msg = l)
            ∧ ((l.packs.get a).state = .present → l.free = 0 →
                l.offerTrims m msg = { l with trimsUnsent := min (l.trimsUnsent + 1) 4294967295 })
            ∧ ((l.packs.get a).state = .present → 1 ≤ l.free →
                l.offerTrims m msg = { l with queue := l.queue ++ [{ address := a, urgent := false, message := msg, age := 0 }] }))

/-- Gains of level codes, effective codes and targets. -/
def Obligations.GainsAndTargets : Prop :=
  gainOf 0 = 0 ∧ gainOf 1 = 4 ∧ gainOf 112 = 65536 ∧ gainOf 127 = 240388
    ∧ (∀ code, 1 ≤ code → code ≤ 127 → gainOf code
        = ([65536, 71468, 77935, 84990, 92682, 101070, 110218, 120194].getD (code % 8) 0) * 2 ^ (code / 8) / 16384)
    ∧ (∀ code, code ≤ 127 → gainOf code ≤ 240388)
    ∧ (∀ (m : Mix) (d : Send), let offset := if d.self then m.self else m.others
        (d.level = 0 ∨ d.mute = true → effectiveCode m d = 0)
          ∧ (d.level ≠ 0 → d.mute = false → (effectiveCode m d : Int) = min 127 (max 1 (d.level + offset))))
    ∧ (∀ (m : Mix) (d : Send), let g := gainOf (effectiveCode m d)
        (d.removing = true → sendTargets m d = (0, 0))
          ∧ (d.removing = false → m.stereo = false → sendTargets m d = (g, 0))
          ∧ (d.removing = false → m.stereo = true → TrimInRange d.balance →
              ((sendTargets m d).1 : Int) = g * min 16 (16 - d.balance) / 16
                ∧ ((sendTargets m d).2 : Int) = g * min 16 (16 + d.balance) / 16))
    ∧ ∀ m : Mix, (m.state ≠ .on → masterTargetOf m = 0) ∧ (m.state = .on → m.master = 0 → masterTargetOf m = 0)
        ∧ (m.state = .on → m.master ≠ 0 → ∃ c : Nat, masterTargetOf m = gainOf c
            ∧ (c : Int) = min 127 (max 1 (m.master + m.volume - if m.dim.isSome then 16 else 0)))

/-! ## Mix computation (06) -/

/-- A glide closes its distance by a quarter a boundary, never passes its target, and reaches it: within 42 boundaries from any
gain to any gain, and in 38 over the distance of unity. -/
def Obligations.GlideSettles : Prop :=
  (∀ c t : Nat, let e := ((t : Int) - c).natAbs
      ((t : Int) - glide c t).natAbs = (if e < 4 then 0 else e - e / 4)
        ∧ min c t ≤ glide c t ∧ glide c t ≤ max c t)
    ∧ (∀ c t : Nat, c ≤ 240388 → t ≤ 240388 → (fun x => glide x t)^[42] c = t)
    ∧ ∀ c t : Nat, ((t : Int) - c).natAbs = 65536 → (fun x => glide x t)^[38] c = t ∧ (fun x => glide x t)^[37] c ≠ t

/-- A computed mix stays inside its ceiling, its peak before the limiter inside the bound of R108, and its limiter gain in
range, whatever its slots, sends and click hold; the new gain is the release candidate or the largest that keeps the peak
inside, and the clamp of the output never changes a value. -/
def Obligations.LimiterKeepsCeiling : Prop :=
  (∀ (slots : Table Slot 48) (clicks : Table (Option Sample) 16) (i : Fin 16) (m : Mix) (l : Limiter),
      (∀ k ∈ slots.list, ∀ x ∈ k.assembled.list, SampleInRange x) →
      (∀ o ∈ clicks.list, ∀ x ∈ o.toList, x = 2097152 ∨ x = -2097152) →
      m.Sound → m.state ≠ .off → l.Sound →
      let r := computeMix slots clicks i m l
      let c := 8388607 * gainOf m.ceiling / 65536
      131071 ≤ c ∧ c ≤ 8388607 ∧ r.peak ≤ 2716429473 ∧ 3 ≤ r.limiter.gain ∧ r.limiter.gain ≤ 65536
        ∧ ∃ b, r.block = some b ∧ b.mix = i ∧ b.stereo = m.stereo
            ∧ (∀ x ∈ b.left.list, x.natAbs ≤ c ∧ x.natAbs ≤ r.limiter.peak)
            ∧ (∀ x ∈ b.right.list, x.natAbs ≤ c ∧ x.natAbs ≤ r.limiter.peak)
            ∧ l.peak ≤ r.limiter.peak ∧ r.limiter.lowest ≤ l.lowest)
    ∧ (∀ gain release ceiling p : Nat, let cand := min 65536 (gain + release)
      (ceiling * 65536 < p * cand → limiterGain gain release ceiling p = ceiling * 65536 / p)
        ∧ (p * cand ≤ ceiling * 65536 → limiterGain gain release ceiling p = cand)
        ∧ ∀ z : Int, z.natAbs ≤ p →
            outSample (limiterGain gain release ceiling p) ceiling z
                = (z * limiterGain gain release ceiling p).tdiv 65536
              ∧ ((z * limiterGain gain release ceiling p).tdiv 65536).natAbs ≤ ceiling)

/-- A computed mix whole: the glide of its currents, the sum of its sends, the master, the click, the limiter and the output, the
meter readings; and what becomes of it: a REMOVING send at 0 is freed, a FADING mix at master 0 becomes OFF with its limiter at
unity, and an OFF mix is not computed. -/
def Obligations.MixSettles : Prop :=
  ∀ (slots : Table Slot 48) (clicks : Table (Option Sample) 16) (i : Fin 16) (m : Mix) (l : Limiter),
    let r := computeMix slots clicks i m l
    let g : Mix := { m with
      masterCurrent := glide m.masterCurrent m.masterTarget
      sends := m.sends.map fun d => { d with
        currentLeft := glide d.currentLeft d.targetLeft
        currentRight := if m.stereo then glide d.currentRight d.targetRight else d.currentRight } }
    let sum (gain : Send → Nat) (k : Fin 16) : Int :=
      (g.sends.map fun d => (slots.get d.slot).assembled.get k * (gain d : Int)).sum
    let click (k : Fin 16) : Int := match clicks.get k with
      | some x => if m.click = 0 then 0 else (x * (gainOf m.click : Int) + 32768) / 65536
      | none => 0
    let z (gain : Send → Nat) (k : Fin 16) : Int :=
      ((sum gain k + 32768) / 65536 * (g.masterCurrent : Int) + 32768) / 65536 + click k
    let c := 8388607 * gainOf m.ceiling / 65536
    (m.state = .off → r = { mix := m, limiter := { l with condition := false }, block := none, peak := 0 })
      ∧ (m.state = .on ∨ (m.state = .fading ∧ g.masterCurrent ≠ 0) →
          r.mix = { g with sends := g.sends.filter fun d =>
            !(d.removing && d.currentLeft == 0 && d.currentRight == 0) })
      ∧ (m.state = .fading → g.masterCurrent = 0 →
          r.mix = { g with state := .off, sends := g.sends.filter fun d => !d.removing }
            ∧ r.limiter.gain = 65536 ∧ r.limiter.condition = false ∧ r.block ≠ none)
      ∧ (m.state ≠ .off → r.mix.state ≠ .off → (r.limiter.condition = true ↔ r.limiter.gain < 65536))
      ∧ (m.state ≠ .off → ∃ (p : Nat) (b : OutBlock),
          let gain := limiterGain l.gain m.release c p
          (∀ k, (z Send.currentLeft k).natAbs ≤ p ∧ (m.stereo = true → (z Send.currentRight k).natAbs ≤ p))
            ∧ (∃ k, p = (z Send.currentLeft k).natAbs ∨ (m.stereo = true ∧ p = (z Send.currentRight k).natAbs))
            ∧ r.block = some b ∧ b.mix = i ∧ b.stereo = m.stereo
            ∧ (∀ k, b.left.get k = outSample gain c (z Send.currentLeft k))
            ∧ (m.stereo = true → ∀ k, b.right.get k = outSample gain c (z Send.currentRight k))
            ∧ (m.stereo = false → b.right = silence)
            ∧ (r.mix.state ≠ .off → r.limiter.gain = gain ∧ r.peak = p) ∧ (r.mix.state = .off → r.peak = 0)
            ∧ r.limiter.lowest = min l.lowest gain
            ∧ l.peak ≤ r.limiter.peak
            ∧ (∀ k, (b.left.get k).natAbs ≤ r.limiter.peak ∧ (b.right.get k).natAbs ≤ r.limiter.peak)
            ∧ (r.limiter.peak = l.peak
                ∨ ∃ k, r.limiter.peak = (b.left.get k).natAbs ∨ r.limiter.peak = (b.right.get k).natAbs))

/-! ## Scenes and cue slots (07) -/

/-- OPEN_CUE and TAKE_LIVE with their tests. -/
def Obligations.OpenAndTake : Prop :=
  ∀ (s : State) (tag bank row m1 m2 : Byte), s.Admits tag →
    let opening : Instr := .openCue tag [bank, row]
    let take : Instr := .takeLive tag [bank, m1, m2]
    (4 ≤ bank.toNat ∨ 8 ≤ row.toNat → exec opening s = .next (s.replyFail 0x40 tag .badIndex))
      ∧ (4 ≤ bank.toNat → exec take s = .next (s.replyFail 0x41 tag .badIndex))
      ∧ ∀ (b : Fin 4), bank.toNat = b.val →
        (∀ r : Fin 8, row.toNat = r.val →
            (s.cues.slots.get b ≠ none → exec opening s = .next (s.replyFail 0x40 tag .cueOpen))
              ∧ (s.cues.slots.get b = none → ∃ n : Fin 32, n.val = 8 * b.val + r.val ∧
                  exec opening s = .next ((s.withCues { s.cues with slots := s.cues.slots.set b (some
                    { applying := false, row := r, edited := false, last := none
                      copy := match s.cues.scenes.get n with
                        | some scene => scene
                        | none => Table.fill { on := false, stereo := false, master := 112, ceiling := 112, release := 256,
                                               sends := [] } }) }).reply .done 0x40 tag [])))
          ∧ (s.cues.slots.get b = none → exec take s = .next (s.replyFail 0x41 tag .cueClosed))
          ∧ ∀ w, s.cues.slots.get b = some w →
            (w.applying = true → exec take s = .next (s.replyFail 0x41 tag .cueBusy))
              ∧ (w.applying = false → ∃ copy : Scene,
                  exec take s = .next ((s.withCues { s.cues with
                    slots := s.cues.slots.set b (some { w with copy := copy, edited := true }) }).reply .done 0x41 tag [])
                    ∧ ∀ i : Fin 16, let m := s.mixes.get i
                      copy.get i = if (nat16 m1 m2).testBit i.val then
                        { on := m.state == .on, stereo := m.stereo, master := m.master, ceiling := m.ceiling,
                          release := m.release
                          sends := (m.sends.filter fun d => !d.removing).map fun d =>
                            { slot := d.slot, level := d.level, balance := d.balance, self := d.self, mute := d.mute } }
                        else w.copy.get i)

/-- STORE_CUE and CLOSE_CUE with their tests. -/
def Obligations.StoreAndClose : Prop :=
  ∀ (s : State) (tag bank writeback : Byte), s.Admits tag →
    let store : Instr := .storeCue tag [bank]
    let closing : Instr := .closeCue tag [bank, writeback]
    (4 ≤ bank.toNat → exec store s = .next (s.replyFail 0x42 tag .badIndex)
        ∧ exec closing s = .next (s.replyFail 0x43 tag .badIndex))
      ∧ ∀ (b : Fin 4), bank.toNat = b.val →
        (2 ≤ writeback.toNat → exec closing s = .next (s.replyFail 0x43 tag .badValue))
          ∧ (s.cues.slots.get b = none → exec store s = .next (s.replyFail 0x42 tag .cueClosed)
              ∧ (writeback.toNat ≤ 1 → exec closing s = .next (s.replyFail 0x43 tag .cueClosed)))
          ∧ ∀ w, s.cues.slots.get b = some w →
            (w.applying = true → exec store s = .next (s.replyFail 0x42 tag .cueBusy)
                ∧ (writeback.toNat ≤ 1 → exec closing s = .next (s.replyFail 0x43 tag .cueBusy)))
              ∧ (w.applying = false → ∃ n : Fin 32, n.val = 8 * b.val + w.row.val
                ∧ exec store s = .next ((s.withCues
                    { scenes := s.cues.scenes.set n (some w.copy)
                      slots := s.cues.slots.set b (some { w with edited := false }) }).reply .done 0x42 tag [])
                ∧ (writeback = 1 → exec closing s = .next ((s.withCues
                    { scenes := s.cues.scenes.set n (some w.copy), slots := s.cues.slots.set b none }).reply .done 0x43 tag [1, 0]))
                ∧ (writeback = 0 → exec closing s = .next ((s.withCues
                    { s.cues with slots := s.cues.slots.set b none }).reply .done 0x43 tag [0, if w.edited then 1 else 0])))

/-- The edit requests of both targets: the refusals that come before either block (a target that is neither LIVE nor CUE, a bank
above 3), whatever else the request carries; and the edits of a working copy with their tests: MIX_SET, ADD_SEND, SET_SEND and
REMOVE_SEND with target CUE. A body with a target that is neither is a command of the LIVE row (log 9). -/
def Obligations.CueEdits : Prop :=
  (∀ (s : State) (tag target bank mix slot : Byte), s.Admits tag →
    ∀ state kind master ceiling rel1 rel2 click flags level balance self mute : Byte,
      (2 ≤ target.toNat →
        exec (.mixSetLive tag [target, bank, mix, state, kind, master, ceiling, rel1, rel2, click]) s
            = .next (s.replyFail 0x30 tag .badValue)
          ∧ exec (.addSendLive tag [target, bank, mix, slot, level, balance, self, mute]) s
            = .next (s.replyFail 0x31 tag .badValue)
          ∧ exec (.setSendLive tag [target, bank, mix, slot, flags, level, balance, self, mute]) s
            = .next (s.replyFail 0x32 tag .badValue)
          ∧ exec (.removeSendLive tag [target, bank, mix, slot]) s = .next (s.replyFail 0x33 tag .badValue))
        ∧ (4 ≤ bank.toNat ∨ 16 ≤ mix.toNat →
          exec (.mixSetCue tag [1, bank, mix, state, kind, master, ceiling, rel1, rel2, click]) s
            = .next (s.replyFail 0x30 tag .badIndex))
        ∧ (4 ≤ bank.toNat ∨ 16 ≤ mix.toNat ∨ 48 ≤ slot.toNat →
          exec (.addSendCue tag [1, bank, mix, slot, level, balance, self, mute]) s = .next (s.replyFail 0x31 tag .badIndex)
            ∧ exec (.setSendCue tag [1, bank, mix, slot, flags, level, balance, self, mute]) s
              = .next (s.replyFail 0x32 tag .badIndex)
            ∧ exec (.removeSendCue tag [1, bank, mix, slot]) s = .next (s.replyFail 0x33 tag .badIndex)))
    ∧ (∀ (s : State) (tag bank : Byte) (b : Fin 4) (mix slot : Byte) (i : Fin 16) (k : Fin 48), s.Admits tag →
      bank.toNat = b.val → mix.toNat = i.val → slot.toNat = k.val →
      ∀ state kind master ceiling rel1 rel2 click flags level balance self mute : Byte,
      let mixSet : Instr := .mixSetCue tag [1, bank, mix, state, kind, master, ceiling, rel1, rel2, click]
      let add : Instr := .addSendCue tag [1, bank, mix, slot, level, balance, self, mute]
      let set : Instr := .setSendCue tag [1, bank, mix, slot, flags, level, balance, self, mute]
      let remove : Instr := .removeSendCue tag [1, bank, mix, slot]
      let setRefused := (flags.getLsbD 2 = true ∧ 2 ≤ self.toNat) ∨ (flags.getLsbD 3 = true ∧ 2 ≤ mute.toNat)
      (2 ≤ state.toNat ∨ 2 ≤ kind.toNat → exec mixSet s = .next (s.replyFail 0x30 tag .badValue))
        ∧ (2 ≤ self.toNat ∨ 2 ≤ mute.toNat → exec add s = .next (s.replyFail 0x31 tag .badValue))
        ∧ (setRefused → exec set s = .next (s.replyFail 0x32 tag .badValue))
        ∧ (s.cues.slots.get b = none → exec remove s = .next (s.replyFail 0x33 tag .cueClosed)
            ∧ (state.toNat ≤ 1 → kind.toNat ≤ 1 → exec mixSet s = .next (s.replyFail 0x30 tag .cueClosed))
            ∧ (self.toNat ≤ 1 → mute.toNat ≤ 1 → exec add s = .next (s.replyFail 0x31 tag .cueClosed))
            ∧ (¬ setRefused → exec set s = .next (s.replyFail 0x32 tag .cueClosed)))
        ∧ ∀ w, s.cues.slots.get b = some w →
          let e := w.copy.get i
          let edited (e' : MixEntry) : State := s.withCues { s.cues with
            slots := s.cues.slots.set b (some { w with copy := w.copy.set i e', edited := true }) }
          let holds := ∃ d ∈ e.sends, d.slot = k
          let changed (d : SceneSend) : SceneSend := { d with
            level := if flags.getLsbD 0 then min 127 level.toNat else d.level
            balance := if flags.getLsbD 1 then max (-16) (min 16 balance.toInt) else d.balance
            self := if flags.getLsbD 2 then decide (self = 1) else d.self
            mute := if flags.getLsbD 3 then decide (mute = 1) else d.mute }
          (w.applying = true → exec remove s = .next (s.replyFail 0x33 tag .cueBusy)
              ∧ (state.toNat ≤ 1 → kind.toNat ≤ 1 → exec mixSet s = .next (s.replyFail 0x30 tag .cueBusy))
              ∧ (self.toNat ≤ 1 → mute.toNat ≤ 1 → exec add s = .next (s.replyFail 0x31 tag .cueBusy))
              ∧ (¬ setRefused → exec set s = .next (s.replyFail 0x32 tag .cueBusy)))
            ∧ (w.applying = false →
              (state.toNat ≤ 1 → kind.toNat ≤ 1 → ∃ e' : MixEntry,
                  exec mixSet s = .next ((edited e').reply .done 0x30 tag
                      ([state, kind] ++ be1 e'.master ++ be1 e'.ceiling ++ be2 e'.release ++ [0]))
                    ∧ e' = { on := decide (state = 1), stereo := decide (kind = 1), master := min 127 master.toNat
                             ceiling := max 64 (min 112 ceiling.toNat), release := max 1 (min 4096 (nat16 rel1 rel2))
                             sends := e.sends })
                ∧ (self.toNat ≤ 1 → mute.toNat ≤ 1 → holds → exec add s = .next (s.replyFail 0x31 tag .sendExists))
                ∧ (self.toNat ≤ 1 → mute.toNat ≤ 1 → ¬ holds → 24 ≤ e.sends.length →
                    exec add s = .next (s.replyFail 0x31 tag .mixFull))
                ∧ (self.toNat ≤ 1 → mute.toNat ≤ 1 → ¬ holds → e.sends.length < 24 →
                    ∃ before after : List SceneSend, ∃ d : SceneSend, e.sends = before ++ after
                      ∧ exec add s = .next ((edited { e with sends := before ++ d :: after }).reply .done 0x31 tag
                          (be1 d.level ++ signed1 d.balance ++ [0]))
                      ∧ d = { slot := k, level := min 127 level.toNat, balance := max (-16) (min 16 balance.toInt)
                              self := decide (self = 1), mute := decide (mute = 1) }
                      ∧ (∀ x ∈ before, ¬ k < x.slot) ∧ ∀ x, after.head? = some x → k < x.slot)
                ∧ (¬ setRefused → ¬ holds → exec set s = .next (s.replyFail 0x32 tag .noSend))
                ∧ (¬ setRefused → ∀ d, e.sends.find? (fun d => d.slot == k) = some d →
                    exec set s = .next ((edited { e with
                        sends := e.sends.map fun d => if d.slot = k then changed d else d }).reply .done 0x32 tag
                        (be1 (changed d).level ++ signed1 (changed d).balance ++ yesNo (changed d).self ++ yesNo (changed d).mute)))
                ∧ (¬ holds → exec remove s = .next (s.replyFail 0x33 tag .noSend))
                ∧ (holds → exec remove s = .next ((edited { e with
                    sends := e.sends.filter fun d => d.slot != k }).reply .done 0x33 tag [1]))))

/-- APPLY_CUE: its tests, the apply made at once as CUT outside the mixing states, the deferral while mixing. -/
def Obligations.ApplyRequest : Prop :=
  ∀ (s : State) (tag bank mode m1 m2 : Byte), s.Admits tag →
    let command : Instr := .applyCue tag [bank, mode, m1, m2]
    (4 ≤ bank.toNat → exec command s = .next (s.replyFail 0x44 tag .badIndex))
      ∧ ∀ b : Fin 4, bank.toNat = b.val →
        (2 ≤ mode.toNat → exec command s = .next (s.replyFail 0x44 tag .badValue))
          ∧ (mode.toNat ≤ 1 → s.cues.slots.get b = none → exec command s = .next (s.replyFail 0x44 tag .cueClosed))
          ∧ ∀ w, s.cues.slots.get b = some w → mode.toNat ≤ 1 →
            let mixing := s.clock.engine = .running ∨ s.clock.engine = .holdover
            let mask := BitVec.ofNat 16 (nat16 m1 m2)
            let made := s.applyCue b w .cut mask .immediate
            let stopHeld := ∃ d ∈ s.link.deferred, d.job = .stop
            (w.applying = true → exec command s = .next (s.replyFail 0x44 tag .cueBusy))
              ∧ (w.applying = false → ¬ mixing → made.2 = .done → exec command s = .next (made.1.reply .done 0x44 tag []))
              ∧ (w.applying = false → ¬ mixing → made.2 = .poolFull →
                  exec command s = .next (made.1.replyFail 0x44 tag .poolFull))
              ∧ (w.applying = false → mixing → stopHeld → exec command s = .next (s.replyFail 0x44 tag .stopping))
              ∧ (w.applying = false → mixing → ¬ stopHeld → 8 ≤ s.link.deferred.length ∨ s.link.free < 2 →
                  exec command s = .next (s.reply .retry 0x44 tag [1]))
              ∧ (w.applying = false → mixing → ¬ stopHeld → s.link.deferred.length < 8 → 2 ≤ s.link.free →
                  exec command s = .next (((s.withLink { s.link with deferred := s.link.deferred ++
                      [{ tag := tag, job := .apply b (if mode = 1 then .cut else .glide) mask }] }).withCues
                    { s.cues with slots := s.cues.slots.set b (some { w with applying := true }) }).reply .defer 0x44 tag []))

/-- An apply whole: how the outgoing records of a masked mix are sorted, when the apply is made and when refused, what a masked
mix is after it, send by send, what its limiter and the record of the apply are, and that nothing else changes. `kept` are the
outgoing records that stay as REMOVING. A refused apply writes its record too (log 12); a change of kind reads the state before
the apply (log 11); a GLIDE from OFF to ON cuts the outgoing records as well (log 17). -/
def Obligations.ApplyEffect : Prop :=
  ∀ (s : State) (b : Fin 4) (w : CueWork) (mode : ApplyMode) (mask : MixMask) (moment : ApplyAt),
    s.MixesSound → (∀ e ∈ w.copy.list, e.Sound) →
    let p := s.applyCue b w mode mask moment
    let t := p.1
    let masked (i : Fin 16) : Bool := mask.getLsbD i.val
    let next (i : Fin 16) : MixState :=
      if (w.copy.get i).on then .on else if (s.mixes.get i).state = .off ∨ mode = .cut then .off else .fading
    let outgoing (i : Fin 16) : List Send :=
      (s.mixes.get i).sends.filter fun d => (w.copy.get i).sends.all fun x => x.slot != d.slot
    let stays (i : Fin 16) : List Send := if mode = .glide ∧ next i ≠ .off then outgoing i else []
    let crowded (i : Fin 16) : Bool := decide (24 < (w.copy.get i).sends.length + (stays i).length)
    let kept (fallback : Bool) (i : Fin 16) : List Send := if fallback = true ∨ crowded i = true then [] else stays i
    let count (fallback : Bool) : Nat := ((List.finRange 16).map fun i =>
      if masked i then (w.copy.get i).sends.length + (kept fallback i).length else (s.mixes.get i).sends.length).sum
    let refused := 256 < count false ∧ (mode = .cut ∨ 256 < count true)
    let recorded (r : LastApply) : Cues := { s.cues with
      slots := s.cues.slots.set b (some { w with applying := false, last := some r }) }
    t.MixesSound
      ∧ (refused → p.2 = .poolFull ∧ t = s.withCues (recorded
          { outcome := .poolFull, mode := mode, mask := mask, moment := moment, cut := 0, fallback := false, inserted := 0,
            freed := 0 }))
      ∧ (¬ refused → let fallback := decide (256 < count false)
          p.2 = .done
            ∧ (∀ i : Fin 16, masked i = false → t.mixes.get i = s.mixes.get i ∧ t.limiters.get i = s.limiters.get i)
            ∧ (∀ i : Fin 16, masked i = true →
              let m := s.mixes.get i
              let m' := t.mixes.get i
              let e := w.copy.get i
              let scene : List Send := e.sends.map fun x => match m.sends.find? fun d => d.slot == x.slot with
                | some d => { d with level := x.level, balance := x.balance, self := x.self, mute := x.mute, removing := false }
                | none => { slot := x.slot, level := x.level, balance := x.balance, self := x.self, mute := x.mute,
                            removing := false, currentLeft := 0, currentRight := 0, targetLeft := 0, targetRight := 0 }
              let turned (d : Send) : Send :=
                if m.stereo = false ∧ e.stereo = true ∧ m.state ≠ .off then { d with currentRight := d.currentLeft }
                else if m.stereo = true ∧ e.stereo = false then { d with currentRight := 0 }
                else d
              let aimed (d : Send) : Send :=
                { turned d with targetLeft := (sendTargets m' d).1, targetRight := (sendTargets m' d).2 }
              let placed (d : Send) : Send :=
                if mode = .cut ∨ (m.state = .off ∧ next i = .on) then
                  { aimed d with currentLeft := (aimed d).targetLeft, currentRight := (aimed d).targetRight }
                else aimed d
              m' = { m with
                  state := next i, stereo := e.stereo, master := e.master, ceiling := e.ceiling, release := e.release
                  masterTarget := masterTargetOf m', sends := m'.sends
                  masterCurrent := if mode = .cut then masterTargetOf m' else m.masterCurrent }
                ∧ (m'.sends.filter fun d => !d.removing) = scene.map placed
                ∧ (m'.sends.filter fun d => d.removing)
                    = (kept fallback i).map (fun d => placed { d with removing := true })
                ∧ t.limiters.get i = if m.state ≠ .off ∧ next i = .off then { s.limiters.get i with gain := 65536 }
                    else s.limiters.get i)
            ∧ (∃ cut : MixMask, (∀ i : Fin 16, cut.getLsbD i.val = (masked i && crowded i))
              ∧ t.cues = recorded
                { outcome := .done, mode := mode, mask := mask, moment := moment, cut := cut, fallback := fallback
                  inserted := ((List.finRange 16).map fun i => if masked i then ((w.copy.get i).sends.filter fun x =>
                    (s.mixes.get i).sends.all fun d => d.slot != x.slot).length else 0).sum
                  freed := ((List.finRange 16).map fun i => if masked i then
                    (outgoing i).length - (kept fallback i).length else 0).sum }
              ∧ poolUsed t.mixes = count fallback)
            ∧ t = ((s.withMixes t.mixes).withLimiters t.limiters).withCues t.cues)

/-- At a boundary every entry of the deferred list is completed, the oldest first, and an apply acts on the mix table as the
entries before it left it: the first entry is carried out and leaves the list with its COMPLETE queued at the back, and the rest
is completed from the state that this leaves; a single apply is the apply itself. -/
def Obligations.DeferredApply : Prop :=
  (∀ (s : State) (n : BlockNo) (d : Deferred) (b : Fin 4) (mode : ApplyMode) (mask : MixMask) (w : CueWork),
      s.link.deferred = [d] → d.job = .apply b mode mask → s.cues.slots.get b = some w →
      let p := s.applyCue b w mode mask (.boundary n)
      let t := s.completeDeferred n
      t.mixes = p.1.mixes ∧ t.limiters = p.1.limiters ∧ t.cues = p.1.cues ∧ t.link.deferred = []
        ∧ t.link.replies = s.link.replies ++ [{ code := .complete, tag := d.tag, kind := 0x44
                                                fields := if p.2 = .done then [0, 0] else [1, 18] }]
        ∧ t.link.hold = decide (12 ≤ t.link.replies.length))
    ∧ ∀ (s : State) (n : BlockNo),
      let completed (t : State) (rest : List Deferred) (r : Reply) : State := t.withLink { t.link with
        deferred := rest, replies := t.link.replies ++ [r], tx := if t.link.tx = .idle then .reply else t.link.tx
        hold := decide (12 ≤ t.link.replies.length + 1 + rest.length) }
      (s.link.deferred = [] → s.completeDeferred n = s)
        ∧ ∀ (d : Deferred) (rest : List Deferred), s.link.deferred = d :: rest →
          (d.job = .stop → s.completeDeferred n
              = (completed s rest { code := .complete, tag := d.tag, kind := 0x12, fields := [0, 0] }).completeDeferred n)
            ∧ ∀ (b : Fin 4) (mode : ApplyMode) (mask : MixMask) (w : CueWork), d.job = .apply b mode mask →
              s.cues.slots.get b = some w →
              let p := s.applyCue b w mode mask (.boundary n)
              s.completeDeferred n = (completed p.1 rest { code := .complete, tag := d.tag, kind := 0x44
                                                           fields := if p.2 = .done then [0, 0] else [1, 18]
                                                         }).completeDeferred n

/-! ## Pack line (08, 09) -/

/-- ASSIGN_PACK, REMOVE_PACK and PACK_TEXT with their tests; and what becoming FREE does to a record, its messages and its
open window. That ASSIGN_PACK with mix NONE reports role LISTENER is the model's reading (log 16). -/
def Obligations.PackRequestsAndRemoval : Prop :=
  (∀ (s : State) (tag address : Byte), s.Admits tag →
      (address = 0 ∨ 25 ≤ address.toNat →
          (∀ mix role : Byte, exec (.assignPack tag [address, mix, role]) s = .next (s.replyFail 0x50 tag .badIndex))
            ∧ exec (.removePack tag [address]) s = .next (s.replyFail 0x51 tag .badIndex)
            ∧ ∀ (c : Byte) (text : List Byte), text.length ≤ 31 →
                exec (.packText tag (address :: c :: text)) s = .next (s.replyFail 0x52 tag .badIndex))
        ∧ ∀ a : Fin 24, address.toNat = a.val + 1 →
          let p := s.line.packs.get a
          let known := p.state = .present ∨ p.state = .lost
          let queued (l : PackLine) (urgent : Bool) (msg : PackMessage) : PackLine :=
            { l with queue := l.queue ++ [{ address := a, urgent := urgent, message := msg, age := 0 }] }
          let assigned (mix : Option (Fin 16)) (role : Role) : PackLine :=
            { s.line with packs := s.line.packs.set a { p with mix := mix, role := role } }
          (∀ mix role : Byte, 16 ≤ mix.toNat → mix ≠ 0xFF →
              exec (.assignPack tag [address, mix, role]) s = .next (s.replyFail 0x50 tag .badIndex))
            ∧ (∀ mix role : Byte, mix.toNat < 16 ∨ mix = 0xFF → 2 ≤ role.toNat →
              exec (.assignPack tag [address, mix, role]) s = .next (s.replyFail 0x50 tag .badValue))
            ∧ (∀ (mix role : Byte), mix.toNat < 16 ∨ mix = 0xFF → role.toNat ≤ 1 → ¬ known →
              exec (.assignPack tag [address, mix, role]) s = .next (s.replyFail 0x50 tag .packUnknown))
            ∧ (known → ∀ (m : Fin 16) (mix role : Byte), mix.toNat = m.val → role.toNat ≤ 1 →
              let taken := ∃ a' : Fin 24, a' ≠ a ∧ s.line.ownerOf m = some a'
              let r := if role = 0 then Role.owner else Role.listener
              (role = 0 → taken → s.line.Sound →
                  exec (.assignPack tag [address, mix, role]) s = .next (s.replyFail 0x50 tag .ownerTaken))
                ∧ (role = 1 ∨ ¬ taken → s.line.Sound → s.line.free = 0 →
                  exec (.assignPack tag [address, mix, role]) s = .next (s.reply .retry 0x50 tag [2]))
                ∧ (role = 1 ∨ ¬ taken → s.line.Sound → 1 ≤ s.line.free →
                  exec (.assignPack tag [address, mix, role]) s = .next
                    ((s.withLine (queued (assigned (some m) r) false (.assigned m r))).reply .done 0x50 tag [address, mix, role])))
            ∧ (known → ∀ role : Byte, role.toNat ≤ 1 →
              (s.line.free = 0 → exec (.assignPack tag [address, 0xFF, role]) s = .next (s.reply .retry 0x50 tag [2]))
                ∧ (1 ≤ s.line.free → exec (.assignPack tag [address, 0xFF, role]) s = .next
                  ((s.withLine (queued (assigned none .listener) false .unassigned)).reply .done 0x50 tag [address, 0xFF, 1])))
            ∧ (p.state = .free → exec (.removePack tag [address]) s = .next (s.replyFail 0x51 tag .packUnknown))
            ∧ (p.state ≠ .free → let l := s.line.freePack a
                (l.free = 0 → exec (.removePack tag [address]) s = .next
                    ((s.withLine { l with removedUnsent := min (l.removedUnsent + 1) 4294967295 }).reply .done 0x51 tag [0]))
                  ∧ (1 ≤ l.free → exec (.removePack tag [address]) s = .next
                    ((s.withLine (queued l true .removed)).reply .done 0x51 tag [1])))
            ∧ ∀ (c : Byte) (text : List Byte), text.length ≤ 31 →
              let plain := ∀ x ∈ c :: text, 0x20 ≤ x.toNat ∧ x.toNat ≤ 0x7E
              let command : Instr := .packText tag (address :: c :: text)
              (¬ plain → exec command s = .next (s.replyFail 0x52 tag .badValue))
                ∧ (plain → ¬ known → exec command s = .next (s.replyFail 0x52 tag .packUnknown))
                ∧ (plain → known → s.line.free = 0 → exec command s = .next (s.reply .retry 0x52 tag [2]))
                ∧ (plain → known → 1 ≤ s.line.free → exec command s = .next
                    ((s.withLine (queued s.line false (.text (c :: text)))).reply .done 0x52 tag [])))
    ∧ (∀ (l : PackLine) (a : Fin 24), let l' := l.freePack a
      (∀ a', a' ≠ a → l'.packs.get a' = l.packs.get a')
        ∧ l'.packs.get a = { state := .free, serial := 0, mix := none, role := .listener, busy := false, presence := 0,
                             offerSent := false, attempts := 0, ticks := 0, counters := (l.packs.get a).counters }
        ∧ l'.queue = l.queue.filter (fun q => q.address != a)
        ∧ l'.queueDropped = min (l.queueDropped + (l.queue.filter fun q => q.address == a).length) 4294967295
        ∧ a ∉ l'.urgentOrder ∧ (l.window = none ↔ l'.window = none)
        ∧ (∀ w, l.window = some w → l'.window = some (if w.address = a then { w with freed := true } else w))
        ∧ l'.roundRobin = l.roundRobin ∧ l'.recovery = l.recovery ∧ l'.announceOpen = l.announceOpen)

/-- The control message of a frame and the ageing of the queue: the oldest URGENT message, else the oldest eligible NORMAL one;
what is not carried ages, and leaves past age 256. -/
def Obligations.MessageCarriage : Prop :=
  ∀ l : PackLine,
    let eligible (q : Queued) := (l.packs.get q.address).state = .present ∧ (l.packs.get q.address).busy = false
    (∀ q, l.carried = some q →
        (∃ before after, l.queue = before ++ q :: after
          ∧ (q.urgent = true → ∀ x ∈ before, x.urgent = false)
          ∧ (q.urgent = false → (∀ x ∈ l.queue, x.urgent = false) ∧ eligible q ∧ ∀ x ∈ before, ¬ eligible x)
          ∧ l.afterCarriage.queue = ((before ++ after).map fun x => { x with age := x.age + 1 }).filter
              fun x => decide (x.age ≤ 256)))
      ∧ (l.carried = none → (∀ x ∈ l.queue, x.urgent = false ∧ ¬ eligible x)
          ∧ l.afterCarriage.queue = (l.queue.map fun x => { x with age := x.age + 1 }).filter fun x => decide (x.age ≤ 256))
      ∧ (∀ q ∈ l.afterCarriage.queue, q.age ≤ 256) ∧ l.afterCarriage.packs = l.packs

/-- The arbiter and the frame. The arbiter: no free entry gives IDLE; an urgent-class grant never follows another; a CONFIRM goes
only to the lowest record that is due, and only with last class OTHER; an urgent POLL only where none is due, to the front PRESENT
record of the urgent order; a round-robin POLL to the first PRESENT address after the last one, and from the highest round to the
lowest. The frame, in the order of R152: what carrying an OFFER makes of the ticks (log 13), the grant that is chosen then, its
counter, its window and its pointer, the announce flag, the recovery run, and every field of the frame that is sent. -/
def Obligations.ArbiterChoice : Prop :=
  (∀ l : PackLine,
    let present (a : Fin 24) := (l.packs.get a).state = .present
    let due (a : Fin 24) := let p := l.packs.get a
      p.state = .joining ∧ p.offerSent = true ∧ (p.attempts = 0 → 1 ≤ p.ticks) ∧ (p.attempts ≠ 0 → 8 ≤ p.ticks)
    (l.free = 0 → l.choose = (.idle, l.lastUrgent))
      ∧ (1 ≤ l.free → l.lastUrgent = true → l.choose.2 = false)
      ∧ (1 ≤ l.free → l.lastUrgent = false → ∀ a, due a → (∀ a', a' < a → ¬ due a') → l.choose = (.confirm a, true))
      ∧ (1 ≤ l.free → l.lastUrgent = false → (∀ a, ¬ due a) → ∀ before a rest,
          l.urgentOrder = before ++ a :: rest → (∀ x ∈ before, ¬ present x) → present a → l.choose = (.poll a, true))
      ∧ (1 ≤ l.free → l.lastUrgent = true ∨ ((∀ a, ¬ due a) ∧ ∀ a ∈ l.urgentOrder, ¬ present a) →
          ((∀ a, ¬ present a) → l.choose = (.idle, false))
            ∧ ∀ a, present a →
              (l.roundRobin ≤ a.val → (∀ a', present a' → l.roundRobin ≤ a'.val → a ≤ a') → l.choose = (.poll a, false))
                ∧ ((∀ a', present a' → a'.val < l.roundRobin) → (∀ a', present a' → a ≤ a') → l.choose = (.poll a, false)))
      ∧ (∀ a u, l.choose = (.confirm a, u) → u = true ∧ l.lastUrgent = false ∧ due a ∧ ∀ a', a' < a → ¬ due a')
      ∧ (∀ a, l.choose = (.poll a, true) → l.lastUrgent = false ∧ (∀ a', ¬ due a') ∧ a ∈ l.urgentOrder)
      ∧ (∀ a u, l.choose = (.poll a, u) → present a)
      ∧ (1 ≤ l.free → l.choose.1 = .idle → ∀ a, ¬ present a))
    ∧ ∀ (l : PackLine) (n : BlockNo) (blocks : List OutBlock), ∃ packs : Table Pack 24,
      (∀ a, let p := l.packs.get a
          let offered := ∃ q serial address, l.carried = some q ∧ q.address = a ∧ q.message = .offer serial address
          (p.state ≠ .joining → packs.get a = p)
            ∧ (p.state = .joining → offered → packs.get a = { p with offerSent := true, ticks := 0 })
            ∧ (p.state = .joining → ¬ offered → p.offerSent = true → packs.get a = { p with ticks := min (p.ticks + 1) 255 })
            ∧ (p.state = .joining → ¬ offered → p.offerSent = false → packs.get a = p))
        ∧ (let ready : PackLine := { l.afterCarriage with packs := packs }
          let g := ready.choose
          let announce := decide (n.toNat % 32 = 0 ∨ 0 < l.recovery)
          let sent : PackLine := { ready with
            lastUrgent := g.2, announceOpen := announce, recovery := l.recovery - 1
            frame := some { block := n, grant := g.1, announce := announce, mixes := blocks
                            control := l.carried.map fun q => (q.address, q.message) } }
          let counted (a : Fin 24) : Table Pack 24 := let p := packs.get a
            packs.set a { p with counters := { p.counters with grants := min (p.counters.grants + 1) 4294967295 } }
          (g.1 = .idle → l.sendFrame n blocks = { sent with window := none })
            ∧ (∀ a, g.1 = .poll a → l.sendFrame n blocks = { sent with
                packs := counted a, roundRobin := if g.2 then l.roundRobin else a.val + 1
                window := some { confirm := false, address := a, freed := false } })
            ∧ (∀ a, g.1 = .confirm a → l.sendFrame n blocks = { sent with
                packs := counted a, window := some { confirm := true, address := a, freed := false } }))

/-- A refused HELLO: no record changes and nothing is queued, the counter counts it and the notice says why. -/
def Obligations.RefusedHello : Prop :=
  ∀ (s : State) (signal : List Byte) (serial : Serial), s.line.announceOpen = true →
    upstreamMessage signal = some (.hello serial) →
    let held := ∃ a, (s.line.packs.get a).state ≠ .free ∧ (s.line.packs.get a).serial = serial
    let vacant := ∃ a, (s.line.packs.get a).state = .free
    let refused (reason : JoinRefusal) : State :=
      let t := s.withLine { s.line with
        announceOpen := false, collisionRun := 0, refusedJoins := min (s.line.refusedJoins + 1) 4294967295 }
      if s.link.packNotices then
        t.raise { event := .refusedJoin, subject := some 0, block := s.clock.lastBlock
                  info := .pack serial none none none (some reason) }
      else t
    (¬ held → ¬ vacant → exec (.announceWindowClose (some signal)) s = .next (refused .tableFull))
      ∧ (held ∨ vacant → s.line.free = 0 → exec (.announceWindowClose (some signal)) s = .next (refused .queueFull))

/-- The other closes of an announce window: SILENT, COLLISION, a storm, and a HELLO by the state of the record that holds its
serial; and a signal in the upstream time of an IDLE grant, which is ignored and counted. -/
def Obligations.AnnounceWindowAndIdleSignal : Prop :=
  (∀ s : State, s.line.announceOpen = true →
      let closed (run : Nat) : PackLine := { s.line with announceOpen := false, collisionRun := run }
      let offered (l : PackLine) (serial : Serial) (a : Fin 24) : PackLine :=
        { l with queue := l.queue ++ [{ address := a, urgent := true, message := .offer serial a, age := 0 }] }
      let collided : Nat := min (s.line.collisions + 1) 4294967295
      exec (.announceWindowClose none) s = .next (s.withLine (closed 0))
        ∧ (∀ signal, (∀ serial, upstreamMessage signal ≠ some (.hello serial)) →
            (s.line.collisionRun < 15 → exec (.announceWindowClose (some signal)) s
                = .next (s.withLine { closed (s.line.collisionRun + 1) with recovery := 8, collisions := collided }))
              ∧ (s.line.collisionRun = 15 → exec (.announceWindowClose (some signal)) s
                = .next ((s.withLine { closed 0 with
                    recovery := 0, collisions := collided, announceStorms := min (s.line.announceStorms + 1) 4294967295
                  }).withLink (if s.link.packNotices then s.link.pushNotice
                    { event := .announceStorm, subject := some 0, block := s.clock.lastBlock
                      info := .pack 0 none none none none } else s.link))))
        ∧ ∀ signal serial, upstreamMessage signal = some (.hello serial) → 1 ≤ s.line.free →
          (∀ a, (∀ a', (s.line.packs.get a').state ≠ .free → (s.line.packs.get a').serial ≠ serial) →
              (s.line.packs.get a).state = .free → (∀ a', a' < a → (s.line.packs.get a').state ≠ .free) →
              exec (.announceWindowClose (some signal)) s = .next (s.withLine (offered { closed 0 with
                packs := s.line.packs.set a
                  { state := .joining, serial := serial, mix := none, role := .listener, busy := false, presence := 0,
                    offerSent := false, attempts := 0, ticks := 0, counters := PackCounters.zero } } serial a)))
            ∧ ∀ a, s.line.Sound → (s.line.packs.get a).serial = serial →
              let p := s.line.packs.get a
              (p.state = .joining → exec (.announceWindowClose (some signal)) s
                  = .next (s.withLine (offered (closed 0) serial a)))
                ∧ (p.state = .present → exec (.announceWindowClose (some signal)) s = .next (s.withLine (offered { closed 0 with
                    packs := s.line.packs.set a { p with presence := 127 } } serial a)))
                ∧ (p.state = .lost → exec (.announceWindowClose (some signal)) s
                    = .next ((s.withLine (offered { closed 0 with
                        packs := s.line.packs.set a { p with
                          state := .present, presence := 127, busy := false
                          counters := { p.counters with rejoins := min (p.counters.rejoins + 1) 4294967295 } } } serial a)).withLink
                      (if s.link.packNotices then s.link.pushNotice
                        { event := .rejoin, subject := some (a.val + 1), block := s.clock.lastBlock
                          info := .pack serial p.mix (some p.role) none none } else s.link))))
    ∧ (∀ s : State, s.clock.engine = .running ∨ s.clock.engine = .holdover → s.line.announceOpen = false →
      ∀ f, s.line.frame = some f → f.grant = .idle →
      exec .upstreamSignalAfterIdle s
        = .next (s.withLine { s.line with upstreamErrors := min (s.line.upstreamErrors + 1) 4294967295 }))

/-- Presence at the close of a granted window: every PRESENT record falls by one, and is LOST on falling from 64; the NORMAL
messages of the lost are discarded, and each of the lost raises LOST while PACK notices are ON, several in any order (log 23).
Nothing else changes. -/
def Obligations.PresenceDecrease : Prop :=
  ∀ s : State, let t := s.decreasePresence
    let losing (a : Fin 24) := (s.line.packs.get a).state = .present ∧ (s.line.packs.get a).presence = 64
    (∀ a, let p := s.line.packs.get a
        (p.state ≠ .present → t.line.packs.get a = p)
          ∧ (p.state = .present → p.presence ≠ 64 → t.line.packs.get a = { p with presence := p.presence - 1 })
          ∧ (losing a → t.line.packs.get a = { p with
              state := .lost, presence := 63
              counters := { p.counters with losses := min (p.counters.losses + 1) 4294967295 } } ∧ a ∉ t.line.urgentOrder))
      ∧ (∀ q, q ∈ t.line.queue ↔ q ∈ s.line.queue ∧ ¬ (losing q.address ∧ q.urgent = false))
      ∧ t.line.queueDropped = min (s.line.queueDropped + (s.line.queue.filter fun q =>
          (s.line.packs.get q.address).state == .present && (s.line.packs.get q.address).presence == 64 && !q.urgent).length)
          4294967295
      ∧ t.line = { s.line with
          packs := t.line.packs, queue := t.line.queue, queueDropped := t.line.queueDropped
          urgentOrder := s.line.urgentOrder.filter fun a =>
            !((s.line.packs.get a).state == .present && (s.line.packs.get a).presence == 64) }
      ∧ (t.line.queue.Sublist s.line.queue)
      ∧ (∃ lost : List (Fin 24), lost.Perm ((List.finRange 24).filter fun a =>
            (s.line.packs.get a).state == .present && (s.line.packs.get a).presence == 64)
          ∧ t.link = if s.link.packNotices then
              lost.foldl (fun l a => let p := s.line.packs.get a
                l.pushNotice { event := .lost, subject := some (a.val + 1), block := s.clock.lastBlock
                               info := .pack p.serial p.mix (some p.role) (some p.busy) none }) s.link
            else s.link)
      ∧ t = ((s.withLine t.line).withLink t.link).withDraws t.draws

/-- The close of a POLL window: SILENT, GARBLED, NOTHING and REQUEST; presence falls and the reservation is released after it.
The announce window of the frame has closed before. A window, of a POLL or a CONFIRM, whose record became FREE while it was open
takes nothing that was heard and counts nothing against the record (log 14); its close only lowers presence and releases the
reservation. -/
def Obligations.PollWindow : Prop :=
  (∀ (s : State) (a : Fin 24), s.line.announceOpen = false →
      s.line.window = some { confirm := false, address := a, freed := false } →
      let p := s.line.packs.get a
      let ends (t : State) : State := t.decreasePresence.withLine { t.decreasePresence.line with window := none }
      let silent : PackLine := { s.line with packs := s.line.packs.set a { p with
        counters := { p.counters with silent := min (p.counters.silent + 1) 4294967295 } } }
      let answered (flags : Byte) (q : Pack) : Pack := { q with
        presence := 127, busy := flags.getLsbD 0
        counters := { q.counters with answers := min (q.counters.answers + 1) 4294967295 } }
      let order (flags : Byte) : List (Fin 24) :=
        if flags.getLsbD 1 then (if s.line.urgentOrder.contains a then s.line.urgentOrder else s.line.urgentOrder ++ [a])
        else s.line.urgentOrder.filter (· != a)
      let taken (flags : Byte) : PackLine :=
        { s.line with packs := s.line.packs.set a (answered flags p), urgentOrder := order flags }
      exec (.grantedWindowClose none) s = .next (ends (s.withLine silent))
        ∧ ∀ signal : List Byte,
          ((∀ f, upstreamMessage signal ≠ some (.nothing f)) → (∀ k v f, upstreamMessage signal ≠ some (.request k v f)) →
              exec (.grantedWindowClose (some signal)) s = .next (ends (s.withLine { silent with
                upstreamErrors := min (s.line.upstreamErrors + 1) 4294967295 })))
            ∧ (∀ flags, upstreamMessage signal = some (.nothing flags) →
              exec (.grantedWindowClose (some signal)) s = .next (ends (s.withLine (taken flags))))
            ∧ ∀ kind value flags, upstreamMessage signal = some (.request kind value flags) →
              exec (.grantedWindowClose (some signal)) s
                = .next (ends ((s.withLine (taken flags)).decideRequest a kind value (flags.getLsbD 2))))
    ∧ ∀ (s : State) (w : GrantWindow) (heard : Option (List Byte)), s.line.announceOpen = false → s.line.window = some w →
      w.freed = true →
      exec (.grantedWindowClose heard) s
        = .next (s.decreasePresence.withLine { s.decreasePresence.line with window := none })

/-- A pack request is decided by its kind and by the mix and role of the record. -/
def Obligations.PackRequestDecided : Prop :=
  ∀ (s : State) (a : Fin 24) (kind : Byte) (value : Int) (more : Bool),
    let p := s.line.packs.get a
    let counted (refused : Bool) : Table Pack 24 := s.line.packs.set a { p with counters := { p.counters with
      requests := min (p.counters.requests + 1) 4294967295
      refusals := if refused then min (p.counters.refusals + 1) 4294967295 else p.counters.refusals } }
    let replied (refused : Bool) (urgent : Bool) (msg : PackMessage) : PackLine :=
      { s.line with packs := counted refused
                    queue := s.line.queue ++ [{ address := a, urgent := urgent, message := msg, age := 0 }] }
    let step := max (-16) (min 16 value)
    let sum (x : Int) := max (-16) (min 16 (x + step))
    let shown (m : Mix) : PackMessage := .trims (m.dim.getD m.volume) m.self m.others m.dim.isSome
    (kind.toNat = 0 ∨ 7 ≤ kind.toNat → s.decideRequest a kind value more
        = s.withLine { s.line with badRequests := min (s.line.badRequests + 1) 4294967295 })
      ∧ (1 ≤ kind.toNat → kind.toNat ≤ 6 →
        (p.mix = none → s.decideRequest a kind value more = s.withLine (replied true false .refusedNoMix))
          ∧ ∀ i, p.mix = some i →
            let m := s.mixes.get i
            (p.role = .listener → kind ≠ 6 → s.decideRequest a kind value more = s.withLine (replied true false .refusedNotOwner))
              ∧ (kind = 6 → s.decideRequest a kind value more = s.withLine (replied false false (shown m)))
              ∧ (p.role = .owner → kind ≠ 6 → ∃ m' : Mix,
                  s.decideRequest a kind value more = (s.withMixes (s.mixes.set i m')).withLine
                      (if kind.toNat ≤ 3 ∧ more = true then { s.line with packs := counted false }
                       else replied false (decide (kind = 4)) (shown m'))
                    ∧ (kind = 1 → m.dim = none → let v : Mix := { m with volume := sum m.volume }
                        m' = { v with masterTarget := masterTargetOf v })
                    ∧ (kind = 1 → ∀ saved, m.dim = some saved → m' = { m with dim := some (sum saved) })
                    ∧ (kind = 2 → let v : Mix := { m with self := sum m.self }
                        m' = { v with sends := m.sends.map fun d =>
                          if d.self = true ∧ d.removing = false then
                            { d with targetLeft := (sendTargets v d).1, targetRight := (sendTargets v d).2 } else d })
                    ∧ (kind = 3 → let v : Mix := { m with others := sum m.others }
                        m' = { v with sends := m.sends.map fun d =>
                          if d.self = false ∧ d.removing = false then
                            { d with targetLeft := (sendTargets v d).1, targetRight := (sendTargets v d).2 } else d })
                    ∧ (kind = 4 → m.dim = none → let v : Mix := { m with dim := some m.volume }
                        m' = { v with masterTarget := masterTargetOf v
                                      masterCurrent := if m.state = .on then masterTargetOf v else m.masterCurrent })
                    ∧ (kind = 4 → m.dim ≠ none → m' = m)
                    ∧ (kind = 5 → m.dim = none → m' = m)
                    ∧ (kind = 5 → ∀ saved, m.dim = some saved → let v : Mix := { m with dim := none, volume := saved }
                        m' = { v with masterTarget := masterTargetOf v })
                    ∧ (m.Sound → m'.Sound)))

/-- The close of a CONFIRM window: the join, a failed attempt, and the fourth failure. -/
def Obligations.ConfirmWindow : Prop :=
  ∀ (s : State) (a : Fin 24), s.line.announceOpen = false →
    s.line.window = some { confirm := true, address := a, freed := false } →
    let p := s.line.packs.get a
    let ends (t : State) : State := t.decreasePresence.withLine { t.decreasePresence.line with window := none }
    (∀ signal, upstreamMessage signal = some (.confirm p.serial) →
        exec (.grantedWindowClose (some signal)) s = .next (ends ((s.withLine { s.line with
            packs := s.line.packs.set a
              { state := .present, serial := p.serial, mix := none, role := .listener, busy := false, presence := 127,
                offerSent := false, attempts := 0, ticks := 0
                counters := { p.counters with answers := min (p.counters.answers + 1) 4294967295 } }
            urgentOrder := s.line.urgentOrder.filter (· != a)
            joins := min (s.line.joins + 1) 4294967295 }).withLink (if s.link.packNotices then s.link.pushNotice
              { event := .joined, subject := some (a.val + 1), block := s.clock.lastBlock
                info := .pack p.serial none (some .listener) none none } else s.link))))
      ∧ ∀ heard, (∀ signal, heard = some signal → upstreamMessage signal ≠ some (.confirm p.serial)) →
        let errors := if heard.isSome then min (s.line.upstreamErrors + 1) 4294967295 else s.line.upstreamErrors
        let silent := { p.counters with silent := min (p.counters.silent + 1) 4294967295 }
        (p.attempts ≤ 2 → exec (.grantedWindowClose heard) s = .next (ends (s.withLine { s.line with
            upstreamErrors := errors
            packs := s.line.packs.set a { p with attempts := p.attempts + 1, ticks := 0, counters := silent } })))
          ∧ (p.attempts = 3 → exec (.grantedWindowClose heard) s = .next (ends ((s.withLine { s.line with
              packs := s.line.packs.set a
                { state := .free, serial := 0, mix := none, role := .listener, busy := false, presence := 0,
                  offerSent := false, attempts := 0, ticks := 0, counters := silent }
              queue := s.line.queue.filter fun q => q.address != a
              queueDropped := min (s.line.queueDropped + (s.line.queue.filter fun q => q.address == a).length) 4294967295
              urgentOrder := s.line.urgentOrder.filter (· != a)
              window := some { confirm := true, address := a, freed := true }
              joinFailures := min (s.line.joinFailures + 1) 4294967295
              upstreamErrors := errors }).withLink (if s.link.packNotices then s.link.pushNotice
                { event := .joinFailed, subject := some (a.val + 1), block := s.clock.lastBlock
                  info := .pack p.serial none none none none } else s.link))))

/-! ## Click generator (10) -/

/-- CLICK_SET, CLICK_START and CLICK_STOP, by the click state, each answered with the click report. -/
def Obligations.ClickRequests : Prop :=
  ∀ (s : State) (tag : Byte), s.Admits tag →
    let c := s.click
    let answered (command : Instr) (kind : Byte) (c' : Click) : Prop :=
      exec command s = .next ((s.withClick c').reply .done kind tag (clickReport c'))
    (∀ p1 p2 p3 p4 accent count : Byte,
        let period := max 2400 (min 192000 (nat32 p1 p2 p3 p4))
        let a := max 1 (min 16 accent.toNat)
        let k := min 64 count.toNat
        (c.state ≠ .beating → answered (.clickSet tag [p1, p2, p3, p4, accent, count]) 0x58
            { c with period := period, pendingPeriod := none, accent := a, count := k, countReload := false })
          ∧ (c.state = .beating → answered (.clickSet tag [p1, p2, p3, p4, accent, count]) 0x58
            { c with pendingPeriod := some period, accent := a, count := k, countReload := true }))
      ∧ answered (.clickStart tag [0]) 0x59 { c with
          state := .beating, countdown := 0, beatIndex := 0, burst := none, countReload := false
          beatsRemaining := if c.count = 0 then none else some c.count }
      ∧ (c.state ≠ .beating → answered (.clickStop tag [0]) 0x5A { c with pendingPeriod := none, countReload := false })
      ∧ (c.state = .beating → c.burst ≠ none → answered (.clickStop tag [0]) 0x5A
          { c with state := .lastBurst, pendingPeriod := none, countReload := false })
      ∧ (c.state = .beating → c.burst = none → answered (.clickStop tag [0]) 0x5A
          { c with state := .idle, countdown := 0, beatIndex := 0, beatsRemaining := none, pendingPeriod := none,
                   countReload := false })

/-- A beat begins where the countdown is 0, and the next one exactly a period later; its burst plays 256 positions in
half-periods of 16 or 24. A beat with count reload set takes the beats remaining afresh from the count. After the burst of the
last beat of a count the click is IDLE. -/
def Obligations.BeatsAndLastBeat : Prop :=
  (∀ c : Click, c.Sound → c.state = .beating → c.countdown = 0 →
      let remaining := if c.countReload then (if c.count = 0 then none else some c.count) else c.beatsRemaining
      remaining ≠ some 1 →
      let period := c.pendingPeriod.getD c.period
      let accented := c.beatIndex % c.accent = 0
      let half := if accented then 16 else 24
      (∀ k, k < period → let c' := (c.ticks (k + 1)).1
          c' = { c with
            countdown := period - (k + 1), period := period, pendingPeriod := none, countReload := false
            beatIndex := (c.beatIndex % c.accent + 1) % c.accent, beatsRemaining := remaining.map (· - 1)
            burst := if k < 255 then some { position := k + 1, accent := decide accented } else none })
        ∧ ∀ k, k < period → (c.ticks period).2[k]? = some
            (if k < 256 then some (if k / half % 2 = 0 then 2097152 else -2097152) else none))
    ∧ (∀ c : Click, c.Sound → c.state = .beating → c.countdown = 0 →
      (if c.countReload then (if c.count = 0 then none else some c.count) else c.beatsRemaining) = some 1 →
      (∀ k, k < 255 → (c.ticks (k + 1)).1.state = .lastBurst)
        ∧ (c.ticks 256).1.state = .idle ∧ (c.ticks 256).1.countdown = 0 ∧ (c.ticks 256).1.beatIndex = 0
        ∧ (c.ticks 256).1.beatsRemaining = none ∧ (c.ticks 256).1.burst = none ∧ (c.ticks 256).1.countReload = false
        ∧ ∀ k, 256 ≤ k → (c.ticks k).1 = (c.ticks 256).1)

/-! ## Meters and counters (11) -/

/-- METER_SET: a fresh interval when the meters change, a pending interval when they stay. QUERY_COUNTERS: its tests, the
values before the clear, and what a clear leaves. -/
def Obligations.MeterAndCounterRequests : Prop :=
  (∀ (s : State) (tag meters i1 i2 : Byte), s.Admits tag →
      let command : Instr := .meterSet tag [meters, i1, i2]
      let interval := max 8 (min 1024 (nat16 i1 i2))
      let on := meters = 1
      (2 ≤ meters.toNat → exec command s = .next (s.replyFail 0x60 tag .badValue))
        ∧ (meters.toNat ≤ 1 → s.meter.on ≠ decide on → ∃ t : State,
            exec command s = .next (t.reply .done 0x60 tag ([meters] ++ be2 interval ++ [1, 0, 0] ++ be2 interval))
              ∧ t.meter = { s.meter with on := decide on, interval := interval, pendingInterval := none, countdown := interval,
                                         seen := t.meter.seen }
              ∧ (∀ i, t.meter.seen.get i = false)
              ∧ (∀ i, t.slots.get i = { s.slots.get i with peak := 0 })
              ∧ (∀ i, t.limiters.get i = { s.limiters.get i with peak := 0, lowest := 65536 })
              ∧ t = ((s.withMeter t.meter).withSlots t.slots).withLimiters t.limiters)
        ∧ (meters.toNat ≤ 1 → s.meter.on = decide on →
            exec command s = .next ((s.withMeter { s.meter with pendingInterval := some interval }).reply .done 0x60 tag
              ([meters] ++ be2 s.meter.interval ++ [0] ++ be2 interval ++ be2 s.meter.countdown))))
    ∧ (∀ (s : State) (tag group index clear : Byte), s.Admits tag →
      let command : Instr := .queryCounters tag [group, index, clear]
      (group = 0 ∨ 9 ≤ group.toNat ∨ 2 ≤ clear.toNat → exec command s = .next (s.replyFail 0x61 tag .badValue))
        ∧ (clear.toNat ≤ 1 → (group = 4 ∧ 8 ≤ index.toNat) ∨ (group = 8 ∧ (index = 0 ∨ 25 ≤ index.toNat)) →
            exec command s = .next (s.replyFail 0x61 tag .badIndex))
        ∧ ∀ g, group? group index = .ok g →
          (clear = 0 → exec command s = .next (s.reply .data 0x61 tag ([group, index, 0] ++ groupBytes s g)))
            ∧ (clear = 1 → exec command s = .next ((clearGroup s g).reply .data 0x61 tag ([group, index, 1] ++ groupBytes s g))
                ∧ (∀ x ∈ groupBytes (clearGroup s g) g, x = 0)
                ∧ (clearGroup s g).mixes = s.mixes ∧ (clearGroup s g).limiters = s.limiters ∧ (clearGroup s g).ring = s.ring
                ∧ (clearGroup s g).cues = s.cues ∧ (clearGroup s g).click = s.click ∧ (clearGroup s g).meter = s.meter))

/-- STATUS reports the values held when it is taken, its own reply included in the count of the reply queue. The other queries
answer DATA with the values held, in the order of their rules, and change nothing else; an index that names nothing is refused.
Lists are given from the start position on, as many items as fit. No rule codes the states of stream and slot records, of a scene
and the last class, nor the block of an IMMEDIATE apply: those bytes are free values (log 8). Sizes that follow only from a range,
as in QUERY_STREAM and QUERY_PACK, or from another layout, as the miss counter of QUERY_SLOT, are the model's reading (log 16), and
so are the bytes of clear and set (log 28). -/
def Obligations.StatusAndQueriesReport : Prop :=
  (∀ (s : State) (tag : Byte), s.Admits tag →
      exec (.status tag [0]) s = .next (s.reply .data 0x02 tag
        (be1 (engineCode s.clock.engine)
          ++ (match s.clock.lastBlock with
              | some m => be1 0 ++ be2 m.toNat
              | none => [1, 0, 0])
          ++ (match s.clock.format with
              | some f => be1 0 ++ be4 (rateHertz f.rate) ++ be1 f.lag ++ be3 f.syncId.toNat
              | none => [1, 0, 0, 0, 0, 0, 0, 0, 0])
          ++ yesNo (s.link.deferred.any fun d => d.job == .stop)
          ++ be4 s.link.linkErrors ++ be4 s.link.overrun ++ be4 s.link.noticesLost ++ be1 s.link.deferred.length
          ++ be1 (s.link.replies.length + s.link.deferred.length + 1) ++ be1 s.link.notices.length
          ++ be2 (256 - (s.mixes.list.map fun m => m.sends.length).sum) ++ be2 (s.ring.entries.map RingEntry.pages).sum
          ++ be1 s.ring.entries.length ++ be1 (s.line.queue.length + if s.line.window.isSome then 1 else 0))))
    ∧ (∀ (s : State) (tag x y z : Byte), s.Admits tag →
      let answers (command : Instr) (kind : Byte) (size : Nat) (fields : List Byte) : Prop :=
        exec command s = .next (s.reply .data kind tag fields) ∧ fields.length + 3 = size ∧ size ≤ 250
      let page (limit start : Nat) (items : List (List Byte)) : List Byte :=
        be1 items.length ++ be1 start ++ be1 ((items.drop start).take limit).length ++ ((items.drop start).take limit).flatten
      let sceneItems (sends : List SceneSend) : List (List Byte) := sends.map fun d =>
        be1 d.slot.val ++ be1 d.level ++ signed1 d.balance ++ yesNo d.self ++ yesNo d.mute
      let entryFields (e : MixEntry) : List Byte :=
        yesNo e.on ++ yesNo e.stereo ++ be1 e.master ++ be1 e.ceiling ++ be2 e.release
      let ownerOf (m : Fin 16) : List Byte := match s.line.ownerOf m with
        | some a => be1 (a.val + 1)
        | none => [0]
      let inState (st : PackState) : List Byte := be1 ((List.finRange 24).filter fun a => (s.line.packs.get a).state == st).length
      (8 ≤ x.toNat → exec (.queryStream tag [x]) s = .next (s.replyFail 0x24 tag .badIndex))
        ∧ (48 ≤ x.toNat → exec (.querySlot tag [x]) s = .next (s.replyFail 0x2B tag .badIndex))
        ∧ (16 ≤ x.toNat → exec (.queryMix tag [x, y]) s = .next (s.replyFail 0x35 tag .badIndex))
        ∧ (4 ≤ x.toNat ∨ 16 ≤ y.toNat → exec (.queryCue tag [x, y, z]) s = .next (s.replyFail 0x45 tag .badIndex))
        ∧ (32 ≤ x.toNat ∨ 16 ≤ y.toNat → exec (.queryScene tag [x, y, z]) s = .next (s.replyFail 0x46 tag .badIndex))
        ∧ (25 ≤ x.toNat → exec (.queryPack tag [x]) s = .next (s.replyFail 0x53 tag .badIndex))
        ∧ (∀ i : Fin 8, x.toNat = i.val → ∃ state : Byte,
            let r := s.stage.streams.get i
            let waiting := s.ring.entries.filter fun e => e.stream == i && !e.consumed
            answers (.queryStream tag [x]) 0x24 51 ([state] ++ be3 r.id.toNat ++ be1 r.channels ++ yesNo r.acceptDamaged
              ++ (match r.lastBlock with
                  | some m => be1 0 ++ be2 m.toNat
                  | none => [1, 0, 0])
              ++ be4 r.counters.stored ++ be4 r.counters.late ++ be4 r.counters.ahead ++ be4 r.counters.duplicate
              ++ be4 r.counters.damagedDropped ++ be4 r.counters.damagedKept ++ be4 r.counters.fullRejected
              ++ be4 r.counters.formatRejected ++ be4 r.counters.idleDiscarded
              ++ be1 (if r.bound then waiting.length else 0)
              ++ be2 (if r.bound then (waiting.map RingEntry.pages).sum else 0)))
        ∧ (∀ i : Fin 48, x.toNat = i.val → ∃ state : Byte,
            let k := s.slots.get i
            answers (.querySlot tag [x]) 0x2B 17 ([state] ++ be1 k.stream.val
              ++ be3 (if k.bound then (s.stage.streams.get k.stream).id.toNat else 0) ++ be1 k.channel ++ yesNo k.invert
              ++ yesNo k.repeatOnce ++ be1 (statusCode k.status) ++ be2 k.misses ++ be3 k.peak))
        ∧ (∀ i : Fin 16, x.toNat = i.val →
            let m := s.mixes.get i
            answers (.queryMix tag [x, y]) 0x35 (30 + 19 * min 11 (m.sends.length - y.toNat))
              (be1 (mixStateCode m.state) ++ yesNo m.stereo ++ be1 m.master ++ be1 (effectiveMaster m) ++ be1 m.ceiling
                ++ be2 m.release ++ be1 m.click ++ signed1 m.volume ++ signed1 m.self ++ signed1 m.others
                ++ (match m.dim with
                    | some saved => [1, 0] ++ signed1 saved
                    | none => [0, 1, 0])
                ++ be3 m.masterCurrent ++ be3 m.masterTarget ++ be3 (s.limiters.get i).gain ++ ownerOf i
                ++ page 11 y.toNat (m.sends.map fun d =>
                    be1 d.slot.val ++ be1 d.level ++ signed1 d.balance ++ yesNo d.self ++ yesNo d.mute ++ yesNo d.removing
                      ++ be1 (effectiveCode m d) ++ be3 d.currentLeft ++ be3 d.currentRight ++ be3 d.targetLeft
                      ++ be3 d.targetRight)))
        ∧ (∀ (b : Fin 4) (i : Fin 16), x.toNat = b.val → y.toNat = i.val →
            (s.cues.slots.get b = none → answers (.queryCue tag [x, y, z]) 0x45 31
              ([0, 1, 0, 0, 1] ++ List.replicate 14 0 ++ List.replicate 6 0 ++ page 24 z.toNat []))
              ∧ ∀ w, s.cues.slots.get b = some w → ∃ high low : Byte,
                let e := w.copy.get i
                answers (.queryCue tag [x, y, z]) 0x45 (31 + 5 * min 24 (e.sends.length - z.toNat))
                  (be1 (if w.applying then 2 else 1) ++ be1 0 ++ be1 w.row.val ++ yesNo w.edited
                    ++ (match w.last with
                        | none => be1 1 ++ List.replicate 14 0
                        | some r => be1 0 ++ be1 (if r.outcome = .done then 0 else 1) ++ be1 (modeCode r.mode)
                          ++ be2 r.mask.toNat
                          ++ (match r.moment with
                              | .immediate => [0, high, low]
                              | .boundary n => be1 1 ++ be2 n.toNat)
                          ++ be2 r.cut.toNat ++ yesNo r.fallback ++ be2 r.inserted ++ be2 r.freed)
                    ++ entryFields e ++ page 24 z.toNat (sceneItems e.sends)))
        ∧ (∀ (n : Fin 32) (i : Fin 16), x.toNat = n.val → y.toNat = i.val → ∃ stored : Byte,
            let e : MixEntry := match s.cues.scenes.get n with
              | some scene => scene.get i
              | none => { on := false, stereo := false, master := 112, ceiling := 112, release := 256, sends := [] }
            answers (.queryScene tag [x, y, z]) 0x46 (13 + 5 * min 24 (e.sends.length - z.toNat))
              ([stored] ++ entryFields e ++ page 24 z.toNat (sceneItems e.sends)))
        ∧ (∃ last : Byte, answers (.queryPack tag [0]) 0x53 27
            (be1 s.line.roundRobin ++ [last] ++ be1 s.line.recovery ++ be1 s.line.collisionRun
              ++ inState .free ++ inState .joining ++ inState .present ++ inState .lost
              ++ (List.finRange 16).flatMap ownerOf))
        ∧ (∀ a : Fin 24, x.toNat = a.val + 1 →
            let p := s.line.packs.get a
            answers (.queryPack tag [x]) 0x53 45 (be1 (packStateCode p.state) ++ be4 p.serial.toNat
              ++ (match p.mix with
                  | some m => be1 0 ++ be1 m.val
                  | none => [1, 0])
              ++ be1 (roleCode p.role) ++ yesNo p.busy ++ yesNo (s.line.urgentOrder.contains a) ++ be1 p.presence
              ++ yesNo p.offerSent ++ be1 p.attempts ++ be1 p.ticks
              ++ be4 p.counters.grants ++ be4 p.counters.answers ++ be4 p.counters.silent ++ be4 p.counters.requests
              ++ be4 p.counters.refusals ++ be4 p.counters.losses ++ be4 p.counters.rejoins)))

/-! ## Frames (12) -/

/-- The body of a request row decodes to that row, and what a body decodes to is the row whose body it is: no bit of a body is
dropped. -/
def Obligations.DecodeOfEncode : Prop :=
  (∀ (i : Instr) (body : List Byte), wellFormed i = true → encodeBody i = some body →
      decodeBody body = some i ∧ 3 ≤ body.length ∧ body.length ≤ 250)
    ∧ ∀ (i : Instr) (body : List Byte), 3 ≤ body.length → body.length ≤ 250 → decodeBody body = some i →
      wellFormed i = true ∧ encodeBody i = some body

/-- The bytes of a request's frame, received one after the other with no gap of more than 2 ms, have the effect of the request,
in the step of the check byte (log 10), with the record of a frame empty in HUNT (log 1). Before the check byte only frame
assembly changes. Times are in the units of log 2. -/
def Obligations.FrameBytesRunTheRequest : Prop :=
  ∀ (s : State) (i : Instr) (body : List Byte) (times : List Time) (last : Time),
    s.link.rx.phase = .hunt → wellFormed i = true → encodeBody i = some body →
    times.length = (linkFrame body).length → times.getLast? = some last →
    (∀ j : Nat, ∀ t u, times[j]? = some t → times[j + 1]? = some u → u ≤ t + 24000) →
    feedBytes (times.zip (linkFrame body)) s
      = exec i (s.withLink { s.link with rx := { phase := .hunt, declared := 0, body := [], sum := 0, lastAt := last } })
      ∧ ∀ j, j < times.length → ∃ rx : Receiver,
        feedBytes ((times.zip (linkFrame body)).take j) s = .next (s.withLink { s.link with rx := rx })

/-! ## What every step keeps -/

/-- Every step keeps the queues' bounds, the hold line, the transmitter, frame assembly, the clock's relations and the
deferred list in agreement with the pending STOP and the APPLYING cue slots. -/
def Obligations.StepKeepsLinkAndClock : Prop :=
  ∀ s t : State, s.Sound → step s = .next t → t.link.Sound ∧ t.link.rx.Sound ∧ t.clock.Sound ∧ t.DeferralSound

/-- Every step keeps the stream table, the frame ring and the slots sound. -/
def Obligations.StepKeepsRingAndSlots : Prop :=
  ∀ s t : State, s.Sound → step s = .next t → t.StreamsSound ∧ t.RingSound ∧ t.SlotsSound

/-- Every step keeps the mixes, their targets, the send pool, and what a stopped engine means for them. -/
def Obligations.StepKeepsMixes : Prop :=
  ∀ s t : State, s.Sound → step s = .next t → t.MixesSound ∧ t.MixesAtRest ∧ t.cues.Sound

/-- Every step keeps the limiters in range. -/
def Obligations.StepKeepsLimiters : Prop :=
  ∀ s t : State, s.Sound → step s = .next t → t.LimitersSound

/-- Every step keeps the pack table, the message queue and the windows sound. The frame on the line is the model's
record of an output (log 21). -/
def Obligations.StepKeepsPackLine : Prop :=
  ∀ s t : State, s.Sound → step s = .next t → t.LineSound

/-- Every step keeps the click, the meter unit and every counter in range. -/
def Obligations.StepKeepsClickAndCounters : Prop :=
  ∀ s t : State, s.Sound → step s = .next t → t.click.Sound ∧ t.meter.Sound ∧ t.CountersSound
end

