-- ==== Sys2Proof/Laws/State.lean ====
section
/-! SUPPORT. One lemma for each field of the state under each named update, and two updates of one field. -/

namespace Sys2Proof.Machine

@[simp] theorem State.withLink_link (s : State) (v : Link) : (s.withLink v).link = v := rfl
@[simp] theorem State.withLink_clock (s : State) (v : Link) : (s.withLink v).clock = s.clock := rfl
@[simp] theorem State.withLink_stage (s : State) (v : Link) : (s.withLink v).stage = s.stage := rfl
@[simp] theorem State.withLink_ring (s : State) (v : Link) : (s.withLink v).ring = s.ring := rfl
@[simp] theorem State.withLink_slots (s : State) (v : Link) : (s.withLink v).slots = s.slots := rfl
@[simp] theorem State.withLink_mixes (s : State) (v : Link) : (s.withLink v).mixes = s.mixes := rfl
@[simp] theorem State.withLink_limiters (s : State) (v : Link) : (s.withLink v).limiters = s.limiters := rfl
@[simp] theorem State.withLink_cues (s : State) (v : Link) : (s.withLink v).cues = s.cues := rfl
@[simp] theorem State.withLink_line (s : State) (v : Link) : (s.withLink v).line = s.line := rfl
@[simp] theorem State.withLink_click (s : State) (v : Link) : (s.withLink v).click = s.click := rfl
@[simp] theorem State.withLink_meter (s : State) (v : Link) : (s.withLink v).meter = s.meter := rfl
@[simp] theorem State.withLink_draws (s : State) (v : Link) : (s.withLink v).draws = s.draws := rfl
@[simp] theorem State.withLink_pending (s : State) (v : Link) : (s.withLink v).pending = s.pending := rfl
@[simp] theorem State.withLink_withLink (s : State) (v w : Link) : (s.withLink v).withLink w = s.withLink w := rfl
@[simp] theorem State.withLink_self (s : State) : s.withLink s.link = s := rfl

@[simp] theorem State.withClock_link (s : State) (v : Clock) : (s.withClock v).link = s.link := rfl
@[simp] theorem State.withClock_clock (s : State) (v : Clock) : (s.withClock v).clock = v := rfl
@[simp] theorem State.withClock_stage (s : State) (v : Clock) : (s.withClock v).stage = s.stage := rfl
@[simp] theorem State.withClock_ring (s : State) (v : Clock) : (s.withClock v).ring = s.ring := rfl
@[simp] theorem State.withClock_slots (s : State) (v : Clock) : (s.withClock v).slots = s.slots := rfl
@[simp] theorem State.withClock_mixes (s : State) (v : Clock) : (s.withClock v).mixes = s.mixes := rfl
@[simp] theorem State.withClock_limiters (s : State) (v : Clock) : (s.withClock v).limiters = s.limiters := rfl
@[simp] theorem State.withClock_cues (s : State) (v : Clock) : (s.withClock v).cues = s.cues := rfl
@[simp] theorem State.withClock_line (s : State) (v : Clock) : (s.withClock v).line = s.line := rfl
@[simp] theorem State.withClock_click (s : State) (v : Clock) : (s.withClock v).click = s.click := rfl
@[simp] theorem State.withClock_meter (s : State) (v : Clock) : (s.withClock v).meter = s.meter := rfl
@[simp] theorem State.withClock_draws (s : State) (v : Clock) : (s.withClock v).draws = s.draws := rfl
@[simp] theorem State.withClock_pending (s : State) (v : Clock) : (s.withClock v).pending = s.pending := rfl
@[simp] theorem State.withClock_withClock (s : State) (v w : Clock) : (s.withClock v).withClock w = s.withClock w := rfl
@[simp] theorem State.withClock_self (s : State) : s.withClock s.clock = s := rfl

@[simp] theorem State.withStage_link (s : State) (v : Stage) : (s.withStage v).link = s.link := rfl
@[simp] theorem State.withStage_clock (s : State) (v : Stage) : (s.withStage v).clock = s.clock := rfl
@[simp] theorem State.withStage_stage (s : State) (v : Stage) : (s.withStage v).stage = v := rfl
@[simp] theorem State.withStage_ring (s : State) (v : Stage) : (s.withStage v).ring = s.ring := rfl
@[simp] theorem State.withStage_slots (s : State) (v : Stage) : (s.withStage v).slots = s.slots := rfl
@[simp] theorem State.withStage_mixes (s : State) (v : Stage) : (s.withStage v).mixes = s.mixes := rfl
@[simp] theorem State.withStage_limiters (s : State) (v : Stage) : (s.withStage v).limiters = s.limiters := rfl
@[simp] theorem State.withStage_cues (s : State) (v : Stage) : (s.withStage v).cues = s.cues := rfl
@[simp] theorem State.withStage_line (s : State) (v : Stage) : (s.withStage v).line = s.line := rfl
@[simp] theorem State.withStage_click (s : State) (v : Stage) : (s.withStage v).click = s.click := rfl
@[simp] theorem State.withStage_meter (s : State) (v : Stage) : (s.withStage v).meter = s.meter := rfl
@[simp] theorem State.withStage_draws (s : State) (v : Stage) : (s.withStage v).draws = s.draws := rfl
@[simp] theorem State.withStage_pending (s : State) (v : Stage) : (s.withStage v).pending = s.pending := rfl
@[simp] theorem State.withStage_withStage (s : State) (v w : Stage) : (s.withStage v).withStage w = s.withStage w := rfl
@[simp] theorem State.withStage_self (s : State) : s.withStage s.stage = s := rfl

@[simp] theorem State.withRing_link (s : State) (v : Ring) : (s.withRing v).link = s.link := rfl
@[simp] theorem State.withRing_clock (s : State) (v : Ring) : (s.withRing v).clock = s.clock := rfl
@[simp] theorem State.withRing_stage (s : State) (v : Ring) : (s.withRing v).stage = s.stage := rfl
@[simp] theorem State.withRing_ring (s : State) (v : Ring) : (s.withRing v).ring = v := rfl
@[simp] theorem State.withRing_slots (s : State) (v : Ring) : (s.withRing v).slots = s.slots := rfl
@[simp] theorem State.withRing_mixes (s : State) (v : Ring) : (s.withRing v).mixes = s.mixes := rfl
@[simp] theorem State.withRing_limiters (s : State) (v : Ring) : (s.withRing v).limiters = s.limiters := rfl
@[simp] theorem State.withRing_cues (s : State) (v : Ring) : (s.withRing v).cues = s.cues := rfl
@[simp] theorem State.withRing_line (s : State) (v : Ring) : (s.withRing v).line = s.line := rfl
@[simp] theorem State.withRing_click (s : State) (v : Ring) : (s.withRing v).click = s.click := rfl
@[simp] theorem State.withRing_meter (s : State) (v : Ring) : (s.withRing v).meter = s.meter := rfl
@[simp] theorem State.withRing_draws (s : State) (v : Ring) : (s.withRing v).draws = s.draws := rfl
@[simp] theorem State.withRing_pending (s : State) (v : Ring) : (s.withRing v).pending = s.pending := rfl
@[simp] theorem State.withRing_withRing (s : State) (v w : Ring) : (s.withRing v).withRing w = s.withRing w := rfl
@[simp] theorem State.withRing_self (s : State) : s.withRing s.ring = s := rfl

@[simp] theorem State.withSlots_link (s : State) (v : Table Slot 48) : (s.withSlots v).link = s.link := rfl
@[simp] theorem State.withSlots_clock (s : State) (v : Table Slot 48) : (s.withSlots v).clock = s.clock := rfl
@[simp] theorem State.withSlots_stage (s : State) (v : Table Slot 48) : (s.withSlots v).stage = s.stage := rfl
@[simp] theorem State.withSlots_ring (s : State) (v : Table Slot 48) : (s.withSlots v).ring = s.ring := rfl
@[simp] theorem State.withSlots_slots (s : State) (v : Table Slot 48) : (s.withSlots v).slots = v := rfl
@[simp] theorem State.withSlots_mixes (s : State) (v : Table Slot 48) : (s.withSlots v).mixes = s.mixes := rfl
@[simp] theorem State.withSlots_limiters (s : State) (v : Table Slot 48) : (s.withSlots v).limiters = s.limiters := rfl
@[simp] theorem State.withSlots_cues (s : State) (v : Table Slot 48) : (s.withSlots v).cues = s.cues := rfl
@[simp] theorem State.withSlots_line (s : State) (v : Table Slot 48) : (s.withSlots v).line = s.line := rfl
@[simp] theorem State.withSlots_click (s : State) (v : Table Slot 48) : (s.withSlots v).click = s.click := rfl
@[simp] theorem State.withSlots_meter (s : State) (v : Table Slot 48) : (s.withSlots v).meter = s.meter := rfl
@[simp] theorem State.withSlots_draws (s : State) (v : Table Slot 48) : (s.withSlots v).draws = s.draws := rfl
@[simp] theorem State.withSlots_pending (s : State) (v : Table Slot 48) : (s.withSlots v).pending = s.pending := rfl
@[simp] theorem State.withSlots_withSlots (s : State) (v w : Table Slot 48) : (s.withSlots v).withSlots w = s.withSlots w := rfl
@[simp] theorem State.withSlots_self (s : State) : s.withSlots s.slots = s := rfl

@[simp] theorem State.withMixes_link (s : State) (v : Table Mix 16) : (s.withMixes v).link = s.link := rfl
@[simp] theorem State.withMixes_clock (s : State) (v : Table Mix 16) : (s.withMixes v).clock = s.clock := rfl
@[simp] theorem State.withMixes_stage (s : State) (v : Table Mix 16) : (s.withMixes v).stage = s.stage := rfl
@[simp] theorem State.withMixes_ring (s : State) (v : Table Mix 16) : (s.withMixes v).ring = s.ring := rfl
@[simp] theorem State.withMixes_slots (s : State) (v : Table Mix 16) : (s.withMixes v).slots = s.slots := rfl
@[simp] theorem State.withMixes_mixes (s : State) (v : Table Mix 16) : (s.withMixes v).mixes = v := rfl
@[simp] theorem State.withMixes_limiters (s : State) (v : Table Mix 16) : (s.withMixes v).limiters = s.limiters := rfl
@[simp] theorem State.withMixes_cues (s : State) (v : Table Mix 16) : (s.withMixes v).cues = s.cues := rfl
@[simp] theorem State.withMixes_line (s : State) (v : Table Mix 16) : (s.withMixes v).line = s.line := rfl
@[simp] theorem State.withMixes_click (s : State) (v : Table Mix 16) : (s.withMixes v).click = s.click := rfl
@[simp] theorem State.withMixes_meter (s : State) (v : Table Mix 16) : (s.withMixes v).meter = s.meter := rfl
@[simp] theorem State.withMixes_draws (s : State) (v : Table Mix 16) : (s.withMixes v).draws = s.draws := rfl
@[simp] theorem State.withMixes_pending (s : State) (v : Table Mix 16) : (s.withMixes v).pending = s.pending := rfl
@[simp] theorem State.withMixes_withMixes (s : State) (v w : Table Mix 16) : (s.withMixes v).withMixes w = s.withMixes w := rfl
@[simp] theorem State.withMixes_self (s : State) : s.withMixes s.mixes = s := rfl

@[simp] theorem State.withLimiters_link (s : State) (v : Table Limiter 16) : (s.withLimiters v).link = s.link := rfl
@[simp] theorem State.withLimiters_clock (s : State) (v : Table Limiter 16) : (s.withLimiters v).clock = s.clock := rfl
@[simp] theorem State.withLimiters_stage (s : State) (v : Table Limiter 16) : (s.withLimiters v).stage = s.stage := rfl
@[simp] theorem State.withLimiters_ring (s : State) (v : Table Limiter 16) : (s.withLimiters v).ring = s.ring := rfl
@[simp] theorem State.withLimiters_slots (s : State) (v : Table Limiter 16) : (s.withLimiters v).slots = s.slots := rfl
@[simp] theorem State.withLimiters_mixes (s : State) (v : Table Limiter 16) : (s.withLimiters v).mixes = s.mixes := rfl
@[simp] theorem State.withLimiters_limiters (s : State) (v : Table Limiter 16) : (s.withLimiters v).limiters = v := rfl
@[simp] theorem State.withLimiters_cues (s : State) (v : Table Limiter 16) : (s.withLimiters v).cues = s.cues := rfl
@[simp] theorem State.withLimiters_line (s : State) (v : Table Limiter 16) : (s.withLimiters v).line = s.line := rfl
@[simp] theorem State.withLimiters_click (s : State) (v : Table Limiter 16) : (s.withLimiters v).click = s.click := rfl
@[simp] theorem State.withLimiters_meter (s : State) (v : Table Limiter 16) : (s.withLimiters v).meter = s.meter := rfl
@[simp] theorem State.withLimiters_draws (s : State) (v : Table Limiter 16) : (s.withLimiters v).draws = s.draws := rfl
@[simp] theorem State.withLimiters_pending (s : State) (v : Table Limiter 16) : (s.withLimiters v).pending = s.pending := rfl
@[simp] theorem State.withLimiters_withLimiters (s : State) (v w : Table Limiter 16) : (s.withLimiters v).withLimiters w = s.withLimiters w := rfl
@[simp] theorem State.withLimiters_self (s : State) : s.withLimiters s.limiters = s := rfl

@[simp] theorem State.withCues_link (s : State) (v : Cues) : (s.withCues v).link = s.link := rfl
@[simp] theorem State.withCues_clock (s : State) (v : Cues) : (s.withCues v).clock = s.clock := rfl
@[simp] theorem State.withCues_stage (s : State) (v : Cues) : (s.withCues v).stage = s.stage := rfl
@[simp] theorem State.withCues_ring (s : State) (v : Cues) : (s.withCues v).ring = s.ring := rfl
@[simp] theorem State.withCues_slots (s : State) (v : Cues) : (s.withCues v).slots = s.slots := rfl
@[simp] theorem State.withCues_mixes (s : State) (v : Cues) : (s.withCues v).mixes = s.mixes := rfl
@[simp] theorem State.withCues_limiters (s : State) (v : Cues) : (s.withCues v).limiters = s.limiters := rfl
@[simp] theorem State.withCues_cues (s : State) (v : Cues) : (s.withCues v).cues = v := rfl
@[simp] theorem State.withCues_line (s : State) (v : Cues) : (s.withCues v).line = s.line := rfl
@[simp] theorem State.withCues_click (s : State) (v : Cues) : (s.withCues v).click = s.click := rfl
@[simp] theorem State.withCues_meter (s : State) (v : Cues) : (s.withCues v).meter = s.meter := rfl
@[simp] theorem State.withCues_draws (s : State) (v : Cues) : (s.withCues v).draws = s.draws := rfl
@[simp] theorem State.withCues_pending (s : State) (v : Cues) : (s.withCues v).pending = s.pending := rfl
@[simp] theorem State.withCues_withCues (s : State) (v w : Cues) : (s.withCues v).withCues w = s.withCues w := rfl
@[simp] theorem State.withCues_self (s : State) : s.withCues s.cues = s := rfl

@[simp] theorem State.withLine_link (s : State) (v : PackLine) : (s.withLine v).link = s.link := rfl
@[simp] theorem State.withLine_clock (s : State) (v : PackLine) : (s.withLine v).clock = s.clock := rfl
@[simp] theorem State.withLine_stage (s : State) (v : PackLine) : (s.withLine v).stage = s.stage := rfl
@[simp] theorem State.withLine_ring (s : State) (v : PackLine) : (s.withLine v).ring = s.ring := rfl
@[simp] theorem State.withLine_slots (s : State) (v : PackLine) : (s.withLine v).slots = s.slots := rfl
@[simp] theorem State.withLine_mixes (s : State) (v : PackLine) : (s.withLine v).mixes = s.mixes := rfl
@[simp] theorem State.withLine_limiters (s : State) (v : PackLine) : (s.withLine v).limiters = s.limiters := rfl
@[simp] theorem State.withLine_cues (s : State) (v : PackLine) : (s.withLine v).cues = s.cues := rfl
@[simp] theorem State.withLine_line (s : State) (v : PackLine) : (s.withLine v).line = v := rfl
@[simp] theorem State.withLine_click (s : State) (v : PackLine) : (s.withLine v).click = s.click := rfl
@[simp] theorem State.withLine_meter (s : State) (v : PackLine) : (s.withLine v).meter = s.meter := rfl
@[simp] theorem State.withLine_draws (s : State) (v : PackLine) : (s.withLine v).draws = s.draws := rfl
@[simp] theorem State.withLine_pending (s : State) (v : PackLine) : (s.withLine v).pending = s.pending := rfl
@[simp] theorem State.withLine_withLine (s : State) (v w : PackLine) : (s.withLine v).withLine w = s.withLine w := rfl
@[simp] theorem State.withLine_self (s : State) : s.withLine s.line = s := rfl

@[simp] theorem State.withClick_link (s : State) (v : Click) : (s.withClick v).link = s.link := rfl
@[simp] theorem State.withClick_clock (s : State) (v : Click) : (s.withClick v).clock = s.clock := rfl
@[simp] theorem State.withClick_stage (s : State) (v : Click) : (s.withClick v).stage = s.stage := rfl
@[simp] theorem State.withClick_ring (s : State) (v : Click) : (s.withClick v).ring = s.ring := rfl
@[simp] theorem State.withClick_slots (s : State) (v : Click) : (s.withClick v).slots = s.slots := rfl
@[simp] theorem State.withClick_mixes (s : State) (v : Click) : (s.withClick v).mixes = s.mixes := rfl
@[simp] theorem State.withClick_limiters (s : State) (v : Click) : (s.withClick v).limiters = s.limiters := rfl
@[simp] theorem State.withClick_cues (s : State) (v : Click) : (s.withClick v).cues = s.cues := rfl
@[simp] theorem State.withClick_line (s : State) (v : Click) : (s.withClick v).line = s.line := rfl
@[simp] theorem State.withClick_click (s : State) (v : Click) : (s.withClick v).click = v := rfl
@[simp] theorem State.withClick_meter (s : State) (v : Click) : (s.withClick v).meter = s.meter := rfl
@[simp] theorem State.withClick_draws (s : State) (v : Click) : (s.withClick v).draws = s.draws := rfl
@[simp] theorem State.withClick_pending (s : State) (v : Click) : (s.withClick v).pending = s.pending := rfl
@[simp] theorem State.withClick_withClick (s : State) (v w : Click) : (s.withClick v).withClick w = s.withClick w := rfl
@[simp] theorem State.withClick_self (s : State) : s.withClick s.click = s := rfl

@[simp] theorem State.withMeter_link (s : State) (v : Meter) : (s.withMeter v).link = s.link := rfl
@[simp] theorem State.withMeter_clock (s : State) (v : Meter) : (s.withMeter v).clock = s.clock := rfl
@[simp] theorem State.withMeter_stage (s : State) (v : Meter) : (s.withMeter v).stage = s.stage := rfl
@[simp] theorem State.withMeter_ring (s : State) (v : Meter) : (s.withMeter v).ring = s.ring := rfl
@[simp] theorem State.withMeter_slots (s : State) (v : Meter) : (s.withMeter v).slots = s.slots := rfl
@[simp] theorem State.withMeter_mixes (s : State) (v : Meter) : (s.withMeter v).mixes = s.mixes := rfl
@[simp] theorem State.withMeter_limiters (s : State) (v : Meter) : (s.withMeter v).limiters = s.limiters := rfl
@[simp] theorem State.withMeter_cues (s : State) (v : Meter) : (s.withMeter v).cues = s.cues := rfl
@[simp] theorem State.withMeter_line (s : State) (v : Meter) : (s.withMeter v).line = s.line := rfl
@[simp] theorem State.withMeter_click (s : State) (v : Meter) : (s.withMeter v).click = s.click := rfl
@[simp] theorem State.withMeter_meter (s : State) (v : Meter) : (s.withMeter v).meter = v := rfl
@[simp] theorem State.withMeter_draws (s : State) (v : Meter) : (s.withMeter v).draws = s.draws := rfl
@[simp] theorem State.withMeter_pending (s : State) (v : Meter) : (s.withMeter v).pending = s.pending := rfl
@[simp] theorem State.withMeter_withMeter (s : State) (v w : Meter) : (s.withMeter v).withMeter w = s.withMeter w := rfl
@[simp] theorem State.withMeter_self (s : State) : s.withMeter s.meter = s := rfl

@[simp] theorem State.withDraws_link (s : State) (v : Nat) : (s.withDraws v).link = s.link := rfl
@[simp] theorem State.withDraws_clock (s : State) (v : Nat) : (s.withDraws v).clock = s.clock := rfl
@[simp] theorem State.withDraws_stage (s : State) (v : Nat) : (s.withDraws v).stage = s.stage := rfl
@[simp] theorem State.withDraws_ring (s : State) (v : Nat) : (s.withDraws v).ring = s.ring := rfl
@[simp] theorem State.withDraws_slots (s : State) (v : Nat) : (s.withDraws v).slots = s.slots := rfl
@[simp] theorem State.withDraws_mixes (s : State) (v : Nat) : (s.withDraws v).mixes = s.mixes := rfl
@[simp] theorem State.withDraws_limiters (s : State) (v : Nat) : (s.withDraws v).limiters = s.limiters := rfl
@[simp] theorem State.withDraws_cues (s : State) (v : Nat) : (s.withDraws v).cues = s.cues := rfl
@[simp] theorem State.withDraws_line (s : State) (v : Nat) : (s.withDraws v).line = s.line := rfl
@[simp] theorem State.withDraws_click (s : State) (v : Nat) : (s.withDraws v).click = s.click := rfl
@[simp] theorem State.withDraws_meter (s : State) (v : Nat) : (s.withDraws v).meter = s.meter := rfl
@[simp] theorem State.withDraws_draws (s : State) (v : Nat) : (s.withDraws v).draws = v := rfl
@[simp] theorem State.withDraws_pending (s : State) (v : Nat) : (s.withDraws v).pending = s.pending := rfl
@[simp] theorem State.withDraws_withDraws (s : State) (v w : Nat) : (s.withDraws v).withDraws w = s.withDraws w := rfl
@[simp] theorem State.withDraws_self (s : State) : s.withDraws s.draws = s := rfl

@[simp] theorem State.withPending_link (s : State) (v : List Instr) : (s.withPending v).link = s.link := rfl
@[simp] theorem State.withPending_clock (s : State) (v : List Instr) : (s.withPending v).clock = s.clock := rfl
@[simp] theorem State.withPending_stage (s : State) (v : List Instr) : (s.withPending v).stage = s.stage := rfl
@[simp] theorem State.withPending_ring (s : State) (v : List Instr) : (s.withPending v).ring = s.ring := rfl
@[simp] theorem State.withPending_slots (s : State) (v : List Instr) : (s.withPending v).slots = s.slots := rfl
@[simp] theorem State.withPending_mixes (s : State) (v : List Instr) : (s.withPending v).mixes = s.mixes := rfl
@[simp] theorem State.withPending_limiters (s : State) (v : List Instr) : (s.withPending v).limiters = s.limiters := rfl
@[simp] theorem State.withPending_cues (s : State) (v : List Instr) : (s.withPending v).cues = s.cues := rfl
@[simp] theorem State.withPending_line (s : State) (v : List Instr) : (s.withPending v).line = s.line := rfl
@[simp] theorem State.withPending_click (s : State) (v : List Instr) : (s.withPending v).click = s.click := rfl
@[simp] theorem State.withPending_meter (s : State) (v : List Instr) : (s.withPending v).meter = s.meter := rfl
@[simp] theorem State.withPending_draws (s : State) (v : List Instr) : (s.withPending v).draws = s.draws := rfl
@[simp] theorem State.withPending_pending (s : State) (v : List Instr) : (s.withPending v).pending = v := rfl
@[simp] theorem State.withPending_withPending (s : State) (v w : List Instr) : (s.withPending v).withPending w = s.withPending w := rfl
@[simp] theorem State.withPending_self (s : State) : s.withPending s.pending = s := rfl

end Sys2Proof.Machine
end

