-- ==== Sys2Proof/Laws/Link.lean ====
section
/-! SUPPORT. The control link's operations: what each changes, what it leaves, and every way a request can end. -/

namespace Sys2Proof.Machine

/-! ## Queues -/

@[simp] theorem Link.refreshHold_replies (l : Link) : l.refreshHold.replies = l.replies := rfl
@[simp] theorem Link.refreshHold_notices (l : Link) : l.refreshHold.notices = l.notices := rfl
@[simp] theorem Link.refreshHold_deferred (l : Link) : l.refreshHold.deferred = l.deferred := rfl
@[simp] theorem Link.refreshHold_tx (l : Link) : l.refreshHold.tx = l.tx := rfl
@[simp] theorem Link.refreshHold_rx (l : Link) : l.refreshHold.rx = l.rx := rfl
@[simp] theorem Link.refreshHold_inUse (l : Link) : l.refreshHold.inUse = l.inUse := rfl
theorem Link.refreshHold_hold (l : Link) : l.refreshHold.hold = decide (12 ≤ l.inUse) := rfl

/-- Starting a transmission changes the transmitter only. -/
theorem Link.startTx_eq (l : Link) : l.startTx = { l with tx := l.startTx.tx } := by
  unfold Link.startTx; split <;> rfl

@[simp] theorem Link.startTx_replies (l : Link) : l.startTx.replies = l.replies := by unfold Link.startTx; split <;> rfl
@[simp] theorem Link.startTx_notices (l : Link) : l.startTx.notices = l.notices := by unfold Link.startTx; split <;> rfl
@[simp] theorem Link.startTx_deferred (l : Link) : l.startTx.deferred = l.deferred := by unfold Link.startTx; split <;> rfl
@[simp] theorem Link.startTx_rx (l : Link) : l.startTx.rx = l.rx := by unfold Link.startTx; split <;> rfl
@[simp] theorem Link.startTx_inUse (l : Link) : l.startTx.inUse = l.inUse := by simp [Link.inUse]

@[simp] theorem Link.pushReply_replies (l : Link) (r : Reply) : (l.pushReply r).replies = l.replies ++ [r] := by
  simp [Link.pushReply]
@[simp] theorem Link.pushReply_notices (l : Link) (r : Reply) : (l.pushReply r).notices = l.notices := by
  simp [Link.pushReply]
@[simp] theorem Link.pushReply_deferred (l : Link) (r : Reply) : (l.pushReply r).deferred = l.deferred := by
  simp [Link.pushReply]
@[simp] theorem Link.pushReply_rx (l : Link) (r : Reply) : (l.pushReply r).rx = l.rx := by simp [Link.pushReply]
@[simp] theorem Link.pushReply_inUse (l : Link) (r : Reply) : (l.pushReply r).inUse = l.inUse + 1 := by
  simp [Link.inUse]; omega

/-- What queuing a notice leaves as it is. -/
theorem Link.pushNotice_frame (l : Link) (n : Notice) :
    (l.pushNotice n).replies = l.replies ∧ (l.pushNotice n).deferred = l.deferred ∧ (l.pushNotice n).rx = l.rx
      ∧ (l.pushNotice n).hold = l.hold := by
  unfold Link.pushNotice
  split
  · refine ⟨by simp, by simp, by simp, ?_⟩; rw [Link.startTx_eq]
  · exact ⟨rfl, rfl, rfl, rfl⟩

/-- A queue that is not full takes the notice at its back; a full one keeps its notices and counts the loss (R13). -/
theorem Link.pushNotice_cases (l : Link) (n : Notice) :
    (l.notices.length < 64 ∧ (l.pushNotice n).notices = l.notices ++ [n])
      ∨ (64 ≤ l.notices.length ∧ l.pushNotice n = { l with noticesLost := count32 l.noticesLost }) := by
  unfold Link.pushNotice
  split
  · exact .inl ⟨by assumption, by simp⟩
  · rename_i h; exact .inr ⟨Nat.le_of_not_lt h, rfl⟩

/-! ## Replies: only the link changes -/

/-- Queuing a reply changes the link only. -/
theorem State.reply_eq (s : State) (code : ReplyCode) (kind tag : Byte) (fields : List Byte) :
    s.reply code kind tag fields = s.withLink (s.link.pushReply { code := code, tag := tag, kind := kind, fields := fields }) :=
  rfl

@[simp] theorem State.reply_clock (s : State) (c : ReplyCode) (k t : Byte) (f : List Byte) : (s.reply c k t f).clock = s.clock := rfl
@[simp] theorem State.reply_stage (s : State) (c : ReplyCode) (k t : Byte) (f : List Byte) : (s.reply c k t f).stage = s.stage := rfl
@[simp] theorem State.reply_ring (s : State) (c : ReplyCode) (k t : Byte) (f : List Byte) : (s.reply c k t f).ring = s.ring := rfl
@[simp] theorem State.reply_slots (s : State) (c : ReplyCode) (k t : Byte) (f : List Byte) : (s.reply c k t f).slots = s.slots := rfl
@[simp] theorem State.reply_mixes (s : State) (c : ReplyCode) (k t : Byte) (f : List Byte) : (s.reply c k t f).mixes = s.mixes := rfl
@[simp] theorem State.reply_limiters (s : State) (c : ReplyCode) (k t : Byte) (f : List Byte) :
    (s.reply c k t f).limiters = s.limiters := rfl
@[simp] theorem State.reply_cues (s : State) (c : ReplyCode) (k t : Byte) (f : List Byte) : (s.reply c k t f).cues = s.cues := rfl
@[simp] theorem State.reply_line (s : State) (c : ReplyCode) (k t : Byte) (f : List Byte) : (s.reply c k t f).line = s.line := rfl
@[simp] theorem State.reply_click (s : State) (c : ReplyCode) (k t : Byte) (f : List Byte) : (s.reply c k t f).click = s.click := rfl
@[simp] theorem State.reply_meter (s : State) (c : ReplyCode) (k t : Byte) (f : List Byte) : (s.reply c k t f).meter = s.meter := rfl
@[simp] theorem State.reply_draws (s : State) (c : ReplyCode) (k t : Byte) (f : List Byte) : (s.reply c k t f).draws = s.draws := rfl
@[simp] theorem State.reply_pending (s : State) (c : ReplyCode) (k t : Byte) (f : List Byte) : (s.reply c k t f).pending = s.pending := rfl

/-! ## Requests -/

/-- Every way the taking of a request can end (R3): it overruns, a test of the Link Controller refuses it, or its owner
decides it. -/
theorem takeRequest_cases (kind tag : Byte) (owner : Option Owner) (s : State) :
    takeRequest kind tag owner s = s.withLink { s.link with overrun := count32 s.link.overrun }
      ∨ (∃ e, takeRequest kind tag owner s = s.replyFail kind tag e)
      ∨ ∃ take, owner = some take ∧ s.Admits tag
          ∧ takeRequest kind tag owner s = (take s).1.answer kind tag (take s).2 := by
  unfold takeRequest
  split
  · exact .inl rfl
  · split
    · exact .inr (.inl ⟨_, rfl⟩)
    · split
      · exact .inr (.inl ⟨_, rfl⟩)
      · split
        · exact .inr (.inl ⟨_, rfl⟩)
        · rename_i h1 h2 _ _ h3
          exact .inr (.inr ⟨_, rfl, ⟨by omega, h2, by simpa using h3⟩, rfl⟩)

/-- An admitted request is decided by its owner. -/
theorem takeRequest_admitted {kind tag : Byte} {take : Owner} {s : State} (h : s.Admits tag) :
    takeRequest kind tag (some take) s = (take s).1.answer kind tag (take s).2 := by
  have h1 : ¬ s.link.free = 0 := by have := h.1; omega
  have h2 : s.link.holdsTag tag = false := h.2.2
  rw [takeRequest, if_neg h1, if_neg h.2.1]
  simp [h2]

/-- A request whose zero field is 0 is its owner's. -/
@[simp] theorem zeroField_zero (owner : Owner) : zeroField owner [0] = some owner := rfl

/-- What a reply of the owner's changes beside the link: a deferral marks the clock or a cue slot. -/
theorem State.answer_frame (s : State) (kind tag : Byte) (a : Answer) :
    (s.answer kind tag a).stage = s.stage ∧ (s.answer kind tag a).ring = s.ring ∧ (s.answer kind tag a).slots = s.slots
      ∧ (s.answer kind tag a).mixes = s.mixes ∧ (s.answer kind tag a).limiters = s.limiters
      ∧ (s.answer kind tag a).line = s.line ∧ (s.answer kind tag a).click = s.click
      ∧ (s.answer kind tag a).meter = s.meter ∧ (s.answer kind tag a).pending = s.pending
      ∧ (s.answer kind tag a).cues.scenes = s.cues.scenes := by
  cases a with
  | done f => exact ⟨rfl, rfl, rfl, rfl, rfl, rfl, rfl, rfl, rfl, rfl⟩
  | data f => exact ⟨rfl, rfl, rfl, rfl, rfl, rfl, rfl, rfl, rfl, rfl⟩
  | retry r => exact ⟨rfl, rfl, rfl, rfl, rfl, rfl, rfl, rfl, rfl, rfl⟩
  | fail e => exact ⟨rfl, rfl, rfl, rfl, rfl, rfl, rfl, rfl, rfl, rfl⟩
  | wouldDefer job =>
    simp only [State.answer, State.deferRequest]
    split
    · exact ⟨rfl, rfl, rfl, rfl, rfl, rfl, rfl, rfl, rfl, rfl⟩
    · split
      · exact ⟨rfl, rfl, rfl, rfl, rfl, rfl, rfl, rfl, rfl, rfl⟩
      · split
        · exact ⟨rfl, rfl, rfl, rfl, rfl, rfl, rfl, rfl, rfl, rfl⟩
        · cases job <;> exact ⟨rfl, rfl, rfl, rfl, rfl, rfl, rfl, rfl, rfl, rfl⟩

/-! ## Notices: only the link and the count of choices change -/

/-- Raising a list of notices changes the link only. -/
theorem State.raiseAll_eq (ns : List Notice) : ∀ s : State, ns.foldl State.raise s = s.withLink (ns.foldl Link.pushNotice s.link) := by
  induction ns with
  | nil => intro s; rfl
  | cons n rest ih => intro s; simp only [List.foldl_cons]; rw [ih]; rfl

/-- Raising queues of notices queues some list of them and counts the choices. -/
theorem State.raiseQueues_eq (s : State) (queues : List (List NoticeGroup)) :
    ∃ (ns : List Notice) (d : Nat), s.raiseQueues queues = (s.withLink (ns.foldl Link.pushNotice s.link)).withDraws d := by
  refine ⟨(interleave (queues.map List.length).sum queues s.draws).1,
    (interleave (queues.map List.length).sum queues s.draws).2, ?_⟩
  simp only [State.raiseQueues]
  rw [State.raiseAll_eq]

end Sys2Proof.Machine
end

