-- ==== Sys2Proof/Laws/Boundary.lean ====
section
/-! SUPPORT. What the parts of a boundary leave unchanged: the closes of the windows, the deferred completions, the mixing of a
block; and the clock that a boundary leaves. -/

namespace Sys2Proof.Machine

/-! ## Windows: only the pack line, the link, the mixes and the count of choices change -/

/-- Two states agree in every block that a window's close does not touch. -/
structure WindowFrame (s t : State) : Prop where
  clock : t.clock = s.clock
  stage : t.stage = s.stage
  ring : t.ring = s.ring
  slots : t.slots = s.slots
  limiters : t.limiters = s.limiters
  cues : t.cues = s.cues
  click : t.click = s.click
  meter : t.meter = s.meter
  pending : t.pending = s.pending

theorem WindowFrame.refl (s : State) : WindowFrame s s := ⟨rfl, rfl, rfl, rfl, rfl, rfl, rfl, rfl, rfl⟩

theorem WindowFrame.trans {s t u : State} (h : WindowFrame s t) (k : WindowFrame t u) : WindowFrame s u :=
  ⟨k.clock.trans h.clock, k.stage.trans h.stage, k.ring.trans h.ring, k.slots.trans h.slots, k.limiters.trans h.limiters,
   k.cues.trans h.cues, k.click.trans h.click, k.meter.trans h.meter, k.pending.trans h.pending⟩

theorem State.withLine_window (s : State) (l : PackLine) : WindowFrame s (s.withLine l) := ⟨rfl, rfl, rfl, rfl, rfl, rfl, rfl, rfl, rfl⟩
theorem State.withMixes_window (s : State) (m : Table Mix 16) : WindowFrame s (s.withMixes m) :=
  ⟨rfl, rfl, rfl, rfl, rfl, rfl, rfl, rfl, rfl⟩
theorem State.raisePack_window (s : State) (n : Notice) : WindowFrame s (s.raisePack n) := by
  unfold State.raisePack; split <;> exact ⟨rfl, rfl, rfl, rfl, rfl, rfl, rfl, rfl, rfl⟩
theorem State.raiseQueues_window (s : State) (q : List (List NoticeGroup)) : WindowFrame s (s.raiseQueues q) := by
  obtain ⟨ns, d, h⟩ := State.raiseQueues_eq s q; rw [h]; exact ⟨rfl, rfl, rfl, rfl, rfl, rfl, rfl, rfl, rfl⟩

theorem State.refuseJoin_window (s : State) (k : Serial) (r : JoinRefusal) : WindowFrame s (s.refuseJoin k r) :=
  (State.withLine_window s _).trans (State.raisePack_window _ _)

theorem State.helloUnknown_window (s : State) (k : Serial) : WindowFrame s (s.helloUnknown k) := by
  unfold State.helloUnknown
  split
  · exact State.refuseJoin_window _ _ _
  · split
    · exact State.refuseJoin_window _ _ _
    · exact State.withLine_window _ _

theorem State.helloKnown_window (s : State) (k : Serial) (a : Fin 24) : WindowFrame s (s.helloKnown k a) := by
  unfold State.helloKnown
  split
  · exact State.refuseJoin_window _ _ _
  · split
    · exact State.withLine_window _ _
    · exact (State.withLine_window s _).trans (State.raisePack_window _ _)
    · exact State.withLine_window _ _

theorem State.hello_window (s : State) (k : Serial) : WindowFrame s (s.hello k) := by
  unfold State.hello
  split
  · exact State.helloKnown_window _ _ _
  · exact State.helloUnknown_window _ _

theorem State.collision_window (s : State) : WindowFrame s s.collision := by
  unfold State.collision
  split
  · exact State.withLine_window _ _
  · exact (State.withLine_window s _).trans (State.raisePack_window _ _)

theorem State.closeAnnounce_window (s : State) (heard : Option (List Byte)) : WindowFrame s (s.closeAnnounce heard) := by
  unfold State.closeAnnounce
  split
  · dsimp only
    refine (State.withLine_window s { s.line with announceOpen := false }).trans ?_
    split
    · exact State.withLine_window _ _
    · split
      · exact WindowFrame.trans (t := State.withLine _ _) (State.withLine_window _ _) (State.hello_window _ _)
      · exact State.collision_window _
  · exact WindowFrame.refl s

theorem State.decideRequest_window (s : State) (a : Fin 24) (k : Byte) (v : Int) (more : Bool) :
    WindowFrame s (s.decideRequest a k v more) := by
  unfold State.decideRequest
  split
  · exact State.withLine_window _ _
  · dsimp only
    split
    · exact State.withLine_window _ _
    · split
      · exact State.withLine_window _ _
      · exact (State.withMixes_window s _).trans (State.withLine_window _ _)

theorem State.closePoll_window (s : State) (a : Fin 24) (heard : Option (List Byte)) : WindowFrame s (s.closePoll a heard) := by
  unfold State.closePoll
  split
  · exact State.withLine_window _ _
  · split
    · exact State.withLine_window _ _
    · exact (State.withLine_window s _).trans (State.decideRequest_window _ _ _ _ _)
    · exact State.withLine_window _ _

theorem State.confirmFailed_window (s : State) (a : Fin 24) : WindowFrame s (s.confirmFailed a) := by
  unfold State.confirmFailed
  dsimp only
  split
  · exact State.withLine_window _ _
  · exact (State.withLine_window s _).trans (State.raisePack_window _ _)

theorem State.closeConfirm_window (s : State) (a : Fin 24) (heard : Option (List Byte)) :
    WindowFrame s (s.closeConfirm a heard) := by
  unfold State.closeConfirm
  split
  · exact (State.withLine_window s _).trans (State.confirmFailed_window _ _)
  · split
    · exact (State.withLine_window s _).trans (State.raisePack_window _ _)
    · exact (State.withLine_window s _).trans (State.confirmFailed_window _ _)

theorem State.decreasePresence_window (s : State) : WindowFrame s s.decreasePresence := by
  unfold State.decreasePresence
  dsimp only
  split
  · exact (State.withLine_window s _).trans (State.raiseQueues_window _ _)
  · exact State.withLine_window _ _

theorem State.closeGranted_window (s : State) (w : GrantWindow) (heard : Option (List Byte)) :
    WindowFrame s (s.closeGranted w heard) := by
  unfold State.closeGranted
  dsimp only
  refine WindowFrame.trans ?_ (State.withLine_window _ _)
  refine WindowFrame.trans ?_ (State.decreasePresence_window _)
  split
  · exact WindowFrame.refl s
  · split
    · exact State.closeConfirm_window _ _ _
    · exact State.closePoll_window _ _ _

theorem State.closeGrantedWindow_window (s : State) (heard : Option (List Byte)) :
    WindowFrame s (s.closeGrantedWindow heard) := by
  unfold State.closeGrantedWindow
  split
  · exact WindowFrame.refl s
  · exact (State.closeAnnounce_window s _).trans (State.closeGranted_window _ _ _)

/-- The close of every window before a boundary. -/
theorem State.closeWindows_window (s : State) : WindowFrame s s.closeWindows :=
  (State.closeAnnounce_window s _).trans (State.closeGrantedWindow_window _ _)

/-! ## Deferred completions: only the link, the mixes, the limiters and the cue slots change -/

/-- Two states agree in every block that a deferred completion does not touch. -/
structure ApplyFrame (s t : State) : Prop where
  clock : t.clock = s.clock
  stage : t.stage = s.stage
  ring : t.ring = s.ring
  slots : t.slots = s.slots
  scenes : t.cues.scenes = s.cues.scenes
  line : t.line = s.line
  click : t.click = s.click
  meter : t.meter = s.meter
  draws : t.draws = s.draws
  pending : t.pending = s.pending

theorem ApplyFrame.refl (s : State) : ApplyFrame s s := ⟨rfl, rfl, rfl, rfl, rfl, rfl, rfl, rfl, rfl, rfl⟩

theorem ApplyFrame.trans {s t u : State} (h : ApplyFrame s t) (k : ApplyFrame t u) : ApplyFrame s u :=
  ⟨k.clock.trans h.clock, k.stage.trans h.stage, k.ring.trans h.ring, k.slots.trans h.slots, k.scenes.trans h.scenes,
   k.line.trans h.line, k.click.trans h.click, k.meter.trans h.meter, k.draws.trans h.draws, k.pending.trans h.pending⟩

theorem State.withLink_apply (s : State) (l : Link) : ApplyFrame s (s.withLink l) :=
  ⟨rfl, rfl, rfl, rfl, rfl, rfl, rfl, rfl, rfl, rfl⟩

theorem State.applyCue_frame (s : State) (b : Fin 4) (w : CueWork) (mode : ApplyMode) (mask : MixMask) (m : ApplyAt) :
    ApplyFrame s (s.applyCue b w mode mask m).1 := by
  unfold State.applyCue
  dsimp only
  split <;> exact ⟨rfl, rfl, rfl, rfl, rfl, rfl, rfl, rfl, rfl, rfl⟩

theorem State.completeApply_frame (s : State) (d : Deferred) (p : State × ApplyOutcome)
    (h : ApplyFrame s p.1) : ApplyFrame s (p.1.withLink (p.1.link.complete d (applyResult p.2))) :=
  h.trans (State.withLink_apply _ _)

theorem State.completeEntry_frame (s : State) (m : BlockNo) (d : Deferred) : ApplyFrame s (s.completeEntry m d) := by
  obtain ⟨tag, job⟩ := d
  cases job with
  | stop => exact State.withLink_apply _ _
  | apply b mode mask =>
    unfold State.completeEntry
    dsimp only
    split
    · exact State.withLink_apply _ _
    · exact State.completeApply_frame s _ _ (State.applyCue_frame s b _ mode mask (.boundary m))

theorem State.completeDeferred_frame (s : State) (m : BlockNo) : ApplyFrame s (s.completeDeferred m) := by
  unfold State.completeDeferred
  have key : ∀ (l : List Deferred) (u : State), ApplyFrame u (l.foldl (fun s d => s.completeEntry m d) u) := by
    intro l
    induction l with
    | nil => intro u; exact ApplyFrame.refl u
    | cons d l ih => intro u; exact (State.completeEntry_frame u m d).trans (ih _)
  exact key _ s

/-! ## The mixing of a block -/

theorem State.endInterval_frame (s : State) :
    s.endInterval.link = s.link ∧ s.endInterval.clock = s.clock ∧ s.endInterval.stage = s.stage
      ∧ s.endInterval.ring = s.ring ∧ s.endInterval.mixes = s.mixes ∧ s.endInterval.cues = s.cues
      ∧ s.endInterval.line = s.line ∧ s.endInterval.click = s.click ∧ s.endInterval.pending = s.pending := by
  unfold State.endInterval
  split <;> exact ⟨rfl, rfl, rfl, rfl, rfl, rfl, rfl, rfl, rfl⟩

/-- What the mixing of block n leaves, and what it does to ring, pack line, click and mixes. -/
theorem State.mixBlock_fields (s before : State) (n : BlockNo) :
    (s.mixBlock before n).clock = s.clock ∧ (s.mixBlock before n).stage = s.stage ∧ (s.mixBlock before n).cues = s.cues
      ∧ (s.mixBlock before n).pending = s.pending ∧ (s.mixBlock before n).ring = s.ring.afterBlock n
      ∧ (s.mixBlock before n).click = s.click.afterBlock
      ∧ (s.mixBlock before n).mixes = (computeMixes (s.assemble n) s.click.blockSamples).map Computed.mix
      ∧ (s.mixBlock before n).line
          = s.line.sendFrame n ((computeMixes (s.assemble n) s.click.blockSamples).list.filterMap Computed.block) := by
  unfold State.mixBlock
  dsimp only
  have e := State.endInterval_frame
  refine ⟨?_, ?_, ?_, ?_, ?_, ?_, ?_, ?_⟩
  · rw [(e _).2.1, (State.raiseQueues_window _ _).clock]; rfl
  · rw [(e _).2.2.1, (State.raiseQueues_window _ _).stage]; rfl
  · rw [(e _).2.2.2.2.2.1, (State.raiseQueues_window _ _).cues]; rfl
  · rw [(e _).2.2.2.2.2.2.2.2, (State.raiseQueues_window _ _).pending]; rfl
  · rw [(e _).2.2.2.1, (State.raiseQueues_window _ _).ring]; rfl
  · rw [(e _).2.2.2.2.2.2.2.1, (State.raiseQueues_window _ _).click]; rfl
  · rw [(e _).2.2.2.2.1]
    obtain ⟨ns, d, h⟩ := State.raiseQueues_eq _ (boundaryQueues s.ring.rejects
      ((computeMixes (s.assemble n) (s.assemble n).click.blockSamples).map Computed.peak) before _)
    rw [h]; rfl
  · rw [(e _).2.2.2.2.2.2.1]
    obtain ⟨ns, d, h⟩ := State.raiseQueues_eq _ (boundaryQueues s.ring.rejects
      ((computeMixes (s.assemble n) (s.assemble n).click.blockSamples).map Computed.peak) before _)
    rw [h]; rfl

/-- The clock, the stream table, the scenes and the waiting commands after a boundary that mixes a block. -/
theorem State.mixingBoundary_frame (s : State) (c : Clock) (n : BlockNo) (r : Bool) :
    (s.mixingBoundary c n r).clock = c ∧ (s.mixingBoundary c n r).stage = s.stage
      ∧ (s.mixingBoundary c n r).cues.scenes = s.cues.scenes ∧ (s.mixingBoundary c n r).pending = s.pending := by
  unfold State.mixingBoundary
  dsimp only
  have m := State.mixBlock_fields
  have w := State.closeWindows_window s
  have d := State.completeDeferred_frame
  refine ⟨?_, ?_, ?_, ?_⟩
  · rw [(m _ _ _).1, (d _ _).clock]; rfl
  · rw [(m _ _ _).2.1, (d _ _).stage]; exact w.stage
  · rw [(m _ _ _).2.2.1, (d _ _).scenes]; exact congrArg Cues.scenes w.cues
  · rw [(m _ _ _).2.2.2.1, (d _ _).pending]; exact w.pending

/-- The state that the stopping boundary leaves, but for what completions did. -/
theorem State.stoppingBoundary_frame (s : State) (t : Time) (bySync : Bool) :
    (s.stoppingBoundary t bySync).clock.engine = .stopped ∧ (s.stoppingBoundary t bySync).clock.lastBlock = s.clock.lastBlock
      ∧ (s.stoppingBoundary t bySync).stage = s.stage ∧ (s.stoppingBoundary t bySync).cues.scenes = s.cues.scenes
      ∧ (s.stoppingBoundary t bySync).pending = s.pending ∧ (s.stoppingBoundary t bySync).ring.entries = []
      ∧ (s.stoppingBoundary t bySync).meter = s.meter := by
  have w := State.closeWindows_window s
  unfold State.stoppingBoundary
  dsimp only
  generalize hu : s.closeWindows.withClock _ = u
  have d := State.completeDeferred_frame u
  have hc : ∀ m, (u.completeDeferred m).clock.lastBlock = s.clock.lastBlock := by
    intro m
    have hl : u.clock.lastBlock = s.closeWindows.clock.lastBlock := by rw [← hu]; rfl
    rw [(d m).clock, hl, w.clock]
  refine ⟨rfl, hc _, ?_, ?_, ?_, rfl, ?_⟩
  · show (u.completeDeferred _).stage = _; rw [(d _).stage, ← hu]; exact w.stage
  · show (u.completeDeferred _).cues.scenes = _; rw [(d _).scenes, ← hu]; exact congrArg Cues.scenes w.cues
  · show (u.completeDeferred _).pending = _; rw [(d _).pending, ← hu]; exact w.pending
  · show (u.completeDeferred _).meter = _; rw [(d _).meter, ← hu]; exact w.meter

end Sys2Proof.Machine
end

