-- ==== Sys2Proof/Laws/Memory.lean ====
section
/-! SUPPORT. The page storage: every operation keeps its canonical form, the empty storage has it. -/

namespace Sys2Proof.Machine

theorem storageWf_nil : storageWf [] = true := rfl

theorem storageWf_cons_iff (a : Nat) (v : Byte) (rest : List Host.Cell) :
    storageWf ((a, v) :: rest) = true ↔
      a < Config.ringBytes ∧ v ≠ 0 ∧ (∀ c ∈ rest.head?, a < c.1) ∧ storageWf rest = true := by
  cases rest with
  | nil => simp [storageWf]
  | cons c rest =>
    obtain ⟨b, w⟩ := c
    constructor
    · intro h
      simp only [storageWf, Bool.and_eq_true, decide_eq_true_eq, bne_iff_ne, ne_eq] at h
      refine ⟨?_, h.1.2, by simpa using h.1.1, h.2⟩
      have key : ∀ (l : List Host.Cell) (b : Nat) (w : Byte), storageWf ((b, w) :: l) = true → b < Config.ringBytes := by
        intro l
        induction l with
        | nil => intro b w hb; simp [storageWf] at hb; exact hb.1
        | cons d l ih =>
          intro b w hb
          obtain ⟨e, x⟩ := d
          simp only [storageWf, Bool.and_eq_true, decide_eq_true_eq] at hb
          exact lt_trans hb.1.1 (ih e x hb.2)
      exact lt_trans h.1.1 (key rest b w h.2)
    · rintro ⟨-, hv, hlt, hr⟩
      simp only [storageWf, Bool.and_eq_true, decide_eq_true_eq, bne_iff_ne, ne_eq]
      exact ⟨⟨by simpa using hlt, hv⟩, hr⟩

theorem writeByte_head (i : Nat) (b : Byte) (k : Nat) :
    ∀ (mem : List Host.Cell), k < i → (∀ c ∈ mem.head?, k < c.1) → storageWf mem = true →
      ∀ c ∈ (writeByte mem i b).head?, k < c.1 := by
  intro mem hk hm hw
  cases mem with
  | nil =>
    intro c hc
    simp only [writeByte] at hc
    split at hc
    · simp at hc
    · simp at hc; subst hc; exact hk
  | cons d rest =>
    obtain ⟨a, v⟩ := d
    have ha : k < a := by simpa using hm
    have hr := (storageWf_cons_iff a v rest).1 hw
    intro c hc
    simp only [writeByte] at hc
    split at hc
    · split at hc
      · simp at hc; subst hc; exact ha
      · simp at hc; subst hc; exact hk
    · split at hc
      · split at hc
        · exact lt_trans ha (hr.2.2.1 c hc)
        · simp at hc; subst hc; exact hk
      · simp at hc; subst hc; exact ha

/-- A write keeps the canonical form. -/
theorem writeByte_wf (i : Nat) (b : Byte) (hi : i < Config.ringBytes) :
    ∀ (mem : List Host.Cell), storageWf mem = true → storageWf (writeByte mem i b) = true := by
  intro mem
  induction mem with
  | nil =>
    intro _
    simp only [writeByte]
    split
    · rfl
    · rename_i hb
      exact (storageWf_cons_iff _ _ _).2 ⟨hi, hb, by simp, rfl⟩
  | cons d rest ih =>
    obtain ⟨a, v⟩ := d
    intro hw
    have h := (storageWf_cons_iff a v rest).1 hw
    simp only [writeByte]
    split
    · split
      · exact hw
      · rename_i hlt hb
        exact (storageWf_cons_iff _ _ _).2 ⟨hi, hb, by simpa using hlt, hw⟩
    · split
      · split
        · exact h.2.2.2
        · rename_i heq hb
          subst heq
          exact (storageWf_cons_iff _ _ _).2 ⟨hi, hb, h.2.2.1, h.2.2.2⟩
      · rename_i hnlt hne
        have hlt : a < i := by omega
        exact (storageWf_cons_iff _ _ _).2
          ⟨h.1, h.2.1, writeByte_head i b a rest hlt h.2.2.1 h.2.2.2, ih h.2.2.2⟩

theorem ringAddress_lt (start i : Nat) : ringAddress start i < Config.ringBytes :=
  Nat.mod_lt _ (by decide)

/-- Writing bytes round the circle keeps the canonical form. -/
theorem writeBytes_wf (bytes : List Byte) :
    ∀ (mem : List Host.Cell) (start : Nat), storageWf mem = true → storageWf (writeBytes mem start bytes) = true := by
  induction bytes with
  | nil => intro mem start h; exact h
  | cons b rest ih =>
    intro mem start h
    exact ih _ _ (writeByte_wf _ _ (ringAddress_lt start 0) mem h)

/-- An address below every listed one reads 0. -/
theorem readByte_below (i : Nat) :
    ∀ (mem : List Host.Cell), storageWf mem = true → (∀ c ∈ mem.head?, i < c.1) → readByte mem i = 0 := by
  intro mem
  induction mem with
  | nil => intro _ _; rfl
  | cons d rest ih =>
    obtain ⟨a, v⟩ := d
    intro hw hlt
    have h := (storageWf_cons_iff a v rest).1 hw
    have ha : i < a := by simpa using hlt
    rw [readByte, if_neg (by omega)]
    exact ih h.2.2.2 fun c hc => lt_trans ha (h.2.2.1 c hc)

end Sys2Proof.Machine
end

