-- ==== Sys2Proof/Laws/Table.lean ====
section
/-! SUPPORT. What the operations of a table of records read back. -/

namespace Sys2Proof.Machine

variable {α β γ : Type} {n : Nat}

@[simp] theorem Table.get_set_same (t : Table α n) (i : Fin n) (v : α) : (t.set i v).get i = v := by
  simp [Table.get, Table.set]

theorem Table.get_set_ne (t : Table α n) {i j : Fin n} (v : α) (h : j ≠ i) : (t.set i v).get j = t.get j := by
  have : i.val ≠ j.val := fun e => h (Fin.ext e.symm)
  simp [Table.get, Table.set, this]

theorem Table.get_set (t : Table α n) (i j : Fin n) (v : α) : (t.set i v).get j = if j = i then v else t.get j := by
  by_cases h : j = i
  · subst h; simp
  · rw [if_neg h, Table.get_set_ne t v h]

theorem Table.get_modify (t : Table α n) (i j : Fin n) (f : α → α) :
    (t.modify i f).get j = if j = i then f (t.get i) else t.get j := by
  unfold Table.modify; exact Table.get_set t i j _

@[simp] theorem Table.get_fill (v : α) (i : Fin n) : (Table.fill v : Table α n).get i = v := by
  simp [Table.get, Table.fill]

@[simp] theorem Table.get_map (f : α → β) (t : Table α n) (i : Fin n) : (t.map f).get i = f (t.get i) := by
  simp [Table.get, Table.map]

@[simp] theorem Table.get_tabulate (f : Fin n → α) (i : Fin n) : (Table.tabulate f).get i = f i := by
  simp [Table.get, Table.tabulate]

@[simp] theorem Table.get_zipWith (f : α → β → γ) (t : Table α n) (u : Table β n) (i : Fin n) :
    (Table.zipWith f t u).get i = f (t.get i) (u.get i) := by
  simp [Table.get, Table.zipWith]

theorem Table.ext_get {t u : Table α n} (h : ∀ i, t.get i = u.get i) : t = u := by
  have hl : t.list = u.list := by
    apply List.ext_getElem (by rw [t.len, u.len])
    intro k h1 h2
    exact h ⟨k, by rw [← t.len]; exact h1⟩
  cases t; cases u; cases hl; rfl

theorem Table.mem_iff (t : Table α n) (x : α) : x ∈ t.list ↔ ∃ i, t.get i = x := by
  constructor
  · intro h
    obtain ⟨k, hk, e⟩ := List.getElem_of_mem h
    exact ⟨⟨k, by rw [← t.len]; exact hk⟩, e⟩
  · rintro ⟨i, rfl⟩
    exact List.getElem_mem _

/-- Two updates of one record. -/
theorem Table.set_set (t : Table α n) (i : Fin n) (v w : α) : (t.set i v).set i w = t.set i w :=
  Table.ext_get fun j => by simp only [Table.get_set]; split <;> rfl

end Sys2Proof.Machine
end

