-- ==== Sys2Proof/Tests/Slice0.lean ====
section
/-! SUPPORT. Tests: the checks of WellFormed, decoding from written bytes, single steps against values of the spec, and for
each statement of Certificates/Slice0/Obligations.lean that has hypotheses one theorem whose parts show states and operands
that meet them, clause by clause (`witness_<statement>`). -/

namespace Sys2Proof.Tests

open Sys2Proof Sys2Proof.Machine

-- One declaration after the other: each kernel evaluation would otherwise take a thread of its own.
set_option Elab.async false

/-! ## Small states -/

/-- The state that a command leaves. -/
def after (c : Instr) (s : State) : State :=
  match exec c s with
  | .next t => t
  | _ => s

/-- 48000 Hz, lag 2, sync stream 1. -/
def fmt : Format := { rate := .r48000, lag := 2, syncId := 1 }

/-- The clock in an engine state with the format. -/
def clockIn (e : EngineState) : Clock := { Clock.reset with engine := e, format := some fmt }

/-- The clock of a mixing engine: M = 100, last boundary at 8000. -/
def clockMixing (e : EngineState) : Clock :=
  { clockIn e with lastBlock := some 100, lastBoundary := some 8000
                   timer := some (if e = .running then 16000 else 12000)
                   unlocked := e == .holdover
                   spell := if e = .holdover then some { cause := .holdover, holdovers := 1, jumps := 0, lastJump := none } else none }

def stopped : State := State.reset.withClock (clockIn .stopped)
def armed : State := State.reset.withClock (clockIn .armed)
def running : State := State.reset.withClock (clockMixing .running)
def holdover : State := State.reset.withClock (clockMixing .holdover)

/-- A deferred STOP with tag 7, pending. -/
def deferredStop : Deferred := { tag := 7, job := .stop }
def stopping (s : State) : State :=
  (s.withLink { s.link with deferred := [deferredStop] }).withClock { s.clock with stopPending := true }

/-- n deferred applies of cue slot 0, with tags from 100 on. -/
def applies (n : Nat) (s : State) : State :=
  s.withLink { s.link with deferred := (List.range n).map fun k => { tag := BitVec.ofNat 8 (100 + k), job := .apply 0 .cut 1 } }

/-- n replies in the queue. -/
def reply : Reply := { code := .done, tag := 1, kind := 4, fields := [] }
def replies (n : Nat) (s : State) : State :=
  s.withLink { s.link with replies := List.replicate n reply, tx := if n = 0 then .idle else .reply, hold := decide (12 ≤ n) }

/-- n notices in the queue. -/
def notice : Notice := { event := .enter, subject := none, block := none, info := .clock none }
def notices (n : Nat) (s : State) : State :=
  s.withLink { s.link with notices := List.replicate n notice, tx := if n = 0 then .idle else .notice }

/-- Stream record i bound to an id with channels. -/
def stream (i : Fin 8) (id : StreamId) (channels : Nat) (damaged : Bool) (s : State) : State :=
  let r : Stream := { Stream.unbound with bound := true, id := id, channels := channels, acceptDamaged := damaged }
  s.withStage { s.stage with streams := s.stage.streams.set i r }

/-- All eight stream records bound, with ids 16 to 23. -/
def streamsFull (s : State) : State :=
  s.withStage { s.stage with streams := Table.tabulate fun i =>
    { Stream.unbound with bound := true, id := BitVec.ofNat 24 (16 + i.val), channels := 1 } }

/-- Slot k bound to channel 0 of stream record i. -/
def slot (k : Fin 48) (i : Fin 8) (s : State) : State :=
  s.withSlots (s.slots.set k { Slot.unbound with bound := true, stream := i })

/-- A send on slot k, ACTIVE or REMOVING, as a MONO mix without offsets holds it. -/
def send (k : Fin 48) (removing : Bool) : Send :=
  { slot := k, level := 112, balance := 0, self := false, mute := false, removing := removing, currentLeft := 1000,
    currentRight := 0, targetLeft := if removing then 0 else 65536, targetRight := 0 }

/-- A mix in a state with sends. -/
def mix (st : MixState) (sends : List Send) : Mix :=
  { Mix.default with state := st, sends := sends
                     masterCurrent := if st = .off then 0 else 500
                     masterTarget := if st = .on then 65536 else 0 }

/-- Mix i replaced. -/
def withMix (i : Fin 16) (m : Mix) (s : State) : State := s.withMixes (s.mixes.set i m)

/-- n sends on the slots from 0 on. -/
def sendsTo (n : Nat) : List Send := ((List.finRange 48).take n).map (send · false)

/-- Cue slot 0 on row 2, OPEN or APPLYING, its copy at the defaults but for n sends of entry 0. -/
def copyWith (n : Nat) : Scene :=
  (Table.fill MixEntry.default).set 0 { MixEntry.default with
    sends := ((List.finRange 48).take n).map fun k => { slot := k, level := 112, balance := 0, self := false, mute := false } }
def work (applying : Bool) (n : Nat) : CueWork :=
  { applying := applying, row := 2, edited := true, copy := copyWith n, last := none }
def cue (w : CueWork) (s : State) : State := s.withCues { s.cues with slots := s.cues.slots.set 0 (some w) }

/-- A pack in a state, with serial 9. -/
def pack (st : PackState) : Pack :=
  match st with
  | .free => Pack.freeWith PackCounters.zero
  | .joining => { Pack.freeWith PackCounters.zero with state := .joining, serial := 9, offerSent := true, ticks := 1 }
  | .present => { Pack.freeWith PackCounters.zero with state := .present, serial := 9, presence := 127 }
  | .lost => { Pack.freeWith PackCounters.zero with state := .lost, serial := 9, presence := 63 }

def withPack (a : Fin 24) (p : Pack) (s : State) : State := s.withLine { s.line with packs := s.line.packs.set a p }

/-- The owner of a mix. -/
def owner (m : Fin 16) : Pack := { pack .present with mix := some m, role := .owner }

/-- n urgent messages for address 5. -/
def queueOf (n : Nat) (s : State) : State :=
  s.withLine { s.line with queue := List.replicate n { address := 4, urgent := true, message := .removed, age := 0 } }

def announcing (s : State) : State := s.withLine { s.line with announceOpen := true }
def window (confirm : Bool) (a : Fin 24) (s : State) : State :=
  s.withLine { s.line with window := some { confirm := confirm, address := a, freed := false } }

/-! ## Frames -/

/-- A stage frame with its check word. -/
def checked (body : List Byte) : List Byte := body ++ be2 (checkWord body)

/-- A sync frame of stream 1 with block number b below 256. -/
def sync (b : Byte) : List Byte := checked [2, 0, 0, 1, 0, b]

/-- An audio frame of stream 5 with one channel: its block in two bytes, each sample 0x010203. -/
def audioAt (high low : Byte) : List Byte :=
  checked ([1, 0, 0, 5, high, low, 0, 1] ++ (List.replicate 16 [(1 : Byte), 2, 3]).flatten)
def audio (b : Byte) : List Byte := audioAt 0 b

/-- The same frame with a wrong check word. -/
def audioDamaged (b : Byte) : List Byte := (audio b).take 56 ++ [0, 0]

/-- A HELLO and a CONFIRM with serial 9, a NOTHING without flags, a VOLUME request of +1. -/
def hello : List Byte := checked [1, 0, 0, 0, 9]
def confirm : List Byte := checked [2, 0, 0, 0, 9]
def nothing : List Byte := checked [3, 0]
def volumeUp : List Byte := checked [4, 1, 1, 0]

/-- Stream 5 with one channel in record 0, while the engine mixes. -/
def listening : State := stream 0 5 1 false running

/-! ## WellFormed refuses what is not of its row -/

theorem test_wellFormed_unknownKind_known : wellFormed (.unknownKindRequest 0x01 1 [0]) = false := by decide
theorem test_wellFormed_unknownKind_noField : wellFormed (.unknownKindRequest 0x99 1 []) = false := by decide
theorem test_wellFormed_request_noField : wellFormed (.ident 1 []) = false := by decide
theorem test_wellFormed_request_tooLong : wellFormed (.packText 1 (List.replicate 249 0x41)) = false := by decide +kernel
theorem test_wellFormed_live_target : wellFormed (.mixSetLive 1 [1, 0, 0, 1, 0, 112, 112, 1, 0, 0]) = false
    ∧ wellFormed (.addSendLive 1 [1]) = false ∧ wellFormed (.setSendLive 1 [1]) = false
    ∧ wellFormed (.removeSendLive 1 [1]) = false := by decide
theorem test_wellFormed_cue_target : wellFormed (.mixSetCue 1 [0, 0, 0, 1, 0, 112, 112, 1, 0, 0]) = false
    ∧ wellFormed (.addSendCue 1 [0]) = false ∧ wellFormed (.setSendCue 1 [2]) = false
    ∧ wellFormed (.removeSendCue 1 []) = false := by decide
theorem test_wellFormed_frame_type : wellFormed (.syncFrame 0 (audio 1)) = false ∧ wellFormed (.audioFrame 0 (sync 1)) = false
    ∧ wellFormed (.malformedStageFrame 0 (sync 1)) = false ∧ wellFormed (.audioFrame 0 [1, 0]) = false := by decide
theorem test_wellFormed_accepts : wellFormed (.ident 1 [0]) = true ∧ wellFormed (.syncFrame 0 (sync 1)) = true
    ∧ wellFormed (.audioFrame 0 (audio 1)) = true ∧ wellFormed (.malformedStageFrame 0 [1]) = true
    ∧ wellFormed .powerOn = true := by decide

/-! ## Bodies written out from R212, one or more of each family -/

theorem test_decode_link : decodeBody [0x01, 9, 0] = some (.ident 9 [0]) ∧ decodeBody [0x02, 9, 0] = some (.status 9 [0])
    ∧ decodeBody [0x03, 9, 0] = some (.reset 9 [0]) ∧ decodeBody [0x04, 9, 2, 4] = some (.noticeSet 9 [2, 4]) := by decide
theorem test_decode_clock : decodeBody [0x10, 9, 0, 0, 0xBB, 0x80, 2, 0, 0, 1] = some (.format 9 [0, 0, 0xBB, 0x80, 2, 0, 0, 1])
    ∧ decodeBody [0x11, 9, 0] = some (.start 9 [0]) ∧ decodeBody [0x12, 9, 0] = some (.stop 9 [0]) := by decide
theorem test_decode_stage : decodeBody [0x20, 9, 0xFF, 0, 0, 5, 1, 0] = some (.bindStream 9 [0xFF, 0, 0, 5, 1, 0])
    ∧ decodeBody [0x24, 9, 7] = some (.queryStream 9 [7]) := by decide
theorem test_decode_slots : decodeBody [0x28, 9, 47, 0, 0, 1, 0] = some (.bindSlot 9 [47, 0, 0, 1, 0])
    ∧ decodeBody [0x2A, 9, 47] = some (.unbindSlot 9 [47]) := by decide
theorem test_decode_mixes : decodeBody [0x31, 9, 0, 0, 3, 4, 112, 0, 0, 0] = some (.addSendLive 9 [0, 0, 3, 4, 112, 0, 0, 0])
    ∧ decodeBody [0x31, 9, 1, 2, 3, 4, 112, 0, 0, 0] = some (.addSendCue 9 [1, 2, 3, 4, 112, 0, 0, 0])
    ∧ decodeBody [0x34, 9, 15, 0xF0, 0, 16, 1] = some (.setTrim 9 [15, 0xF0, 0, 16, 1]) := by decide
theorem test_decode_cues : decodeBody [0x43, 9, 0, 1] = some (.closeCue 9 [0, 1])
    ∧ decodeBody [0x44, 9, 3, 0, 0x80, 1] = some (.applyCue 9 [3, 0, 0x80, 1]) := by decide
theorem test_decode_packs : decodeBody [0x52, 9, 24, 0x48, 0x69] = some (.packText 9 [24, 0x48, 0x69])
    ∧ decodeBody [0x53, 9, 0] = some (.queryPack 9 [0]) := by decide
theorem test_decode_click_meters : decodeBody [0x5A, 9, 0] = some (.clickStop 9 [0])
    ∧ decodeBody [0x61, 9, 8, 24, 1] = some (.queryCounters 9 [8, 24, 1])
    ∧ decodeBody [0x62, 9, 0] = some (.unknownKindRequest 0x62 9 [0]) := by decide
theorem test_linkFrame_ident : linkFrame [0x01, 1, 0] = [0xC3, 3, 0x01, 1, 0, 0xFB] := by decide

/-! ## Single steps against the spec's values -/

theorem test_reset_storage : storageWf State.reset.ring.pages = true := by decide
theorem test_step_takes_front : step (State.reset.withPending [.start 1 [0]]) = exec (.start 1 [0]) State.reset := rfl
theorem test_start_unformatted : (after (.start 1 [0]) State.reset).link.replies
    = [{ code := .fail, tag := 1, kind := 0x11, fields := [5] }] := by decide +kernel
theorem test_format_enters_stopped : (after (.format 1 [0, 0, 0xBB, 0x80, 2, 0, 0, 1]) State.reset).clock = clockIn .stopped := by
  decide +kernel
theorem test_first_boundary : (after (.syncFrame 50 (sync 7)) armed).clock.lastBlock = some 5
    ∧ (after (.syncFrame 50 (sync 7)) armed).clock.timer = some 8050 := by decide +kernel
theorem test_relock_jump : (after (.syncFrame 12000 (sync 90)) running).clock.lastBlock = some 88
    ∧ (after (.syncFrame 12000 (sync 90)) running).clock.spell
      = some { cause := .relock, holdovers := 0, jumps := 1, lastJump := some (-13) } := by decide +kernel
theorem test_watch_expiry : (after .syncWatchExpiry running).clock.engine = .holdover
    ∧ (after .syncWatchExpiry running).clock.timer = some 20000 := by decide +kernel
theorem test_audio_stored : (after (.audioFrame 0 (audio 108)) listening).ring.entries.map RingEntry.pages = [1]
    ∧ (after (.audioFrame 0 (audio 108)) listening).ring.head = 1 := by decide +kernel
theorem test_audio_ahead : ((after (.audioFrame 0 (audio 109)) listening).stage.streams.get 0).counters.ahead = 1 := by
  decide +kernel
theorem test_eight_channels_pages : pagesFor 8 = 7 ∧ pagesFor 1 = 1 ∧ pagesFor 2 = 2 := by decide
theorem test_invert : invertSample (-8388608) = 8388607 ∧ invertSample 8388607 = -8388607 := by decide
theorem test_gains : gainOf 100 = 23170 ∧ gainOf 103 = 30048 ∧ gainOf 119 = 120194 ∧ gainOf 3 = 5 := by decide +kernel
theorem test_ceilings : ceilingOf 64 = 131071 ∧ ceilingOf 100 = 2965759 ∧ ceilingOf 108 = 5931647 := by decide +kernel
theorem test_effective_code : effectiveCode { Mix.default with others := -16 } { send 0 false with level := 3 } = 1
    ∧ effectiveCode { Mix.default with others := 16 } { send 0 false with level := 120 } = 127 := by decide +kernel
theorem test_glide_ends : glide 100 103 = 103 ∧ glide 100 0 = 75 ∧ glide 0 65536 = 16384 := by decide +kernel
theorem test_limiter_gain : limiterGain 65536 256 8388607 16777214 = 32768 ∧ limiterGain 32768 256 8388607 0 = 33024 := by
  decide +kernel
theorem test_click_added : clickAdd 127 (some 2097152) = 7692416 ∧ clickAdd 112 (some (-2097152)) = -2097152 := by
  decide +kernel
theorem test_burst_half_periods : burstSample { position := 16, accent := true } = -2097152
    ∧ burstSample { position := 16, accent := false } = 2097152 ∧ burstSample { position := 240, accent := false } = 2097152 := by
  decide
theorem test_store_scene : (after (.storeCue 1 [0]) (cue (work false 1) State.reset)).cues.scenes.get 2 = some (copyWith 1) := by
  decide +kernel
theorem test_hello_joins : ((after (.announceWindowClose (some hello)) (announcing running)).line.packs.get 0).state = .joining := by
  decide +kernel
theorem test_confirm_joins :
    ((after (.grantedWindowClose (some confirm)) (window true 3 (withPack 3 (pack .joining) running))).line.packs.get 3).presence
      = 126 := by decide +kernel
theorem test_presence_64_is_lost :
    ((after (.grantedWindowClose none)
      (window false 3 (withPack 3 { pack .present with presence := 64 } running))).line.packs.get 3).state = .lost := by
  decide +kernel
theorem test_meter_set_clamps : (after (.meterSet 1 [1, 0xFF, 0xFF]) State.reset).meter.countdown = 1024 := by decide +kernel

/-! ## Witnesses: link -/

/-- A frame in assembly, with 3 bytes declared, in each receive state; the last byte came at time 0. -/
def receiving (phase : RxPhase) : State :=
  State.reset.withLink { Link.reset with rx := match phase with
    | .hunt => Receiver.reset
    | .length => { Receiver.reset with phase := .length }
    | .body => { phase := .body, declared := 3, body := [1, 7], sum := 11, lastAt := 0 }
    | .check => { phase := .check, declared := 3, body := [1, 7, 0], sum := 11, lastAt := 0 } }

theorem witness_StepTakesFront : State.reset.pending = [] := by decide

theorem witness_LinkBytesAssembleFrames :
    ((receiving .hunt).link.gapExpired 24001 = false ∧ (receiving .hunt).link.rx.phase = .hunt
        ∧ (0xC2 : Byte) ≠ 0xC3 ∧ (0xC3 : Byte) = 0xC3)
      ∧ ((receiving .length).link.gapExpired 24000 = false ∧ (receiving .length).link.rx.phase = .length
        ∧ 3 ≤ (3 : Byte).toNat ∧ (250 : Byte).toNat ≤ 250 ∧ (2 : Byte).toNat < 3 ∧ 250 < (251 : Byte).toNat)
      ∧ ((receiving .body).link.gapExpired 24000 = false ∧ (receiving .body).link.rx.phase = .body)
      ∧ ((receiving .check).link.gapExpired 24000 = false ∧ (receiving .check).link.rx.phase = .check
        ∧ ((receiving .check).link.rx.sum + (245 : Byte).toNat) % 256 = 0
        ∧ ((receiving .check).link.rx.sum + (244 : Byte).toNat) % 256 ≠ 0) := by
  and_intros <;> decide +kernel

theorem witness_GapDiscardsFrame : (receiving .length).link.rx.phase ≠ .hunt ∧ (receiving .body).link.rx.phase ≠ .hunt
    ∧ (receiving .check).link.rx.phase ≠ .hunt ∧ (receiving .hunt).link.rx.phase = .hunt
    ∧ (receiving .check).link.rx.lastAt + 24000 < 24001 := by
  and_intros <;> decide +kernel

theorem witness_QueuesAndTransmitter :
    ((notices 63 State.reset).link.Sound ∧ (notices 63 State.reset).link.notices.length < 64)
      ∧ ((notices 64 State.reset).link.Sound ∧ (notices 64 State.reset).link.notices.length = 64)
      ∧ ((replies 16 State.reset).link.Sound ∧ (replies 16 State.reset).link.tx = .reply
        ∧ (replies 16 State.reset).link.replies = reply :: List.replicate 15 reply)
      ∧ ((notices 1 State.reset).link.Sound ∧ (notices 1 State.reset).link.tx = .notice
        ∧ (notices 1 State.reset).link.notices = [notice])
      ∧ (State.reset.link.Sound ∧ State.reset.link.tx = .idle) := by
  and_intros <;> decide +kernel

theorem witness_RequestTestsInOrder :
    (wellFormed (.ident 1 [0]) = true ∧ kindOf (.ident 1 [0]) = some 0x01 ∧ tagAndFields (.ident 1 [0]) = some (1, [0])
        ∧ (replies 16 State.reset).link.free = 0)
      ∧ (wellFormed (.unknownKindRequest 0x99 0 [0]) = true ∧ 1 ≤ (replies 15 State.reset).link.free
        ∧ admittedLengths 0x99 = [])
      ∧ (wellFormed (.ident 0 [0]) = true ∧ 1 ≤ (replies 15 State.reset).link.free ∧ admittedLengths 0x01 ≠ [])
      ∧ (wellFormed (.ident 255 [0, 0]) = true ∧ (255 : Byte) ≠ 0 ∧ [(0 : Byte), 0].length + 2 ∉ admittedLengths 0x01)
      ∧ (wellFormed (.ident 7 [0]) = true ∧ 1 ≤ (stopping running).link.free ∧ [(0 : Byte)].length + 2 ∈ admittedLengths 0x01
        ∧ (stopping running).link.holdsTag 7 = true)
      ∧ (wellFormed (.ident 1 [1]) = true ∧ State.reset.Admits 1 ∧ [(1 : Byte)].length = 1 ∧ (0x01 : Byte) ∈ zeroFieldKinds
        ∧ [(1 : Byte)] ≠ [0]) := by
  and_intros <;> decide +kernel

/-- The requests' own tests are reached: any tag passes in an empty link, tags 1 and 255 with one free entry, and a tag that no
deferred entry holds. -/
theorem witness_admits : State.reset.Admits 1 ∧ State.reset.Admits 255 ∧ (replies 15 State.reset).Admits 1
    ∧ (stopping running).Admits 6 := by
  and_intros <;> decide +kernel

theorem witness_IdentReports : (replies 15 State.reset).Admits 255 := by
  and_intros <;> decide +kernel
theorem witness_ResetRequest : (stopping running).Admits 1 := by
  and_intros <;> decide +kernel

theorem witness_NoticeSettingsAndEvents : State.reset.Admits 1
    ∧ (sensitivity? 0 = some .off ∧ (1 : Byte) = 1) ∧ (sensitivity? 4 = some .enterHeld ∧ (2 : Byte) = 2)
    ∧ (sensitivity? 3 = some .both ∧ (3 : Byte) = 3 ∧ (4 : Byte) = 4) ∧ (flag? 0 = some false ∧ flag? 1 = some true)
    ∧ ((0 : Byte).toNat = 0 ∧ 6 ≤ (6 : Byte).toNat) ∧ ((4 : Byte).toNat ≤ 4 ∧ 5 ≤ (5 : Byte).toNat) ∧ 2 ≤ (2 : Byte).toNat := by
  and_intros <;> decide +kernel

/-! ## Witnesses: engine and clock -/

/-- The value test of FORMAT. -/
abbrev formatFit (s : State) (hertz lag : Nat) (id : StreamId) : Prop :=
  (hertz = 48000 ∨ hertz = 96000) ∧ 1 ≤ lag ∧ lag ≤ 4 ∧ id ≠ 0xFFFFFF
    ∧ ∀ i, (s.stage.streams.get i).bound = true → (s.stage.streams.get i).id ≠ id

theorem witness_FormatStartStop :
    (State.reset.Admits 1 ∧ ¬ formatFit State.reset 48001 1 1 ∧ ¬ formatFit State.reset 48000 5 1
        ∧ ¬ formatFit (stream 7 5 1 false State.reset) 96000 4 5)
      ∧ (armed.Admits 1 ∧ formatFit armed 96000 4 0 ∧ ¬ (armed.clock.engine = .unformatted ∨ armed.clock.engine = .stopped))
      ∧ ((cue (work false 0) stopped).Admits 1 ∧ formatFit (cue (work false 0) stopped) 48000 1 1
        ∧ (cue (work false 0) stopped).clock.engine = .stopped ∧ ∃ b, (cue (work false 0) stopped).cues.slots.get b ≠ none)
      ∧ (State.reset.clock.engine = .unformatted ∧ formatFit State.reset 48000 1 1 ∧ ∀ b, State.reset.cues.slots.get b = none)
      ∧ (stopped.Admits 1 ∧ stopped.clock.engine = .stopped) ∧ (armed.clock.engine = .armed)
      ∧ (running.Admits 1 ∧ running.clock.engine = .running ∧ ¬ ∃ d ∈ running.link.deferred, d.job = .stop)
      ∧ (holdover.Admits 1 ∧ holdover.clock.engine = .holdover)
      ∧ ((stopping running).Admits 1 ∧ ∃ d ∈ (stopping running).link.deferred, d.job = .stop)
      ∧ ((applies 8 running).Admits 1 ∧ 8 ≤ (applies 8 running).link.deferred.length
        ∧ ¬ ∃ d ∈ (applies 8 running).link.deferred, d.job = .stop)
      ∧ ((replies 15 running).Admits 1 ∧ (replies 15 running).link.free < 2)
      ∧ ((replies 14 running).Admits 1 ∧ (replies 14 running).link.deferred.length < 8 ∧ 2 ≤ (replies 14 running).link.free) := by
  and_intros <;> decide +kernel

/-- A sync frame that passes the stage port, of the sync stream of `fmt` or of another. -/
theorem witness_sync_frames : ((sync 103).length = 8 ∧ byteAt (sync 103) 0 = 2 ∧ checkHolds (sync 103) = true
      ∧ frameId (sync 103) = fmt.syncId ∧ frameBlock (sync 103) = 103)
    ∧ ((checked [2, 0, 0, 2, 0, 1]).length = 8 ∧ checkHolds (checked [2, 0, 0, 2, 0, 1]) = true
      ∧ frameId (checked [2, 0, 0, 2, 0, 1]) ≠ fmt.syncId) := by
  and_intros <;> decide +kernel

theorem witness_CountedSyncFrames :
    ((sync 103).length = 8 ∧ byteAt (sync 103) 0 = 2 ∧ checkHolds (sync 103) = true ∧ State.reset.clock.engine = .unformatted
        ∧ stopped.clock.engine = .stopped)
      ∧ ((checked [2, 0, 0, 2, 0, 1]).length = 8 ∧ byteAt (checked [2, 0, 0, 2, 0, 1]) 0 = 2
        ∧ checkHolds (checked [2, 0, 0, 2, 0, 1]) = true ∧ frameId (checked [2, 0, 0, 2, 0, 1]) ≠ fmt.syncId
        ∧ (armed.clock.format = some fmt ∧ armed.clock.engine = .armed)
        ∧ (running.clock.format = some fmt ∧ running.clock.engine = .running)
        ∧ (holdover.clock.format = some fmt ∧ holdover.clock.engine = .holdover)) := by
  and_intros <;> decide +kernel

theorem witness_EarlySync :
    ((sync 103).length = 8 ∧ byteAt (sync 103) 0 = 2 ∧ checkHolds (sync 103) = true ∧ frameId (sync 103) = fmt.syncId)
      ∧ (running.clock.format = some fmt ∧ running.clock.lastBoundary = some 8000 ∧ running.clock.engine = .running
        ∧ 9999 < 8000 + 2000 ∧ 10000 = 8000 + 2000)
      ∧ (holdover.clock.format = some fmt ∧ holdover.clock.lastBoundary = some 8000 ∧ holdover.clock.engine = .holdover) := by
  and_intros <;> decide +kernel

theorem witness_SyncBoundaries :
    ((sync 103).length = 8 ∧ byteAt (sync 103) 0 = 2 ∧ checkHolds (sync 103) = true ∧ frameId (sync 103) = fmt.syncId)
      ∧ (armed.clock.format = some fmt ∧ armed.clock.engine = .armed)
      ∧ (running.clock.format = some fmt ∧ running.clock.engine = .running ∧ running.clock.stopPending = false
        ∧ running.clock.lastBlock = some 100 ∧ running.clock.lastBoundary = some 8000 ∧ 8000 + 4000 / 2 ≤ 10000)
      ∧ (holdover.clock.engine = .holdover ∧ holdover.clock.stopPending = false ∧ holdover.clock.lastBlock = some 100)
      ∧ (frameBlock (sync 103) = 100 + BitVec.ofNat 16 fmt.lag + 1 ∧ frameBlock (sync 102) ≠ 100 + BitVec.ofNat 16 fmt.lag + 1) := by
  and_intros <;> decide +kernel

theorem witness_Realignment :
    ((sync 102).length = 8 ∧ byteAt (sync 102) 0 = 2 ∧ checkHolds (sync 102) = true ∧ frameId (sync 102) = fmt.syncId)
      ∧ (holdover.clock.format = some fmt ∧ holdover.clock.engine = .holdover ∧ holdover.clock.lastBlock = some 100
        ∧ holdover.clock.lastBoundary = some 8000 ∧ 9999 < 8000 + 4000 / 2)
      ∧ (frameBlock (sync 102) = 100 + BitVec.ofNat 16 fmt.lag ∧ frameBlock (sync 103) ≠ 100 + BitVec.ofNat 16 fmt.lag) := by
  and_intros <;> decide +kernel

theorem witness_TimerExpiries :
    (running.clock.format = some fmt ∧ running.clock.timer = some 16000 ∧ running.clock.lastBlock = some 100
        ∧ running.clock.stopPending = false ∧ running.clock.engine = .running)
      ∧ (holdover.clock.format = some fmt ∧ holdover.clock.timer = some 12000 ∧ holdover.clock.lastBlock = some 100
        ∧ holdover.clock.stopPending = false ∧ holdover.clock.engine = .holdover) := by
  and_intros <;> decide +kernel

theorem witness_StoppingBoundary :
    ((stopping running).clock.format = some fmt ∧ (stopping running).clock.stopPending = true
        ∧ (stopping running).clock.timer = some 16000 ∧ (stopping running).clock.engine = .running)
      ∧ ((stopping holdover).clock.format = some fmt ∧ (stopping holdover).clock.stopPending = true
        ∧ (stopping holdover).clock.timer = some 12000 ∧ (stopping holdover).clock.engine = .holdover)
      ∧ ((sync 90).length = 8 ∧ byteAt (sync 90) 0 = 2 ∧ checkHolds (sync 90) = true ∧ frameId (sync 90) = fmt.syncId
        ∧ (stopping running).clock.lastBoundary = some 8000 ∧ 8000 + halfPeriod fmt.rate ≤ 10000) := by
  and_intros <;> decide +kernel

/-! ## Witnesses: stage input and ring -/

/-- A ring entry of stream record 0. -/
def entry (b : BlockNo) (consumed : Bool) : RingEntry :=
  { stream := 0, block := b, channels := 1, damaged := false, consumed := consumed, first := 0, pages := 1 }
def withEntries (es : List RingEntry) (s : State) : State := s.withRing { s.ring with entries := es }

/-- The tests 1 and 2 of an audio frame of one channel. -/
abbrev audioFits (s : State) (f : List Byte) : Prop :=
  frameRate f ≠ none ∧ frameRate f = s.clock.format.map Format.rate ∧ frameChannels f = (s.stage.streams.get 0).channels
    ∧ f.length = 8 + 48 * (s.stage.streams.get 0).channels + 2

theorem witness_RejectedFrames :
    ([1, 2, 3, 4, 5, 6, (7 : Byte)].length < 8 ∧ byteAt (List.replicate 8 3) 0 ≠ 1 ∧ byteAt (List.replicate 8 3) 0 ≠ 2)
      ∧ (8 ≤ (checked [2, 0, 0, 1, 0, 3, 0]).length ∧ byteAt (checked [2, 0, 0, 1, 0, 3, 0]) 0 = 2
        ∧ (checked [2, 0, 0, 1, 0, 3, 0]).length ≠ 8)
      ∧ (checkHolds [2, 0, 0, 1, 0, 3, 0, 7] = false)
      ∧ (8 ≤ (audio 101).length ∧ byteAt (audio 101) 0 = 1
        ∧ ∀ i, (running.stage.streams.get i).bound = true → (running.stage.streams.get i).id ≠ frameId (audio 101))
      ∧ (listening.stage.recordOf (frameId (audio 101)) = some 0 ∧ listening.clock.engine = .running)
      ∧ ((stream 0 5 1 false armed).stage.recordOf (frameId (audio 101)) = some 0
        ∧ ¬ ((stream 0 5 1 false armed).clock.engine = .running ∨ (stream 0 5 1 false armed).clock.engine = .holdover))
      ∧ (¬ audioFits (stream 0 5 2 false running) (audio 101) ∧ (stream 0 5 2 false running).stage.recordOf 5 = some 0)
      ∧ (audioFits listening (audioDamaged 101) ∧ frameId (audioDamaged 101) = 5
        ∧ ¬ (checkHolds (audioDamaged 101) = true ∨ (listening.stage.streams.get 0).acceptDamaged = true))
      ∧ (audioFits listening (audio 100) ∧ checkHolds (audio 100) = true ∧ distance 100 (frameBlock (audio 100)) = 0)
      ∧ (audioFits listening (audioAt 0x80 0x64) ∧ distance 100 (frameBlock (audioAt 0x80 0x64)) = 32768)
      ∧ (audioFits listening (audio 109) ∧ distance 100 (frameBlock (audio 109)) = 9)
      ∧ (distance 100 (frameBlock (audioAt 0x80 0x63)) = 32767)
      ∧ (distance 100 (frameBlock (audio 108)) = 8
        ∧ ∃ e ∈ (withEntries [entry 108 false] listening).ring.entries, e.stream = 0 ∧ e.consumed = false
            ∧ e.block = frameBlock (audio 108))
      ∧ (distance 100 (frameBlock (audio 101)) = 1
        ∧ (∀ e ∈ (withEntries (List.replicate 64 (entry 101 true)) listening).ring.entries,
            e.stream = 0 → e.consumed = false → e.block ≠ frameBlock (audio 101))
        ∧ 64 ≤ (withEntries (List.replicate 64 (entry 101 true)) listening).ring.entries.length) := by
  and_intros <;> decide +kernel

theorem witness_StoredAudio :
    (8 ≤ (audio 101).length ∧ byteAt (audio 101) 0 = 1 ∧ listening.stage.recordOf (frameId (audio 101)) = some 0
        ∧ listening.clock.engine = .running ∧ audioFits listening (audio 101) ∧ checkHolds (audio 101) = true
        ∧ distance listening.clock.block (frameBlock (audio 101)) = 1 ∧ distance listening.clock.block (frameBlock (audio 108)) = 8)
      ∧ (let s := withEntries (List.replicate 63 (entry 101 true)) listening
        (∀ e ∈ s.ring.entries, e.stream = 0 → e.consumed = false → e.block ≠ frameBlock (audio 101))
          ∧ (s.ring.entries.map RingEntry.pages).sum + (8 + 48 * 1 + 63) / 64 ≤ 384 ∧ s.ring.entries.length < 64)
      ∧ (let s := stream 0 5 1 true holdover
        s.clock.engine = .holdover ∧ audioFits s (audioDamaged 108) ∧ checkHolds (audioDamaged 108) = false
          ∧ (s.stage.streams.get 0).acceptDamaged = true) := by
  and_intros <;> decide +kernel

/-- A ring of n frames of eight channels, seven pages each, from page `head` on round the circle. -/
def ringOf (head n : Nat) : Ring :=
  { Ring.reset with
    head := (head + 7 * n) % 384
    entries := (List.range n).map fun k =>
      { stream := 0, block := BitVec.ofNat 16 k, channels := 8, damaged := false, consumed := false,
        first := (head + 7 * k) % 384, pages := 7 } }

theorem witness_StoredAudioReadsBack :
    ((ringOf 380 0).Sound ∧ (List.replicate 58 (1 : Byte)).length = 8 + 48 * 1 + 2 ∧ (ringOf 380 0).pagesUsed + pagesFor 1 ≤ 384)
      ∧ ((ringOf 380 53).Sound ∧ (List.replicate 394 (1 : Byte)).length = 8 + 48 * 8 + 2
        ∧ (ringOf 380 53).pagesUsed + pagesFor 8 ≤ 384 ∧ (ringOf 380 53).entries.length < 64) := by
  and_intros <;> decide +kernel

theorem witness_StreamTableRequests :
    (State.reset.Admits 1 ∧ 8 ≤ (8 : Byte).toNat ∧ (8 : Byte) ≠ 0xFF)
      ∧ (¬ (BitVec.ofNat 24 (nat24 0xFF 0xFF 0xFF) ≠ (0xFFFFFF : StreamId)) ∧ ¬ 1 ≤ (0 : Byte).toNat ∧ ¬ (9 : Byte).toNat ≤ 8)
      ∧ ((streamsFull State.reset).Admits 1 ∧ ∀ j, ((streamsFull State.reset).stage.streams.get j).bound = true)
      ∧ ((State.reset.stage.streams.get 7).bound = false ∧ (7 : Byte).toNat = (7 : Fin 8).val
        ∧ BitVec.ofNat 24 (nat24 0 0 5) ≠ (0xFFFFFF : StreamId) ∧ (1 : Byte).toNat ≤ 8 ∧ (1 : Byte).toNat ≤ 1
        ∧ (∀ j, (State.reset.stage.streams.get j).bound = true → (State.reset.stage.streams.get j).id ≠ 5)
        ∧ State.reset.clock.format.map Format.syncId ≠ some 5)
      ∧ ((stream 0 5 1 false State.reset).Admits 1 ∧ ((stream 0 5 1 false State.reset).stage.streams.get 1).bound = false
        ∧ ∀ j, j < (1 : Fin 8) → ((stream 0 5 1 false State.reset).stage.streams.get j).bound = true)
      ∧ (¬ ((∀ j, ((stream 0 5 1 false State.reset).stage.streams.get j).bound = true →
            ((stream 0 5 1 false State.reset).stage.streams.get j).id ≠ 5)))
      ∧ (¬ stopped.clock.format.map Format.syncId ≠ some 1)
      ∧ ((slot 47 0 listening).Admits 1 ∧ ((slot 47 0 listening).stage.streams.get 0).bound = true
        ∧ ∃ k ∈ (slot 47 0 listening).slots.list, k.bound = true ∧ k.stream = 0)
      ∧ (listening.Admits 1 ∧ (listening.stage.streams.get 0).bound = true
        ∧ ∀ k ∈ listening.slots.list, k.bound = true → k.stream ≠ 0)
      ∧ ((listening.stage.streams.get 1).bound = false ∧ 2 ≤ (2 : Byte).toNat) := by
  and_intros <;> decide +kernel

/-! ## Witnesses: slots and mixes -/

theorem witness_SlotRequests :
    (State.reset.Admits 1 ∧ 48 ≤ (48 : Byte).toNat ∧ 8 ≤ (8 : Byte).toNat)
      ∧ ((47 : Byte).toNat = (47 : Fin 48).val ∧ (7 : Byte).toNat = (7 : Fin 8).val ∧ (7 : Byte).toNat < 8)
      ∧ (¬ ((2 : Byte).toNat ≤ 1 ∧ (0 : Byte).toNat ≤ 1) ∧ ((1 : Byte).toNat ≤ 1 ∧ (0 : Byte).toNat ≤ 1))
      ∧ ((slot 47 0 listening).Admits 1 ∧ ((slot 47 0 listening).slots.get 47).bound = true)
      ∧ ((listening.slots.get 47).bound = false ∧ (listening.stage.streams.get 1).bound = false)
      ∧ ((listening.stage.streams.get 0).bound = true ∧ (listening.stage.streams.get 0).channels ≤ (1 : Byte).toNat
        ∧ (0 : Byte).toNat < (listening.stage.streams.get 0).channels) := by
  and_intros <;> decide +kernel

theorem witness_SlotAssembly :
    ({ Slot.unbound with bound := true } : Slot).bound = true
      ∧ (withEntries [entry 101 false] listening).ring.present 101 0 = some (entry 101 false)
      ∧ Ring.reset.present 101 0 = none
      ∧ (let k : Slot := { Slot.unbound with bound := true, repeatOnce := true, status := .fresh }
        k.repeatOnce = true ∧ (k.status = .fresh ∨ k.status = .damaged))
      ∧ ¬ (({ Slot.unbound with bound := true, repeatOnce := true, status := .repeated } : Slot).status = .fresh
        ∨ ({ Slot.unbound with bound := true, repeatOnce := true, status := .repeated } : Slot).status = .damaged)
      ∧ (Slot.unbound.bound = false ∧ Slot.unbound.Sound) := by
  and_intros <;> decide +kernel

theorem witness_MixSetLiveAndKinds :
    (State.reset.Admits 1 ∧ 16 ≤ (16 : Byte).toNat ∧ (15 : Byte).toNat = (15 : Fin 16).val)
      ∧ (2 ≤ (2 : Byte).toNat ∧ (1 : Byte).toNat ≤ 1)
      ∧ ((withMix 15 (mix .on [send 3 false]) running).Admits 1 ∧ ((withMix 15 (mix .on []) running).mixes.get 15).state = .on)
      ∧ ((State.reset.mixes.get 15).state = .off)
      ∧ ((mix .on [send 3 false]).stereo = false ∧ (mix .on [send 3 false]).state ≠ .off ∧ (mix .off []).state = .off
        ∧ ({ mix .on [] with stereo := true } : Mix).stereo = true) := by
  and_intros <;> decide +kernel

theorem witness_SendRequestsLive :
    (State.reset.Admits 1 ∧ 16 ≤ (16 : Byte).toNat ∧ 48 ≤ (48 : Byte).toNat ∧ (47 : Byte).toNat = (47 : Fin 48).val
        ∧ ¬ ((2 : Byte).toNat ≤ 1 ∧ (0 : Byte).toNat ≤ 1))
      ∧ (∃ d ∈ (mix .on [send 3 false]).sends, d.slot = 3 ∧ d.removing = false)
      ∧ ((∃ d ∈ (mix .on [send 3 true]).sends, d.slot = 3 ∧ d.removing = true)
        ∧ ¬ ∃ d ∈ (mix .on [send 3 true]).sends, d.slot = 3 ∧ d.removing = false)
      ∧ (24 ≤ (mix .on (sendsTo 24)).sends.length ∧ ¬ ∃ d ∈ (mix .on (sendsTo 24)).sends, d.slot = 47 ∧ d.removing = false)
      ∧ (let s := State.reset.withMixes (Table.tabulate fun i => mix .on (sendsTo (if i.val < 10 then 24 else if i.val < 15 then 3 else 1)))
        s.Admits 1 ∧ (s.mixes.get 15).sends.length < 24 ∧ 256 ≤ (s.mixes.list.map fun m => m.sends.length).sum)
      ∧ ((mix .on (sendsTo 23)).sends.length < 24
        ∧ ((withMix 0 (mix .on (sendsTo 23)) running).mixes.list.map fun m => m.sends.length).sum < 256)
      ∧ ((4 : Byte).getLsbD 2 = true ∧ (8 : Byte).getLsbD 3 = true ∧ 2 ≤ (2 : Byte).toNat ∧ (0xF0 : Byte).toNat % 16 = 0
        ∧ (0x0F : Byte).toNat % 16 ≠ 0)
      ∧ ((mix .on []).activeOn 3 = none ∧ (mix .on [send 3 false]).activeOn 3 = some (send 3 false))
      ∧ (running.clock.engine = .running ∧ (mix .fading [send 3 false]).state ≠ .off)
      ∧ ¬ (armed.clock.engine = .running ∨ armed.clock.engine = .holdover) := by
  and_intros <;> decide +kernel

theorem witness_TrimsSetAndOffered :
    (State.reset.Admits 1 ∧ 16 ≤ (16 : Byte).toNat ∧ (0 : Byte).toNat = (0 : Fin 16).val ∧ 2 ≤ (2 : Byte).toNat
        ∧ (1 : Byte).toNat ≤ 1)
      ∧ PackLine.reset.ownerOf 3 = none
      ∧ (let l := (withPack 4 (owner 3) running).line
        l.ownerOf 3 = some 4 ∧ (l.packs.get 4).state = .present ∧ 1 ≤ l.free)
      ∧ (let l := (queueOf 32 (withPack 4 (owner 3) running)).line
        l.ownerOf 3 = some 4 ∧ (l.packs.get 4).state = .present ∧ l.free = 0)
      ∧ (let l := (withPack 4 { owner 3 with state := .lost, presence := 63 } running).line
        l.ownerOf 3 = some 4 ∧ (l.packs.get 4).state = .lost) := by
  and_intros <;> decide +kernel

theorem witness_GainsAndTargets : 1 ≤ 1 ∧ 127 ≤ 127
    ∧ ({ send 0 false with level := 0 } : Send).level = 0 ∧ (send 0 false).level ≠ 0 ∧ (send 0 false).mute = false
    ∧ (send 0 true).removing = true ∧ ((send 0 false).removing = false ∧ Mix.default.stereo = false)
    ∧ (({ Mix.default with stereo := true } : Mix).stereo = true ∧ TrimInRange (-16) ∧ TrimInRange 16)
    ∧ (mix .fading []).state ≠ .on ∧ ((mix .on []).state = .on ∧ (mix .on []).master ≠ 0)
    ∧ (({ mix .on [] with master := 0 } : Mix).state = .on ∧ ({ mix .on [] with master := 0 } : Mix).master = 0) := by
  and_intros <;> decide +kernel

theorem witness_GlideSettles : 240388 ≤ 240388 ∧ ((65536 : Int) - (0 : Nat)).natAbs = 65536 := by
  and_intros <;> decide +kernel

theorem witness_LimiterKeepsCeiling :
    ((∀ k ∈ State.reset.slots.list, ∀ x ∈ k.assembled.list, SampleInRange x)
        ∧ (∀ o ∈ (Table.fill (some 2097152) : Table (Option Sample) 16).list, ∀ x ∈ o.toList, x = 2097152 ∨ x = -2097152)
        ∧ (mix .on [send 3 false]).Sound ∧ (mix .on [send 3 false]).state ≠ .off ∧ Limiter.reset.Sound)
      ∧ (8388607 * 65536 < 8388608 * min 65536 (65536 + 256) ∧ 8388607 * min 65536 (65536 + 256) ≤ 8388607 * 65536
        ∧ (-8388607 : Int).natAbs ≤ 8388607) := by
  and_intros <;> decide +kernel

theorem witness_MixSettles : (mix .off []).state = .off ∧ (mix .on [send 3 true]).state = .on
    ∧ ((mix .fading []).state = .fading ∧ (mix .fading []).glided.masterCurrent ≠ 0)
    ∧ glide (mix .fading []).masterCurrent (mix .fading []).masterTarget ≠ 0
    ∧ ({ mix .fading [send 3 true] with masterCurrent := 3 } : Mix).glided.masterCurrent = 0 ∧ glide 3 0 = 0
    ∧ (computeMix State.reset.slots (Table.fill none) 0 (mix .on [send 3 true]) Limiter.reset).mix.state = .on := by
  and_intros <;> decide +kernel

/-! ## Witnesses: cues -/

theorem witness_OpenAndTake :
    (State.reset.Admits 1 ∧ 4 ≤ (4 : Byte).toNat ∧ 8 ≤ (8 : Byte).toNat ∧ (3 : Byte).toNat = (3 : Fin 4).val
        ∧ (7 : Byte).toNat = (7 : Fin 8).val ∧ State.reset.cues.slots.get 3 = none)
      ∧ ((cue (work true 0) State.reset).Admits 1 ∧ (cue (work true 0) State.reset).cues.slots.get 0 = some (work true 0)
        ∧ (work true 0).applying = true)
      ∧ ((cue (work false 0) State.reset).cues.slots.get 0 = some (work false 0) ∧ (work false 0).applying = false) := by
  and_intros <;> decide +kernel

theorem witness_StoreAndClose :
    (State.reset.Admits 1 ∧ 4 ≤ (4 : Byte).toNat ∧ 2 ≤ (2 : Byte).toNat ∧ State.reset.cues.slots.get 3 = none)
      ∧ ((cue (work true 0) State.reset).Admits 1 ∧ (cue (work true 0) State.reset).cues.slots.get 0 = some (work true 0)
        ∧ (work true 0).applying = true)
      ∧ ((cue (work false 0) State.reset).cues.slots.get 0 = some (work false 0) ∧ (work false 0).applying = false
        ∧ (0 : Byte) = 0 ∧ (1 : Byte) = 1 ∧ (1 : Byte).toNat ≤ 1) := by
  and_intros <;> decide +kernel

theorem witness_CueEdits :
    (State.reset.Admits 1 ∧ (0 : Byte).toNat = (0 : Fin 4).val ∧ (15 : Byte).toNat = (15 : Fin 16).val
        ∧ (47 : Byte).toNat = (47 : Fin 48).val ∧ 2 ≤ (2 : Byte).toNat ∧ (4 : Byte).getLsbD 2 = true
        ∧ State.reset.cues.slots.get 0 = none)
      ∧ ((cue (work true 1) State.reset).cues.slots.get 0 = some (work true 1) ∧ (work true 1).applying = true)
      ∧ ((cue (work false 1) State.reset).Admits 1 ∧ (cue (work false 1) State.reset).cues.slots.get 0 = some (work false 1)
        ∧ (work false 1).applying = false ∧ (∃ d ∈ ((work false 1).copy.get 0).sends, d.slot = 0)
        ∧ ¬ ∃ d ∈ ((work false 1).copy.get 0).sends, d.slot = 47)
      ∧ (24 ≤ ((work false 24).copy.get 0).sends.length ∧ ((work false 23).copy.get 0).sends.length < 24
        ∧ ¬ ∃ d ∈ ((work false 24).copy.get 0).sends, d.slot = 47)
      ∧ (((work false 1).copy.get 0).sends.find? fun d => d.slot == 0)
        = some { slot := 0, level := 112, balance := 0, self := false, mute := false }
      ∧ (2 ≤ (2 : Byte).toNat ∧ 4 ≤ (4 : Byte).toNat ∧ 16 ≤ (16 : Byte).toNat ∧ 48 ≤ (48 : Byte).toNat) := by
  and_intros <;> decide +kernel

/-- Mix 0 ON with one send on slot 30 in a pool with one free record, and a scene that gives it two others. -/
def glideFallback : State := State.reset.withMixes (Table.tabulate fun i =>
  if i.val = 0 then mix .on [send 30 false]
  else mix .on (sendsTo (if i.val < 11 then 24 else if i.val = 11 then 14 else 0)))
def sceneOn : Scene := (copyWith 2).set 0 { (copyWith 2).get 0 with on := true }

/-- A state whose pool a CUT of entry 0 with 24 sends would overfill. -/
def poolCrowded : State :=
  cue (work false 24) (State.reset.withMixes (Table.tabulate fun i =>
    mix .on (sendsTo (if i.val = 0 then 0 else if i.val < 11 then 24 else 0))))

theorem witness_ApplyRequest :
    (State.reset.Admits 1 ∧ 4 ≤ (4 : Byte).toNat ∧ 2 ≤ (2 : Byte).toNat ∧ (1 : Byte).toNat ≤ 1
        ∧ State.reset.cues.slots.get 0 = none)
      ∧ ((cue (work true 0) running).Admits 1 ∧ (cue (work true 0) running).cues.slots.get 0 = some (work true 0))
      ∧ ((cue (work false 1) stopped).cues.slots.get 0 = some (work false 1)
        ∧ ¬ ((cue (work false 1) stopped).clock.engine = .running ∨ (cue (work false 1) stopped).clock.engine = .holdover)
        ∧ ((cue (work false 1) stopped).applyCue 0 (work false 1) .cut 1 .immediate).2 = .done)
      ∧ (poolCrowded.Admits 1 ∧ poolCrowded.clock.engine = .unformatted
        ∧ (poolCrowded.applyCue 0 (work false 24) .cut 1 .immediate).2 = .poolFull)
      ∧ (let s := stopping (cue (work false 0) running)
        s.Admits 1 ∧ s.clock.engine = .running ∧ ∃ d ∈ s.link.deferred, d.job = .stop)
      ∧ (let s := applies 8 (cue (work false 0) running)
        s.Admits 1 ∧ (¬ ∃ d ∈ s.link.deferred, d.job = .stop) ∧ 8 ≤ s.link.deferred.length)
      ∧ (let s := replies 15 (cue (work false 0) running)
        s.Admits 1 ∧ s.link.free < 2)
      ∧ (let s := replies 14 (cue (work false 0) holdover)
        s.Admits 1 ∧ s.clock.engine = .holdover ∧ s.link.deferred.length < 8 ∧ 2 ≤ s.link.free) := by
  and_intros <;> decide +kernel

theorem witness_ApplyEffect :
    ((cue (work false 24) running).MixesSound ∧ (∀ e ∈ (work false 24).copy.list, e.Sound)
        ∧ ((cue (work false 24) running).applyCue 0 (work false 24) .glide 1 .immediate).2 = .done
        ∧ (1 : MixMask).getLsbD 15 = false ∧ (1 : MixMask).getLsbD 0 = true)
      ∧ (poolCrowded.MixesSound ∧ (poolCrowded.applyCue 0 (work false 24) .cut 1 .immediate).2 = .poolFull)
      ∧ ((withMix 0 (mix .on [send 30 false]) running).MixesSound ∧ ((withMix 0 (mix .on []) running).mixes.get 0).state ≠ .off
        ∧ (((withMix 0 (mix .on []) running).applyCue 0 (work false 1) .cut 1 .immediate).1.mixes.get 0).state = .off)
      ∧ (glideFallback.MixesSound ∧ (∀ e ∈ sceneOn.list, e.Sound)
        ∧ (let r := glideFallback.applyCue 0 { work false 0 with copy := sceneOn } .glide 1 .immediate
          r.2 = .done ∧ (r.1.cues.slots.get 0).any fun w => w.last.any LastApply.fallback)) := by
  and_intros <;> decide +kernel

theorem witness_DeferredApply :
    (applies 1 (cue (work true 1) running)).link.deferred = [{ tag := 100, job := .apply 0 .cut 1 }]
      ∧ (applies 1 (cue (work true 1) running)).cues.slots.get 0 = some (work true 1)
      ∧ running.link.deferred = []
      ∧ (applies 2 (cue (work true 1) running)).link.deferred
        = { tag := 100, job := .apply 0 .cut 1 } :: [{ tag := 101, job := .apply 0 .cut 1 }]
      ∧ ((stopping running).link.deferred = deferredStop :: [] ∧ deferredStop.job = .stop) := by
  and_intros <;> decide +kernel

/-! ## Witnesses: pack line -/

theorem witness_PackRequestsAndRemoval :
    (State.reset.Admits 1 ∧ (0 : Byte) = 0 ∧ 25 ≤ (25 : Byte).toNat ∧ (24 : Byte).toNat = (23 : Fin 24).val + 1
        ∧ 16 ≤ (16 : Byte).toNat ∧ (16 : Byte) ≠ 0xFF ∧ (15 : Byte).toNat < 16 ∧ 2 ≤ (2 : Byte).toNat)
      ∧ ((State.reset.line.packs.get 23).state = .free
        ∧ ¬ ((State.reset.line.packs.get 23).state = .present ∨ (State.reset.line.packs.get 23).state = .lost))
      ∧ (let s := withPack 23 (pack .present) (withPack 4 { owner 15 with serial := 8 } running)
        s.Admits 1 ∧ (s.line.packs.get 23).state = .present ∧ s.line.Sound
          ∧ (∃ a' : Fin 24, a' ≠ 23 ∧ s.line.ownerOf 15 = some a') ∧ 1 ≤ s.line.free)
      ∧ (let s := withPack 23 (pack .lost) running
        (s.line.packs.get 23).state = .lost ∧ s.line.Sound ∧ ¬ ∃ a' : Fin 24, a' ≠ 23 ∧ s.line.ownerOf 15 = some a')
      ∧ (let s := queueOf 32 (withPack 23 (pack .present) running)
        s.Admits 1 ∧ s.line.Sound ∧ s.line.free = 0 ∧ (s.line.freePack 23).free = 0 ∧ (s.line.packs.get 23).state ≠ .free)
      ∧ (let s := queueOf 32 (withPack 4 (pack .joining) running)
        (s.line.freePack 4).free = 32 ∧ (s.line.packs.get 4).state ≠ .free)
      ∧ ((List.replicate 31 (0x7E : Byte)).length ≤ 31 ∧ (∀ x ∈ (0x20 : Byte) :: List.replicate 31 0x7E, 0x20 ≤ x.toNat ∧ x.toNat ≤ 0x7E)
        ∧ ¬ ∀ x ∈ [(0x1F : Byte)], 0x20 ≤ x.toNat ∧ x.toNat ≤ 0x7E)
      ∧ ((window false 23 (withPack 23 (pack .present) running)).line.window
        = some { confirm := false, address := 23, freed := false }) := by
  and_intros <;> decide +kernel

theorem witness_MessageCarriage :
    (queueOf 2 running).line.carried = some { address := 4, urgent := true, message := .removed, age := 0 }
      ∧ (let l := { (withPack 4 (pack .present) running).line with
            queue := [{ address := 4, urgent := false, message := .unassigned, age := 256 }] }
        l.carried = some { address := 4, urgent := false, message := .unassigned, age := 256 })
      ∧ (let l := { running.line with queue := [{ address := 4, urgent := false, message := .unassigned, age := 256 }] }
        l.carried = none) := by
  and_intros <;> decide +kernel

theorem witness_ArbiterChoice :
    (queueOf 32 running).line.free = 0
      ∧ (let l := { (withPack 4 (pack .joining) running).line with lastUrgent := true }
        1 ≤ l.free ∧ l.lastUrgent = true)
      ∧ (let l := (withPack 4 (pack .joining) running).line
        1 ≤ l.free ∧ l.lastUrgent = false ∧ (l.packs.get 4).due = true ∧ ∀ a', a' < (4 : Fin 24) → (l.packs.get a').due = false)
      ∧ (let l := { (withPack 4 (pack .present) running).line with urgentOrder := [4] }
        1 ≤ l.free ∧ l.lastUrgent = false ∧ (∀ a, (l.packs.get a).due = false) ∧ l.urgentOrder = [4]
          ∧ (l.packs.get 4).state = .present ∧ l.choose = (.poll 4, true))
      ∧ (let l := { (withPack 4 (pack .present) running).line with roundRobin := 4 }
        1 ≤ l.free ∧ l.choose = (.poll 4, false) ∧ l.roundRobin ≤ (4 : Fin 24).val)
      ∧ (let l := { (withPack 4 (pack .present) running).line with roundRobin := 5 }
        1 ≤ l.free ∧ (∀ a, (l.packs.get a).due = false) ∧ (∀ a', (l.packs.get a').state = .present → a'.val < l.roundRobin)
          ∧ (∀ a', (l.packs.get a').state = .present → 4 ≤ a') ∧ l.choose = (.poll 4, false))
      ∧ (withPack 4 (pack .joining) running).line.choose = (.confirm 4, true)
      ∧ (let p := pack .joining
        p.state = .joining ∧ p.offerSent = true ∧ (p.attempts = 0 → 1 ≤ p.ticks) ∧ (p.attempts ≠ 0 → 8 ≤ p.ticks))
      ∧ (let p := { pack .joining with attempts := 3, ticks := 7 }
        ¬ ((p.attempts = 0 → 1 ≤ p.ticks) ∧ (p.attempts ≠ 0 → 8 ≤ p.ticks)))
      ∧ (let l := (withPack 4 { pack .joining with offerSent := false, ticks := 0 } running).line
        ({ l with queue := [{ address := 4, urgent := true, message := .offer 9 4, age := 0 }] } : PackLine).carried
            = some { address := 4, urgent := true, message := .offer 9 4, age := 0 }
          ∧ l.carried = none ∧ (l.packs.get 4).state = .joining)
      ∧ (1 ≤ running.line.free ∧ running.line.choose.1 = .idle) := by
  and_intros <;> decide +kernel

/-- All 24 packs LOST, with serials 100 to 123. -/
def tableFull (s : State) : State :=
  s.withLine { s.line with packs := Table.tabulate fun a => { pack .lost with serial := BitVec.ofNat 32 (100 + a.val) } }

theorem witness_RefusedHello :
    upstreamMessage hello = some (.hello 9)
      ∧ (let s := announcing (tableFull running)
        s.line.announceOpen = true ∧ (¬ ∃ a, (s.line.packs.get a).state ≠ .free ∧ (s.line.packs.get a).serial = 9)
          ∧ ¬ ∃ a, (s.line.packs.get a).state = .free)
      ∧ (let s := announcing (queueOf 32 running)
        s.line.announceOpen = true ∧ (∃ a, (s.line.packs.get a).state = .free) ∧ s.line.free = 0)
      ∧ (let s := announcing (queueOf 32 (withPack 4 (pack .present) running))
        s.line.free = 0 ∧ ∃ a, (s.line.packs.get a).state ≠ .free ∧ (s.line.packs.get a).serial = 9) := by
  and_intros <;> decide +kernel

/-- A signal of one byte is no message. -/
theorem upstreamMessage_noise : upstreamMessage [0xFF] = none := by decide

theorem witness_AnnounceWindowAndIdleSignal :
    (announcing running).line.announceOpen = true
      ∧ ((∀ serial, upstreamMessage [0xFF] ≠ some (.hello serial)) ∧ (announcing running).line.collisionRun < 15)
      ∧ ({ (announcing running).line with collisionRun := 15 } : PackLine).collisionRun = 15
      ∧ (upstreamMessage hello = some (.hello 9) ∧ 1 ≤ (queueOf 31 running).line.free)
      ∧ ((∀ a', (running.line.packs.get a').state ≠ .free → (running.line.packs.get a').serial ≠ 9)
        ∧ (running.line.packs.get 0).state = .free ∧ ∀ a', a' < (0 : Fin 24) → (running.line.packs.get a').state ≠ .free)
      ∧ (let s := announcing (withPack 23 (pack .joining) running)
        s.line.Sound ∧ (s.line.packs.get 23).serial = 9 ∧ (s.line.packs.get 23).state = .joining)
      ∧ (let s := announcing (withPack 23 (pack .present) running)
        s.line.Sound ∧ (s.line.packs.get 23).serial = 9 ∧ (s.line.packs.get 23).state = .present)
      ∧ (let s := announcing (withPack 23 (pack .lost) running)
        s.line.Sound ∧ (s.line.packs.get 23).serial = 9 ∧ (s.line.packs.get 23).state = .lost)
      ∧ (let s := running.withLine { running.line with
            frame := some { block := 1, grant := .idle, announce := false, mixes := [], control := none } }
        s.clock.engine = .running ∧ s.line.announceOpen = false ∧ s.line.frame.map DownFrame.grant = some .idle) := by
  refine ⟨?_, ⟨fun serial => ?_, ?_⟩, ?_⟩
  · decide +kernel
  · rw [upstreamMessage_noise]; simp
  · decide +kernel
  · and_intros <;> decide +kernel

theorem witness_PresenceDecrease :
    ((running.line.packs.get 0).state ≠ .present)
      ∧ (((withPack 0 (pack .present) running).line.packs.get 0).state = .present
        ∧ ((withPack 0 (pack .present) running).line.packs.get 0).presence ≠ 64)
      ∧ (((withPack 23 { pack .present with presence := 64 } running).line.packs.get 23).state = .present
        ∧ ((withPack 23 { pack .present with presence := 64 } running).line.packs.get 23).presence = 64) := by
  and_intros <;> decide +kernel

/-- The open window of a POLL to the last address, and of a CONFIRM. -/
def polled : State := window false 23 (withPack 23 (pack .present) running)
def confirming : State := window true 23 (withPack 23 (pack .joining) running)

theorem witness_PollWindow :
    (polled.line.announceOpen = false ∧ polled.line.window = some { confirm := false, address := 23, freed := false })
      ∧ ((∀ f, upstreamMessage [0xFF] ≠ some (.nothing f)) ∧ ∀ k v f, upstreamMessage [0xFF] ≠ some (.request k v f))
      ∧ upstreamMessage nothing = some (.nothing 0) ∧ upstreamMessage volumeUp = some (.request 1 1 0)
      ∧ (polled.withLine (polled.line.freePack 23)).line.window = some { confirm := false, address := 23, freed := true }
      ∧ (confirming.withLine (confirming.line.freePack 23)).line.window = some { confirm := true, address := 23, freed := true }
      ∧ (polled.withLine (polled.line.freePack 23)).line.announceOpen = false := by
  refine ⟨?_, ⟨fun f => ?_, fun k v f => ?_⟩, ?_⟩
  · and_intros <;> decide +kernel
  · rw [upstreamMessage_noise]; simp
  · rw [upstreamMessage_noise]; simp
  · and_intros <;> decide +kernel

theorem witness_PackRequestDecided :
    ((0 : Byte).toNat = 0 ∧ 7 ≤ (7 : Byte).toNat ∧ 1 ≤ (1 : Byte).toNat ∧ (6 : Byte).toNat ≤ 6)
      ∧ ((withPack 4 (pack .present) running).line.packs.get 4).mix = none
      ∧ (((withPack 4 (owner 15) running).line.packs.get 4).mix = some 15
        ∧ ((withPack 4 (owner 15) running).line.packs.get 4).role = .owner)
      ∧ (((withPack 4 { owner 15 with role := .listener } running).line.packs.get 4).mix = some 15
        ∧ ((withPack 4 { owner 15 with role := .listener } running).line.packs.get 4).role = .listener)
      ∧ ((mix .on []).dim = none ∧ (mix .on []).state = .on ∧ ({ mix .on [] with dim := some (-16) } : Mix).dim = some (-16)
        ∧ (mix .on []).Sound) := by
  and_intros <;> decide +kernel

theorem witness_ConfirmWindow :
    (confirming.line.announceOpen = false ∧ confirming.line.window = some { confirm := true, address := 23, freed := false }
        ∧ upstreamMessage confirm = some (.confirm (confirming.line.packs.get 23).serial)
        ∧ (confirming.line.packs.get 23).attempts ≤ 2)
      ∧ (∀ signal, (none : Option (List Byte)) = some signal → upstreamMessage signal ≠ some (.confirm 9))
      ∧ upstreamMessage [0xFF] ≠ some (.confirm 9)
      ∧ ((withPack 23 { pack .joining with attempts := 3 } running).line.packs.get 23).attempts = 3 := by
  refine ⟨?_, fun _ h => by simp at h, ?_⟩ <;> (and_intros <;> decide +kernel)

/-! ## Witnesses: click, meters, queries, frames -/

/-- A BEATING click at the moment of a beat. -/
def beating (remaining : Option Nat) : Click := { Click.reset with state := .beating, beatsRemaining := remaining }

theorem witness_ClickRequests : State.reset.Admits 1 ∧ Click.reset.state ≠ .beating ∧ (beating none).state = .beating
    ∧ (beating none).burst = none ∧ ({ beating none with burst := some { position := 255, accent := true } } : Click).burst ≠ none := by
  and_intros <;> decide +kernel

theorem witness_BeatsAndLastBeat :
    ((beating none).Sound ∧ (beating none).state = .beating ∧ (beating none).countdown = 0 ∧ (beating none).countReload = false
        ∧ (beating none).beatsRemaining ≠ some 1)
      ∧ ((beating (some 1)).Sound ∧ (beating (some 1)).state = .beating ∧ (beating (some 1)).countdown = 0
        ∧ (beating (some 1)).countReload = false ∧ (beating (some 1)).beatsRemaining = some 1)
      ∧ (let c : Click := { beating (some 2) with count := 1, countReload := true }
        c.Sound ∧ c.countdown = 0 ∧ (if c.count = 0 then none else some c.count) = some 1)
      ∧ (let c : Click := { beating (some 1) with count := 64, countReload := true }
        c.Sound ∧ c.countdown = 0 ∧ (if c.count = 0 then none else some c.count) ≠ some 1) := by
  and_intros <;> decide +kernel

theorem witness_MeterAndCounterRequests :
    (State.reset.Admits 1 ∧ 2 ≤ (2 : Byte).toNat ∧ (1 : Byte).toNat ≤ 1 ∧ State.reset.meter.on ≠ decide ((1 : Byte) = 1)
        ∧ State.reset.meter.on = decide ((0 : Byte) = 1))
      ∧ ((0 : Byte) = 0 ∧ 9 ≤ (9 : Byte).toNat ∧ 8 ≤ (8 : Byte).toNat ∧ 25 ≤ (25 : Byte).toNat)
      ∧ (group? 4 7 = .ok (.stream 7) ∧ group? 8 24 = .ok (.pack 23) ∧ group? 1 255 = .ok .link) := by
  exact ⟨by decide +kernel, by decide, rfl, rfl, rfl⟩

theorem witness_StatusAndQueriesReport : (replies 15 running).Admits 1 ∧ (7 : Byte).toNat < 8 ∧ (47 : Byte).toNat < 48
    ∧ (15 : Byte).toNat = (15 : Fin 16).val ∧ (3 : Byte).toNat = (3 : Fin 4).val ∧ (31 : Byte).toNat = (31 : Fin 32).val
    ∧ (24 : Byte).toNat = (23 : Fin 24).val + 1
    ∧ (8 ≤ (8 : Byte).toNat ∧ 48 ≤ (48 : Byte).toNat ∧ 16 ≤ (16 : Byte).toNat ∧ 4 ≤ (4 : Byte).toNat ∧ 32 ≤ (32 : Byte).toNat
      ∧ 25 ≤ (25 : Byte).toNat)
    ∧ State.reset.cues.slots.get 3 = none ∧ (cue (work false 1) State.reset).cues.slots.get 0 = some (work false 1) := by
  and_intros <;> decide +kernel

theorem witness_DecodeOfEncode :
    (wellFormed (.packText 1 (List.replicate 33 0x41)) = true
        ∧ encodeBody (.packText 1 (List.replicate 33 0x41)) = some (0x52 :: 1 :: List.replicate 33 0x41))
      ∧ (3 ≤ [(0x99 : Byte), 0, 0].length ∧ decodeBody [0x99, 0, 0] = some (.unknownKindRequest 0x99 0 [0])) := by
  and_intros <;> decide +kernel

theorem witness_FrameBytesRunTheRequest :
    State.reset.link.rx.phase = .hunt ∧ wellFormed (.ident 1 [0]) = true ∧ encodeBody (.ident 1 [0]) = some [0x01, 1, 0]
      ∧ ([0, 24000, 48000, 48000, 48001, 72001] : List Time).length = (linkFrame [0x01, 1, 0]).length
      ∧ ([0, 24000, 48000, 48000, 48001, 72001] : List Time).getLast? = some 72001
      ∧ ∀ j < 5, ([0, 24000, 48000, 48000, 48001, 72001] : List Time).getD (j + 1) 0
          ≤ ([0, 24000, 48000, 48000, 48001, 72001] : List Time).getD j 0 + 24000 := by
  and_intros <;> decide +kernel

/-! ## Witness: what every step keeps -/

/-- A sound mixing state with a stream, a slot, a sounding mix, its owner's open window, and an audio frame waiting. -/
def busy : State :=
  (window false 4 (withPack 4 (owner 3) (withMix 3 (mix .on [send 47 false]) (slot 47 0 listening)))).withPending
    [.audioFrame 9000 (audio 101)]

/-- The premises of the six StepKeeps statements: a sound state and its step. -/
theorem witness_StepKeeps : busy.Sound ∧ step busy = .next (after (.audioFrame 9000 (audio 101)) (busy.withPending [])) :=
  ⟨{ link := by decide +kernel, receiver := by decide +kernel, clock := by decide +kernel, deferral := by decide +kernel,
     streams := by decide +kernel, ring := by decide +kernel, slots := by decide +kernel, mixes := by decide +kernel,
     limiters := by decide +kernel, atRest := by decide +kernel, cues := by decide +kernel, line := by decide +kernel,
     click := by decide +kernel, meter := by decide +kernel, counters := by decide +kernel }, rfl⟩

end Sys2Proof.Tests
end

section
/-! Control link, operations: the queues of replies and notices written out, what each operation of the link leaves, and that
each keeps the link sound. -/

namespace Sys2Proof.Machine

/-! ## Replies and completions -/

theorem Link.startTx_idle {l : Link} (h : l.tx = .idle) : l.startTx = { l with tx := l.nextMessage } := by
  unfold Link.startTx; rw [h]

theorem Link.startTx_busy {l : Link} (h : l.tx ≠ .idle) : l.startTx = l := by
  unfold Link.startTx; split
  · contradiction
  · rfl

/-- A hold line that follows the count stays as it is. -/
theorem Link.refreshHold_of_hold {l : Link} (h : l.hold = decide (12 ≤ l.inUse)) : l.refreshHold = l := by
  rw [Link.refreshHold, ← h]

/-- A reply goes to the back, starts an idle transmitter, and the hold line follows the count (R10 to R12). -/
theorem Link.pushReply_eq (l : Link) (r : Reply) :
    l.pushReply r = { l with
      replies := l.replies ++ [r], tx := if l.tx = .idle then .reply else l.tx
      hold := decide (12 ≤ l.replies.length + 1 + l.deferred.length) } := by
  unfold Link.pushReply
  by_cases h : l.tx = .idle
  · rw [Link.startTx_idle (l := { l with replies := l.replies ++ [r] }) h, if_pos h]
    simp [Link.refreshHold, Link.inUse, Link.nextMessage]
  · rw [Link.startTx_busy (l := { l with replies := l.replies ++ [r] }) h, if_neg h]
    simp [Link.refreshHold, Link.inUse]

/-- The oldest deferred entry leaves the list with its COMPLETE at the back of the reply queue (R9). -/
theorem Link.complete_eq (l : Link) (d : Deferred) (o : CompleteOutcome) :
    l.complete d o = { l with
      deferred := l.deferred.tail
      replies := l.replies ++ [{ code := .complete, tag := d.tag, kind := jobKind d.job, fields := outcomeBytes o }]
      tx := if l.tx = .idle then .reply else l.tx
      hold := decide (12 ≤ l.replies.length + 1 + l.deferred.tail.length) } := by
  rw [Link.complete, Link.pushReply_eq]

/-! ## Notices -/

/-- A notice for a queue that is not full goes to the back and starts an idle transmitter without replies (R13). -/
theorem Link.pushNotice_of_room {l : Link} {n : Notice} (h : l.notices.length < 64) :
    l.pushNotice n = ({ l with notices := l.notices ++ [n] } : Link).startTx := by
  unfold Link.pushNotice; rw [if_pos h]

/-- A notice for a full queue is lost (R13). -/
theorem Link.pushNotice_of_full {l : Link} {n : Notice} (h : 64 ≤ l.notices.length) :
    l.pushNotice n = { l with noticesLost := count32 l.noticesLost } := by
  unfold Link.pushNotice; rw [if_neg (Nat.not_lt.mpr h)]

/-- What a list of raised notices leaves as it is. -/
theorem Link.pushNotices_frame (ns : List Notice) : ∀ l : Link,
    (ns.foldl Link.pushNotice l).replies = l.replies ∧ (ns.foldl Link.pushNotice l).deferred = l.deferred
      ∧ (ns.foldl Link.pushNotice l).rx = l.rx := by
  induction ns with
  | nil => exact fun l => ⟨rfl, rfl, rfl⟩
  | cons n rest ih =>
    intro l
    obtain ⟨hr, hd, hx, _⟩ := Link.pushNotice_frame l n
    obtain ⟨ir, id, ix⟩ := ih (l.pushNotice n)
    exact ⟨ir.trans hr, id.trans hd, ix.trans hx⟩

/-- Queuing a notice leaves the settings of the classes. -/
theorem Link.pushNotice_settings (l : Link) (n : Notice) :
    (l.pushNotice n).sensLimit = l.sensLimit ∧ (l.pushNotice n).sensSlot = l.sensSlot
      ∧ (l.pushNotice n).sensRing = l.sensRing ∧ (l.pushNotice n).sensClock = l.sensClock
      ∧ (l.pushNotice n).packNotices = l.packNotices := by
  unfold Link.pushNotice
  split
  · rw [Link.startTx_eq]; exact ⟨rfl, rfl, rfl, rfl, rfl⟩
  · exact ⟨rfl, rfl, rfl, rfl, rfl⟩

theorem Link.pushNotices_settings (ns : List Notice) : ∀ l : Link,
    (ns.foldl Link.pushNotice l).sensLimit = l.sensLimit ∧ (ns.foldl Link.pushNotice l).sensSlot = l.sensSlot
      ∧ (ns.foldl Link.pushNotice l).sensRing = l.sensRing ∧ (ns.foldl Link.pushNotice l).sensClock = l.sensClock
      ∧ (ns.foldl Link.pushNotice l).packNotices = l.packNotices := by
  induction ns with
  | nil => exact fun l => ⟨rfl, rfl, rfl, rfl, rfl⟩
  | cons n rest ih =>
    intro l
    obtain ⟨h1, h2, h3, h4, h5⟩ := Link.pushNotice_settings l n
    obtain ⟨i1, i2, i3, i4, i5⟩ := ih (l.pushNotice n)
    exact ⟨i1.trans h1, i2.trans h2, i3.trans h3, i4.trans h4, i5.trans h5⟩

/-! ## Soundness -/

/-- A link within its bounds whose transmitter sends what exists is sound once the transmitter is started and the hold line
follows the count. -/
theorem Link.started_sound {l : Link} (use : l.inUse ≤ 16) (notices : l.notices.length ≤ 64)
    (deferred : l.deferred.length ≤ 8) (reply : l.tx = .reply → l.replies ≠ []) (notice : l.tx = .notice → l.notices ≠ []) :
    l.startTx.refreshHold.Sound := by
  refine ⟨by simpa using use, by simpa using notices, by simpa using deferred, by simp [Link.refreshHold_hold], ?_⟩
  by_cases h : l.tx = .idle
  · simp only [Link.refreshHold_tx, Link.refreshHold_replies, Link.refreshHold_notices, Link.startTx_idle h, Link.nextMessage]
    by_cases hr : l.replies = [] <;> by_cases hn : l.notices = [] <;> simp [hr, hn]
  · rw [Link.startTx_busy h]
    exact ⟨fun k => absurd k h, reply, notice⟩

/-- A reply queued while an entry is free keeps the link sound; the hold line before it does not matter. -/
theorem Link.pushReply_sound {l : Link} (r : Reply) (use : l.inUse ≤ 15) (notices : l.notices.length ≤ 64)
    (deferred : l.deferred.length ≤ 8) (notice : l.tx = .notice → l.notices ≠ []) : (l.pushReply r).Sound := by
  refine Link.started_sound ?_ notices deferred (fun _ => by simp) notice
  simp only [Link.inUse, List.length_append, List.length_singleton] at use ⊢; omega

/-- A raised notice keeps the link sound; the count of reply entries does not change, and so the hold line is right. -/
theorem Link.pushNotice_sound {l : Link} (n : Notice) (h : l.Sound) : (l.pushNotice n).Sound := by
  obtain ⟨use, notices, deferred, hold, idle, reply, notice⟩ := h
  rcases Nat.lt_or_ge l.notices.length 64 with hl | hl
  · rw [Link.pushNotice_of_room hl]
    have key : ({ l with notices := l.notices ++ [n] } : Link).startTx.refreshHold.Sound :=
      Link.started_sound use (by simp; omega) deferred reply (fun _ => by simp)
    rwa [Link.refreshHold_of_hold (by rw [Link.startTx_inUse, Link.startTx_eq]; exact hold)] at key
  · rw [Link.pushNotice_of_full hl]
    exact ⟨use, notices, deferred, hold, idle, reply, notice⟩

theorem Link.pushNotices_sound (ns : List Notice) : ∀ {l : Link}, l.Sound → (ns.foldl Link.pushNotice l).Sound := by
  induction ns with
  | nil => exact fun h => h
  | cons n rest ih => exact fun h => ih (Link.pushNotice_sound n h)

/-- The end of a transmission keeps the link sound (R12). -/
theorem Link.endTx_sound {l : Link} (h : l.Sound) : l.endTx.Sound := by
  obtain ⟨use, notices, deferred, hold, idle, reply, notice⟩ := h
  unfold Link.endTx
  split
  case h_1 tx => exact ⟨use, notices, deferred, hold, idle, reply, notice⟩
  case h_2 tx =>
    exact Link.started_sound (by simp [Link.inUse] at use ⊢; omega) notices deferred nofun nofun
  case h_3 tx =>
    exact Link.started_sound use (by simp; omega) deferred nofun nofun

@[simp] theorem Link.endTx_deferred (l : Link) : l.endTx.deferred = l.deferred := by
  unfold Link.endTx; split <;> simp

@[simp] theorem Link.endTx_rx (l : Link) : l.endTx.rx = l.rx := by
  unfold Link.endTx; split <;> simp

/-- A completion keeps the link sound: the entry that it takes was reserved (R10). -/
theorem Link.complete_sound {l : Link} {d : Deferred} {o : CompleteOutcome} (h : l.Sound) (some : l.deferred ≠ []) :
    (l.complete d o).Sound := by
  obtain ⟨use, notices, deferred, hold, idle, reply, notice⟩ := h
  have pos := List.length_pos_iff.mpr some
  refine Link.pushReply_sound _ ?_ notices ?_ notice
  · simp only [Link.inUse, List.length_tail] at use ⊢; omega
  · simp only [List.length_tail]; omega

end Sys2Proof.Machine
end

section
/-! Requests: the owning block of each request row, the effect of a row as the taking of its request (R3), and the lengths
that each kind admits. -/

namespace Sys2Proof.Machine

/-! ## Fields of a fixed length -/

/-- What an owner needs of a body with n field bytes. -/
abbrev OwnerOf : Nat → Type
  | 0 => Owner
  | n + 1 => Byte → OwnerOf n

/-- The owner of a request whose kind has exactly n field bytes (R212). -/
def withFields : (n : Nat) → OwnerOf n → List Byte → Option Owner
  | 0, take, [] => some take
  | 0, _, _ :: _ => none
  | _ + 1, _, [] => none
  | n + 1, take, b :: rest => withFields n (take b) rest

/-- What holds of an owner for all its field bytes. -/
def OwnerOf.All (P : Owner → Prop) : (n : Nat) → OwnerOf n → Prop
  | 0, take => P take
  | n + 1, take => ∀ b, OwnerOf.All P n (take b)

theorem withFields_isSome (n : Nat) : ∀ (take : OwnerOf n) (f : List Byte), (withFields n take f).isSome = true ↔ f.length = n := by
  induction n with
  | zero => intro take f; cases f <;> simp [withFields]
  | succ n ih => intro take f; cases f <;> simp [withFields, ih]

theorem withFields_all {P : Owner → Prop} (n : Nat) :
    ∀ {take : OwnerOf n} {f : List Byte} {o : Owner}, OwnerOf.All P n take → withFields n take f = some o → P o := by
  induction n with
  | zero =>
    intro take f o all h
    cases f with
    | nil => cases h; exact all
    | cons => cases h
  | succ n ih =>
    intro take f o all h
    cases f with
    | nil => cases h
    | cons b rest => exact ih (all b) h

/-- The zero field of a request without argument is a field that its owner tests (R3 test 6). -/
theorem zeroField_eq (o : Owner) (f : List Byte) :
    zeroField o f = withFields 1 (fun z => if z = 0 then o else refuse .badValue) f := by
  unfold zeroField
  split
  · rfl
  · rename_i h
    cases f with
    | nil => rfl
    | cons b rest =>
      cases rest with
      | nil => exact absurd rfl (h b)
      | cons => rfl

/-! ## The owner of each row -/

/-- The edit requests, LIVE or CUE by their target byte (R4). -/
def mixSetOwner (target bank mix state kind master ceiling rel1 rel2 click : Byte) : Owner :=
  editTarget target bank (mixSetLive mix state kind master ceiling rel1 rel2 click)
    fun b => mixSetCue b mix state kind master ceiling rel1 rel2
def addSendOwner (target bank mix slot level balance self mute : Byte) : Owner :=
  editTarget target bank (addSendLive mix slot level balance self mute) fun b => addSendCue b mix slot level balance self mute
def setSendOwner (target bank mix slot flags level balance self mute : Byte) : Owner :=
  editTarget target bank (setSendLive mix slot flags level balance self mute)
    fun b => setSendCue b mix slot flags level balance self mute
def removeSendOwner (target bank mix slot : Byte) : Owner :=
  editTarget target bank (removeSendLive mix slot) fun b => removeSendCue b mix slot

/-- CLICK_SET (R191). -/
def clickSetOwner (a b c d accent count : Byte) : Owner := clickRequest fun k =>
  k.setTo (clampNat 2400 192000 (nat32 a b c d)) (clampNat 1 16 accent.toNat) (clampNat 0 64 count.toNat)

/-- The owner of PACK_TEXT: an address and 1..32 characters (R155, R212). -/
def packTextOwner : List Byte → Option Owner
  | address :: c :: rest => if rest.length ≤ 31 then some (packText address (c :: rest)) else none
  | _ => none

/-- What the owning block of a request row does; none when its body length is not one the kind allows, and none for a row that
is no request or whose kind is unknown. -/
def requestOwner : Instr → Option Owner
  | .ident _ f => zeroField identify f
  | .status _ f => zeroField reportStatus f
  | .reset _ f => zeroField resetPart f
  | .noticeSet _ f => withFields 2 noticeSet f
  | .format _ f => withFields 8 setFormat f
  | .start _ f => zeroField startEngine f
  | .stop _ f => zeroField stopEngine f
  | .bindStream _ f => withFields 6 bindStream f
  | .unbindStream _ f => withFields 1 unbindStream f
  | .flushStream _ f => withFields 1 flushStream f
  | .setStream _ f => withFields 2 setStream f
  | .queryStream _ f => withFields 1 queryStream f
  | .bindSlot _ f => withFields 5 bindSlot f
  | .setSlot _ f => withFields 3 setSlot f
  | .unbindSlot _ f => withFields 1 unbindSlot f
  | .querySlot _ f => withFields 1 querySlot f
  | .mixSetLive _ f => withFields 10 mixSetOwner f
  | .mixSetCue _ f => withFields 10 mixSetOwner f
  | .addSendLive _ f => withFields 8 addSendOwner f
  | .addSendCue _ f => withFields 8 addSendOwner f
  | .setSendLive _ f => withFields 9 setSendOwner f
  | .setSendCue _ f => withFields 9 setSendOwner f
  | .removeSendLive _ f => withFields 4 removeSendOwner f
  | .removeSendCue _ f => withFields 4 removeSendOwner f
  | .setTrim _ f => withFields 5 setTrim f
  | .queryMix _ f => withFields 2 queryMix f
  | .openCue _ f => withFields 2 openCue f
  | .takeLive _ f => withFields 3 takeLive f
  | .storeCue _ f => withFields 1 storeCue f
  | .closeCue _ f => withFields 2 closeCue f
  | .applyCue _ f => withFields 4 applyCueRequest f
  | .queryCue _ f => withFields 3 queryCue f
  | .queryScene _ f => withFields 3 queryScene f
  | .assignPack _ f => withFields 3 assignPack f
  | .removePack _ f => withFields 1 removePack f
  | .packText _ f => packTextOwner f
  | .queryPack _ f => withFields 1 queryPack f
  | .clickSet _ f => withFields 6 clickSetOwner f
  | .clickStart _ f => zeroField (clickRequest Click.started) f
  | .clickStop _ f => zeroField (clickRequest Click.stopRequested) f
  | .meterSet _ f => withFields 3 meterSet f
  | .queryCounters _ f => withFields 3 queryCounters f
  | _ => none

/-- Two ways to take a request are the same when they give it the same owner. -/
theorem next_takeRequest_congr {kind tag : Byte} {o o' : Option Owner} (h : o = o') (s : State) :
    (.next (takeRequest kind tag o s) : Host.Outcome State Fault Refusal) = .next (takeRequest kind tag o' s) := by rw [h]

/-- The effect of a request row whose kind is known is the taking of its request by its owner (R3). -/
theorem exec_known {i : Instr} {kind tag : Byte} {fields : List Byte} (known : ∀ k t f, i ≠ .unknownKindRequest k t f)
    (hk : kindOf i = some kind) (ht : tagAndFields i = some (tag, fields)) (s : State) :
    exec i s = .next (takeRequest kind tag (requestOwner i) s) := by
  cases i
  case unknownKindRequest k t f => exact absurd rfl (known k t f)
  all_goals cases hk
  all_goals cases ht
  all_goals refine next_takeRequest_congr ?_ s
  all_goals repeat' first | rfl | rcases fields with _ | ⟨_, fields⟩

/-- A request row brought as a body has the effect of the row. -/
theorem requestMeaning_eq_exec {i : Instr} {kind : Byte} (hk : kindOf i = some kind) (s : State) :
    requestMeaning i s = exec i s := by
  cases i
  all_goals cases hk
  all_goals rfl

/-! ## Lengths (R3 test 4, R212) -/

theorem zeroField_isSome (o : Owner) (f : List Byte) : (zeroField o f).isSome = true ↔ f.length = 1 := by
  rw [zeroField_eq]; exact withFields_isSome 1 _ f

theorem packTextOwner_isSome (f : List Byte) : (packTextOwner f).isSome = true ↔ 2 ≤ f.length ∧ f.length ≤ 33 := by
  rcases f with _ | ⟨address, _ | ⟨c, rest⟩⟩
  · simp [packTextOwner]
  · simp [packTextOwner]
  · simp only [packTextOwner, List.length_cons]
    split
    · simp; omega
    · simp; omega

/-- A request row has an owner when its body length is one that its kind admits. -/
theorem requestOwner_isSome {i : Instr} {kind tag : Byte} {fields : List Byte} (known : ∀ k t f, i ≠ .unknownKindRequest k t f)
    (hk : kindOf i = some kind) (ht : tagAndFields i = some (tag, fields)) :
    (requestOwner i).isSome = true ↔ fields.length + 2 ∈ admittedLengths kind := by
  cases i
  case unknownKindRequest k t f => exact absurd rfl (known k t f)
  all_goals cases hk
  all_goals cases ht
  case packText => simp only [requestOwner, packTextOwner_isSome, admittedLengths, BitVec.reduceToNat, List.mem_range'_1]; omega
  all_goals
    simp only [requestOwner, withFields_isSome, zeroField_isSome, admittedLengths, BitVec.reduceToNat, List.mem_singleton]
    omega

/-- A kind byte has admitted lengths just when it names a request kind (R3 test 2). -/
theorem admittedLengths_ne_nil {kind : Byte} : admittedLengths kind ≠ [] ↔ isRequestKind kind = true := by
  revert kind; decide

theorem kindOf_known {i : Instr} {kind : Byte} (known : ∀ k t f, i ≠ .unknownKindRequest k t f) (hk : kindOf i = some kind) :
    isRequestKind kind = true := by
  cases i
  case unknownKindRequest k t f => exact absurd rfl (known k t f)
  all_goals cases hk
  all_goals rfl
end Sys2Proof.Machine
end

section
/-! Requests: the Link Controller's tests in their order. -/

namespace Sys2Proof.Machine

/-! ## The tests of R3 -/

theorem takeRequest_full {s : State} (h : s.link.free = 0) (kind tag : Byte) (o : Option Owner) :
    takeRequest kind tag o s = s.withLink { s.link with overrun := count32 s.link.overrun } := if_pos h

theorem takeRequest_tagZero {s : State} (h : 1 ≤ s.link.free) (kind : Byte) (o : Option Owner) :
    takeRequest kind 0 o s = s.replyFail kind 0 .badValue := by
  unfold takeRequest; rw [if_neg (by omega), if_pos rfl]

theorem takeRequest_badLength {s : State} {tag : Byte} (h : 1 ≤ s.link.free) (ht : tag ≠ 0) (kind : Byte) :
    takeRequest kind tag none s = s.replyFail kind tag .badLength := by
  rw [takeRequest, if_neg (by omega), if_neg ht]

theorem takeRequest_tagInUse {s : State} {tag : Byte} (h : 1 ≤ s.link.free) (ht : tag ≠ 0) (held : s.link.holdsTag tag = true)
    (kind : Byte) (o : Owner) : takeRequest kind tag (some o) s = s.replyFail kind tag .tagInUse := by
  rw [takeRequest, if_neg (by omega), if_neg ht]
  simp only [held, if_true]

theorem takeRequest_refuse {s : State} {tag : Byte} (h : s.Admits tag) (kind : Byte) (e : ErrorCode) :
    takeRequest kind tag (some (refuse e)) s = s.replyFail kind tag e := takeRequest_admitted h

theorem takeUnknownKind_full {s : State} (h : s.link.free = 0) (kind tag : Byte) :
    takeUnknownKind kind tag s = s.withLink { s.link with overrun := count32 s.link.overrun } := if_pos h

theorem takeUnknownKind_free {s : State} (h : 1 ≤ s.link.free) (kind tag : Byte) :
    takeUnknownKind kind tag s = s.replyFail kind tag .unknownKind := if_neg (by omega)

/-- A request whose zero field is not 0 is refused by its owner (R3 test 6). -/
theorem requestOwner_zeroField {i : Instr} {kind tag : Byte} {z : Byte} (known : ∀ k t f, i ≠ .unknownKindRequest k t f)
    (hk : kindOf i = some kind) (ht : tagAndFields i = some (tag, [z])) (zero : kind ∈ zeroFieldKinds) (hz : z ≠ 0) :
    requestOwner i = some (refuse .badValue) := by
  cases i
  case unknownKindRequest k t f => exact absurd rfl (known k t f)
  all_goals cases hk
  all_goals cases ht
  all_goals simp only [zeroFieldKinds, List.mem_cons, List.not_mem_nil, or_false, BitVec.reduceEq, or_self] at zero
  all_goals exact congrArg some (if_neg hz)

/-- A byte that names no request kind has no admitted lengths, and no zero field. -/
theorem unknownKind_lengths {kind : Byte} (h : isRequestKind kind = false) : admittedLengths kind = [] ∧ kind ∉ zeroFieldKinds := by
  revert kind; decide

/-! ## The rows by their kind -/

/-- The tests of a request whose kind is known. -/
theorem known_request_tests {i : Instr} {kind tag : Byte} {fields : List Byte}
    (known : ∀ k t f, i ≠ .unknownKindRequest k t f) (hk : kindOf i = some kind) (ht : tagAndFields i = some (tag, fields))
    (s : State) :
    (s.link.free = 0 → exec i s = .next (s.withLink { s.link with overrun := count32 s.link.overrun }))
      ∧ (1 ≤ s.link.free → tag = 0 → exec i s = .next (s.replyFail kind tag .badValue))
      ∧ (1 ≤ s.link.free → tag ≠ 0 → fields.length + 2 ∉ admittedLengths kind →
          exec i s = .next (s.replyFail kind tag .badLength))
      ∧ (1 ≤ s.link.free → tag ≠ 0 → fields.length + 2 ∈ admittedLengths kind → s.link.holdsTag tag = true →
          exec i s = .next (s.replyFail kind tag .tagInUse))
      ∧ (s.Admits tag → fields.length = 1 → kind ∈ zeroFieldKinds → fields ≠ [0] →
          exec i s = .next (s.replyFail kind tag .badValue)) := by
  have taken := exec_known known hk ht s
  have lengths := requestOwner_isSome known hk ht
  refine ⟨fun free => ?_, fun free zero => ?_, fun free nonzero long => ?_, fun free nonzero fits held => ?_,
    fun admits one zero bad => ?_⟩
  · rw [taken, takeRequest_full free]
  · subst zero; rw [taken, takeRequest_tagZero free]
  · have none : requestOwner i = none := by simpa [long] using lengths
    rw [taken, none, takeRequest_badLength free nonzero]
  · obtain ⟨o, some⟩ := Option.isSome_iff_exists.mp (lengths.mpr fits)
    rw [taken, some, takeRequest_tagInUse free nonzero held]
  · obtain ⟨z, rfl⟩ := List.length_eq_one_iff.mp one
    have hz : z ≠ 0 := fun e => bad (by rw [e])
    rw [taken, requestOwner_zeroField known hk ht zero hz, takeRequest_refuse admits]

/-- Settles O8: a row of an unknown kind is overrun or refused, and every other row is the taking of its request. -/
theorem requestTestsInOrder : Obligations.RequestTestsInOrder := by
  unfold Obligations.RequestTestsInOrder
  intro i s kind tag fields wf hk ht
  by_cases row : ∃ k t f, i = .unknownKindRequest k t f
  · obtain ⟨k, t, f, rfl⟩ := row
    cases hk; cases ht
    have unknown : isRequestKind kind = false := by
      simp only [wellFormed, Bool.and_eq_true, Bool.not_eq_true'] at wf; exact wf.1
    obtain ⟨nil, notZero⟩ := unknownKind_lengths unknown
    rw [nil]
    refine ⟨fun free => ?_, fun free _ => ?_, fun _ h => absurd rfl h, fun _ h => absurd rfl h, fun _ _ h => absurd h nofun,
      fun _ _ h => absurd h notZero⟩
    · exact congrArg _ (takeUnknownKind_full free kind tag)
    · exact congrArg _ (takeUnknownKind_free free kind tag)
  · have known : ∀ k t f, i ≠ .unknownKindRequest k t f := fun k t f e => row ⟨k, t, f, e⟩
    obtain ⟨full, zero, length, inUse, field⟩ := known_request_tests known hk ht s
    have lengths := admittedLengths_ne_nil.mpr (kindOf_known known hk)
    exact ⟨full, fun _ h => absurd h lengths, fun free _ => zero free, fun free _ => length free, inUse, field⟩

end Sys2Proof.Machine
end

section
/-! Boundaries and the control link: windows raise notices only, and the deferred list is completed entry by entry. -/

namespace Sys2Proof.Machine

/-! ## Windows: the link gets notices and nothing else -/

/-- The link of t is that of s after some notices. -/
def Raises (s t : State) : Prop := ∃ ns : List Notice, t.link = ns.foldl Link.pushNotice s.link

theorem Raises.refl (s : State) : Raises s s := ⟨[], rfl⟩

theorem Raises.of_link_eq {s t : State} (h : t.link = s.link) : Raises s t := ⟨[], h⟩

theorem Raises.trans {s t u : State} (h : Raises s t) (k : Raises t u) : Raises s u := by
  obtain ⟨ns, h⟩ := h
  obtain ⟨ms, k⟩ := k
  exact ⟨ns ++ ms, by rw [k, h, List.foldl_append]⟩

/-- A change of the pack line before some notices. -/
theorem Raises.after_withLine {s t : State} {l : PackLine} (h : Raises (s.withLine l) t) : Raises s t := h

theorem State.raisePack_raises (s : State) (n : Notice) : Raises s (s.raisePack n) := by
  unfold State.raisePack
  split
  · exact ⟨[n], rfl⟩
  · exact Raises.refl s

theorem State.raiseQueues_raises (s : State) (q : List (List NoticeGroup)) : Raises s (s.raiseQueues q) := by
  obtain ⟨ns, d, h⟩ := State.raiseQueues_eq s q
  exact ⟨ns, by rw [h]; rfl⟩

theorem State.refuseJoin_raises (s : State) (k : Serial) (r : JoinRefusal) : Raises s (s.refuseJoin k r) :=
  Raises.after_withLine (State.raisePack_raises _ _)

theorem State.helloUnknown_raises (s : State) (k : Serial) : Raises s (s.helloUnknown k) := by
  unfold State.helloUnknown
  split
  · exact State.refuseJoin_raises _ _ _
  · split
    · exact State.refuseJoin_raises _ _ _
    · exact Raises.of_link_eq rfl

theorem State.helloKnown_raises (s : State) (k : Serial) (a : Fin 24) : Raises s (s.helloKnown k a) := by
  unfold State.helloKnown
  split
  · exact State.refuseJoin_raises _ _ _
  · split
    · exact Raises.of_link_eq rfl
    · exact Raises.after_withLine (State.raisePack_raises _ _)
    · exact Raises.of_link_eq rfl

theorem State.hello_raises (s : State) (k : Serial) : Raises s (s.hello k) := by
  unfold State.hello
  split
  · exact State.helloKnown_raises _ _ _
  · exact State.helloUnknown_raises _ _

theorem State.collision_raises (s : State) : Raises s s.collision := by
  unfold State.collision
  split
  · exact Raises.of_link_eq rfl
  · exact Raises.after_withLine (State.raisePack_raises _ _)

theorem State.closeAnnounce_raises (s : State) (heard : Option (List Byte)) : Raises s (s.closeAnnounce heard) := by
  unfold State.closeAnnounce
  split
  · refine Raises.after_withLine (l := { s.line with announceOpen := false }) ?_
    dsimp only
    split
    · exact Raises.of_link_eq rfl
    · split
      · exact Raises.after_withLine (State.hello_raises _ _)
      · exact State.collision_raises _
  · exact Raises.refl s

theorem State.decideRequest_link (s : State) (a : Fin 24) (k : Byte) (v : Int) (more : Bool) :
    (s.decideRequest a k v more).link = s.link := by
  unfold State.decideRequest
  split
  · rfl
  · dsimp only
    split
    · rfl
    · split <;> rfl

theorem State.closePoll_link (s : State) (a : Fin 24) (heard : Option (List Byte)) : (s.closePoll a heard).link = s.link := by
  unfold State.closePoll
  split
  · rfl
  · split
    · rfl
    · exact State.decideRequest_link _ _ _ _ _
    · rfl

theorem State.confirmFailed_raises (s : State) (a : Fin 24) : Raises s (s.confirmFailed a) := by
  unfold State.confirmFailed
  dsimp only
  split
  · exact Raises.of_link_eq rfl
  · exact Raises.after_withLine (State.raisePack_raises _ _)

theorem State.closeConfirm_raises (s : State) (a : Fin 24) (heard : Option (List Byte)) : Raises s (s.closeConfirm a heard) := by
  unfold State.closeConfirm
  split
  · exact Raises.after_withLine (State.confirmFailed_raises _ _)
  · split
    · exact Raises.after_withLine (State.raisePack_raises _ _)
    · exact Raises.after_withLine (State.confirmFailed_raises _ _)

theorem State.decreasePresence_raises (s : State) : Raises s s.decreasePresence := by
  unfold State.decreasePresence
  dsimp only
  split
  · exact Raises.after_withLine (State.raiseQueues_raises _ _)
  · exact Raises.of_link_eq rfl

theorem State.closeGranted_raises (s : State) (w : GrantWindow) (heard : Option (List Byte)) :
    Raises s (s.closeGranted w heard) := by
  unfold State.closeGranted
  dsimp only
  refine Raises.trans (Raises.trans ?_ (State.decreasePresence_raises _)) (Raises.of_link_eq rfl)
  split
  · exact Raises.refl s
  · split
    · exact State.closeConfirm_raises _ _ _
    · exact Raises.of_link_eq (State.closePoll_link _ _ _)

theorem State.closeGrantedWindow_raises (s : State) (heard : Option (List Byte)) : Raises s (s.closeGrantedWindow heard) := by
  unfold State.closeGrantedWindow
  split
  · exact Raises.refl s
  · exact (State.closeAnnounce_raises s _).trans (State.closeGranted_raises _ _ _)

theorem State.closeWindows_raises (s : State) : Raises s s.closeWindows :=
  (State.closeAnnounce_raises s _).trans (State.closeGrantedWindow_raises _ _)

/-! ## After the windows no window is open -/

theorem State.closeGrantedWindow_window_none (s : State) (heard : Option (List Byte)) :
    (s.closeGrantedWindow heard).line.window = none := by
  unfold State.closeGrantedWindow
  split
  · assumption
  · rfl

/-! ## Deferred completions -/

@[simp] theorem State.applyCue_link (s : State) (b : Fin 4) (w : CueWork) (mode : ApplyMode) (mask : MixMask) (m : ApplyAt) :
    (s.applyCue b w mode mask m).1.link = s.link := by
  unfold State.applyCue
  dsimp only
  split <;> rfl

/-- An apply leaves its cue slot open and no longer APPLYING, and the other cue slots as they are. -/
theorem State.applyCue_slots (s : State) (b : Fin 4) (w : CueWork) (mode : ApplyMode) (mask : MixMask) (m : ApplyAt) :
    ∃ r : LastApply, (s.applyCue b w mode mask m).1.cues = s.cues.setSlot b (some { w with applying := false, last := some r }) := by
  unfold State.applyCue
  dsimp only
  split
  · exact ⟨_, rfl⟩
  · exact ⟨_, rfl⟩

theorem State.completeEntry_stop {s : State} {m : BlockNo} {d : Deferred} (h : d.job = .stop) :
    s.completeEntry m d = s.withLink (s.link.complete d .done) := by
  unfold State.completeEntry; rw [h]

theorem State.completeEntry_closed {s : State} {m : BlockNo} {d : Deferred} {b : Fin 4} {mode : ApplyMode} {mask : MixMask}
    (h : d.job = .apply b mode mask) (hw : s.cues.slots.get b = none) :
    s.completeEntry m d = s.withLink (s.link.complete d (.fail .cueClosed)) := by
  unfold State.completeEntry; rw [h]; simp only [hw]

theorem State.completeEntry_apply {s : State} {m : BlockNo} {d : Deferred} {b : Fin 4} {mode : ApplyMode} {mask : MixMask}
    {w : CueWork} (h : d.job = .apply b mode mask) (hw : s.cues.slots.get b = some w) :
    s.completeEntry m d = (s.applyCue b w mode mask (.boundary m)).1.withLink
      (s.link.complete d (applyResult (s.applyCue b w mode mask (.boundary m)).2)) := by
  unfold State.completeEntry; rw [h]; simp only [hw, State.applyCue_link]

/-- A deferred completion takes its entry from the link with some outcome. -/
theorem State.completeEntry_link (s : State) (m : BlockNo) (d : Deferred) :
    ∃ o, (s.completeEntry m d).link = s.link.complete d o := by
  cases job : d.job with
  | stop => exact ⟨_, by rw [State.completeEntry_stop job]; rfl⟩
  | apply b mode mask =>
    cases slot : s.cues.slots.get b with
    | none => exact ⟨_, by rw [State.completeEntry_closed job slot]; rfl⟩
    | some w => exact ⟨_, by rw [State.completeEntry_apply job slot]; rfl⟩

@[simp] theorem State.completeEntry_deferred (s : State) (m : BlockNo) (d : Deferred) :
    (s.completeEntry m d).link.deferred = s.link.deferred.tail := by
  obtain ⟨o, h⟩ := State.completeEntry_link s m d
  rw [h, Link.complete_eq]

theorem State.completeDeferred_nil {s : State} (h : s.link.deferred = []) (m : BlockNo) : s.completeDeferred m = s := by
  unfold State.completeDeferred; rw [h]; rfl

/-- The first entry is carried out, and the rest is completed from the state that it leaves. -/
theorem State.completeDeferred_cons {s : State} {d : Deferred} {rest : List Deferred} (h : s.link.deferred = d :: rest)
    (m : BlockNo) : s.completeDeferred m = (s.completeEntry m d).completeDeferred m := by
  unfold State.completeDeferred
  rw [State.completeEntry_deferred, h]
  rfl

/-- What holds of a state, and is kept by the completion of the oldest entry, holds when the list is completed; and then the
list is empty. -/
theorem State.completeDeferred_induction {P : State → Prop} (m : BlockNo)
    (step : ∀ (s : State) (d : Deferred) (rest : List Deferred), s.link.deferred = d :: rest → P s → P (s.completeEntry m d)) :
    ∀ (s : State), P s → P (s.completeDeferred m) ∧ (s.completeDeferred m).link.deferred = [] := by
  have key : ∀ (ds : List Deferred) (s : State), s.link.deferred = ds → P s →
      P (s.completeDeferred m) ∧ (s.completeDeferred m).link.deferred = [] := by
    intro ds
    induction ds with
    | nil => intro s h p; rw [State.completeDeferred_nil h]; exact ⟨p, h⟩
    | cons d rest ih =>
      intro s h p
      rw [State.completeDeferred_cons h]
      exact ih _ (by rw [State.completeEntry_deferred, h]; rfl) (step s d rest h p)
  exact fun s => key _ s rfl

end Sys2Proof.Machine
end

section
/-! What every step keeps of the control link, the block clock and the deferred list: the relations themselves, and how
replies, deferrals, boundaries and received bytes keep them. -/

namespace Sys2Proof.Machine

/-! ## The relations -/

/-- The part of a sound state that the control link, the block clock and the deferred list make up. -/
structure State.ControlSound (s : State) : Prop where
  link : s.link.Sound
  receiver : s.link.rx.Sound
  clock : s.clock.Sound
  deferral : s.DeferralSound

/-- Two states that the relations of the deferred list cannot tell apart. -/
structure SameDeferral (s t : State) : Prop where
  deferred : t.link.deferred = s.link.deferred
  mixing : t.clock.mixing = s.clock.mixing
  stopPending : t.clock.stopPending = s.clock.stopPending
  applying : ∀ b, t.cues.applying b = s.cues.applying b

theorem SameDeferral.sound {s t : State} (h : SameDeferral s t) (k : s.DeferralSound) : t.DeferralSound := by
  obtain ⟨mixing, tags, nonzero, last, pending, applies⟩ := k
  unfold State.DeferralSound
  rw [h.deferred, h.mixing, h.stopPending]
  exact ⟨mixing, tags, nonzero, last, pending, fun b => by rw [h.applying b]; exact applies b⟩

/-- Without deferred entries, no STOP is pending and no cue slot is APPLYING. -/
theorem deferralSound_of_empty {s : State} (deferred : s.link.deferred = []) (pending : s.clock.stopPending = false)
    (applying : ∀ b, s.cues.applying b = false) : s.DeferralSound := by
  unfold State.DeferralSound
  rw [deferred, pending]
  exact ⟨fun h => absurd rfl h, List.nodup_nil, nofun, nofun, rfl, fun b => by rw [applying b]; rfl⟩

theorem Link.free_pos {l : Link} : 1 ≤ l.free ↔ l.inUse ≤ 15 := by
  unfold Link.free; rw [show Config.replyCap = 16 from rfl]; omega

/-- A reply queued while an entry is free keeps the relations. -/
theorem State.ControlSound.reply {s : State} (h : s.ControlSound) (free : 1 ≤ s.link.free) (code : ReplyCode) (kind tag : Byte)
    (fields : List Byte) : (s.reply code kind tag fields).ControlSound := by
  obtain ⟨use, notices, deferred, hold, idle, reply, notice⟩ := h.link
  refine ⟨Link.pushReply_sound _ (Link.free_pos.mp free) notices deferred notice, ?_, h.clock, ?_⟩
  · rw [State.reply_eq, State.withLink_link, Link.pushReply_rx]; exact h.receiver
  · exact SameDeferral.sound (s := s)
      ⟨by rw [State.reply_eq, State.withLink_link, Link.pushReply_deferred], rfl, rfl, fun _ => rfl⟩ h.deferral

/-- A link that differs in its counters and settings only. -/
theorem State.ControlSound.withLink {s : State} (h : s.ControlSound) {l : Link} (sound : l.Sound)
    (deferred : l.deferred = s.link.deferred) (receiver : l.rx.Sound) : (s.withLink l).ControlSound :=
  ⟨sound, receiver, h.clock, SameDeferral.sound ⟨deferred, rfl, rfl, fun _ => rfl⟩ h.deferral⟩

/-! ## Deferral (R8) -/

theorem Cues.applying_setSlot (c : Cues) (b b' : Fin 4) (w : Option CueWork) :
    (c.setSlot b w).applying b' = if b' = b then w.any CueWork.applying else c.applying b' := by
  unfold Cues.applying Cues.setSlot
  rw [Table.get_set]
  split <;> rfl

/-- What a deferred job needs: an apply, a cue slot that is OPEN. -/
def State.mayDefer (s : State) : DeferredJob → Prop
  | .stop => True
  | .apply b _ _ => ∃ w, s.cues.slots.get b = some w ∧ w.applying = false

theorem State.markDeferred_apply {s : State} {b : Fin 4} {w : CueWork} (h : s.cues.slots.get b = some w) (mode : ApplyMode)
    (mask : MixMask) :
    s.markDeferred (.apply b mode mask) = s.withCues (s.cues.setSlot b (some { w with applying := true })) := by
  rw [State.markDeferred, Table.modify, h]; rfl

/-- The pending state that a deferred job makes visible agrees with the list that it joins. -/
theorem DeferralSound.append {s : State} {tag : Byte} {job : DeferredJob} (h : s.DeferralSound) (admits : s.Admits tag)
    (mixing : s.clock.mixing = true) (noStop : (s.link.deferred.any fun d => d.job == .stop) = false) (may : s.mayDefer job) :
    ((s.withLink { s.link with deferred := s.link.deferred ++ [{ tag := tag, job := job }] }).markDeferred job).DeferralSound := by
  obtain ⟨_, nonzero, fresh⟩ := admits
  obtain ⟨_, tags, nonzeros, _, pending, applies⟩ := h
  have freshTag : tag ∉ s.link.deferred.map Deferred.tag := by
    intro mem
    obtain ⟨d, hd, rfl⟩ := List.mem_map.mp mem
    simp only [Link.holdsTag, List.any_eq_false, beq_iff_eq] at fresh
    exact fresh d hd rfl
  have noStops : ∀ d ∈ s.link.deferred, d.job ≠ .stop := by simpa using noStop
  have list : ((s.withLink { s.link with deferred := s.link.deferred ++ [{ tag := tag, job := job }] }).markDeferred
      job).link.deferred = s.link.deferred ++ [{ tag := tag, job := job }] := by cases job <;> rfl
  unfold State.DeferralSound
  rw [list, List.dropLast_concat, List.map_append]
  refine ⟨fun _ => ?_, ?_, ?_, noStops, ?_, fun b => ?_⟩
  · cases job <;> exact mixing
  · exact List.Nodup.append tags (List.nodup_singleton _) (by simpa using freshTag)
  · simpa [or_imp, forall_and] using ⟨nonzeros, nonzero⟩
  · cases job with
    | stop => simp [State.markDeferred]
    | apply c mode mask =>
      have other : (DeferredJob.apply c mode mask == .stop) = false := rfl
      simpa [State.markDeferred, other] using pending
  · rw [List.filter_append, List.length_append, applies b]
    cases job with
    | stop => rfl
    | apply c mode mask =>
      obtain ⟨w, slot, open'⟩ := may
      have before : s.cues.applying c = false := by unfold Cues.applying; rw [slot]; exact open'
      have marked := fun l => State.markDeferred_apply (s := s.withLink l) slot mode mask
      rw [marked]
      simp only [State.withCues_cues, Cues.applying_setSlot]
      by_cases hb : b = c
      · subst hb; simp [before, Deferred.isApply]
      · simp [hb, Deferred.isApply, Ne.symm hb]


theorem State.markDeferred_link (s : State) (job : DeferredJob) : (s.markDeferred job).link = s.link := by cases job <;> rfl

theorem State.markDeferred_clock_sound {s : State} (job : DeferredJob) (h : s.clock.Sound) (mixing : s.clock.mixing = true) :
    (s.markDeferred job).clock.Sound := by
  cases job with
  | stop =>
    obtain ⟨format, running, _, spell, holdover, bounds⟩ := h
    exact ⟨format, running, fun rest => absurd (mixing.symm.trans rest) nofun, spell, holdover, bounds⟩
  | apply => exact h

/-- A request that defers is refused, answered RETRY, or joins the list (R8). -/
theorem State.ControlSound.deferRequest {s : State} {kind tag : Byte} {job : DeferredJob} (h : s.ControlSound)
    (admits : s.Admits tag) (mixing : s.clock.mixing = true) (may : s.mayDefer job) :
    (s.deferRequest kind tag job).ControlSound := by
  unfold State.deferRequest
  split
  · exact h.reply admits.1 _ _ _ _
  · split
    · exact h.reply admits.1 _ _ _ _
    · split
      · exact h.reply admits.1 _ _ _ _
      · rename_i noStop room free
        obtain ⟨use, notices, _, _, idle, _, notice⟩ := h.link
        have list := DeferralSound.append h.deferral admits mixing (by simpa using noStop) may
        have clock := State.markDeferred_clock_sound job h.clock mixing
        refine ⟨?_, ?_, ?_, ?_⟩
        · rw [State.reply_eq, State.withLink_link, State.markDeferred_link]
          refine Link.pushReply_sound _ ?_ notices ?_ notice
          · simp only [Link.free, Config.replyCap, Link.inUse, State.withLink_link, List.length_append,
              List.length_singleton] at free use ⊢
            omega
          · simp only [State.withLink_link, List.length_append, List.length_singleton, Config.deferredCap] at room ⊢
            omega
        · rw [State.reply_eq, State.withLink_link, Link.pushReply_rx, State.markDeferred_link]; exact h.receiver
        · cases job <;> exact clock
        · exact SameDeferral.sound (s := (s.withLink _).markDeferred job)
            ⟨by rw [State.reply_eq, State.withLink_link, Link.pushReply_deferred], rfl, rfl, fun _ => rfl⟩ list

/-! ## Owners -/

/-- What an owner answers without deferring, the relations and the count of reply entries kept. -/
structure Settled (s : State) (p : State × Answer) : Prop where
  sound : s.ControlSound → p.1.ControlSound
  inUse : p.1.link.inUse = s.link.inUse
  answers : ∀ job : DeferredJob, p.2 ≠ .wouldDefer job

/-- What an owner answers that touches neither the link nor the clock, nor which cue slots are APPLYING, and does not defer. -/
structure Plain (s : State) (p : State × Answer) : Prop where
  link : p.1.link = s.link
  clock : p.1.clock = s.clock
  applying : ∀ b, p.1.cues.applying b = s.cues.applying b
  answers : ∀ job : DeferredJob, p.2 ≠ .wouldDefer job

/-- A request keeps the relations under every reply that the Link Controller makes of it. -/
def Owner.KeepsControl (take : Owner) : Prop :=
  ∀ (s : State) (kind tag : Byte), s.ControlSound → s.Admits tag → ((take s).1.answer kind tag (take s).2).ControlSound

/-- An answer that does not defer is one reply. -/
theorem State.ControlSound.answer {s : State} {a : Answer} (h : s.ControlSound) (free : 1 ≤ s.link.free)
    (answers : ∀ job, a ≠ .wouldDefer job) (kind tag : Byte) : (s.answer kind tag a).ControlSound := by
  cases a with
  | done | data | retry | fail => exact h.reply free _ _ _ _
  | wouldDefer job => exact absurd rfl (answers job)

theorem Settled.answer {s : State} {p : State × Answer} (h : Settled s p) (k : s.ControlSound) (free : 1 ≤ s.link.free)
    (kind tag : Byte) : (p.1.answer kind tag p.2).ControlSound :=
  (h.sound k).answer (by rw [Link.free_pos, h.inUse]; exact Link.free_pos.mp free) h.answers kind tag

theorem keepsControl_of_settled {take : Owner} (h : ∀ s, Settled s (take s)) : Owner.KeepsControl take :=
  fun s kind tag k admits => (h s).answer k admits.1 kind tag

theorem Plain.sound {s : State} {p : State × Answer} (h : Plain s p) (k : s.ControlSound) : p.1.ControlSound :=
  ⟨by rw [h.link]; exact k.link, by rw [h.link]; exact k.receiver, by rw [h.clock]; exact k.clock,
   SameDeferral.sound ⟨by rw [h.link], by rw [h.clock], by rw [h.clock], h.applying⟩ k.deferral⟩

theorem Plain.settled {s : State} {p : State × Answer} (h : Plain s p) : Settled s p :=
  ⟨h.sound, by rw [h.link], h.answers⟩

theorem keepsControl_of_plain {take : Owner} (h : ∀ s, Plain s (take s)) : Owner.KeepsControl take :=
  keepsControl_of_settled fun s => (h s).settled

/-- The taking of a request keeps the relations if its owner does. -/
theorem State.ControlSound.takeRequest {s : State} {o : Option Owner} (h : s.ControlSound)
    (keeps : ∀ take, o = some take → Owner.KeepsControl take) (kind tag : Byte) : (takeRequest kind tag o s).ControlSound := by
  by_cases free : s.link.free = 0
  · rw [takeRequest_full free]; exact h.withLink h.link rfl h.receiver
  · have one : 1 ≤ s.link.free := by omega
    by_cases zero : tag = 0
    · subst zero; rw [takeRequest_tagZero one]; exact h.reply one _ _ _ _
    · cases o with
      | none => rw [takeRequest_badLength one zero]; exact h.reply one _ _ _ _
      | some take =>
        cases held : s.link.holdsTag tag with
        | true => rw [takeRequest_tagInUse one zero held]; exact h.reply one _ _ _ _
        | false =>
          rw [takeRequest_admitted ⟨one, zero, held⟩]
          exact keeps take rfl s kind tag h ⟨one, zero, held⟩

end Sys2Proof.Machine
end

section
/-! The owners of the requests, one by one: which leave link, clock and pending cue slots alone, and what the others do to them. -/

namespace Sys2Proof.Machine

/-! ## Owners that leave link, clock and APPLYING cue slots alone -/

theorem Plain.of_state {s t : State} {a : Answer} (link : t.link = s.link) (clock : t.clock = s.clock)
    (applying : ∀ b, t.cues.applying b = s.cues.applying b) (answers : ∀ job : DeferredJob, a ≠ .wouldDefer job) :
    Plain s (t, a) := ⟨link, clock, applying, answers⟩

theorem Plain.kept {s t : State} {a : Answer} (link : t.link = s.link) (clock : t.clock = s.clock) (cues : t.cues = s.cues)
    (answers : ∀ job : DeferredJob, a ≠ .wouldDefer job) : Plain s (t, a) :=
  Plain.of_state link clock (fun _ => by rw [cues]) answers

theorem plain_refuse (e : ErrorCode) (s : State) : Plain s (refuse e s) := Plain.kept rfl rfl rfl nofun

theorem plain_identify (s : State) : Plain s (identify s) := Plain.kept rfl rfl rfl nofun

theorem plain_reportStatus (s : State) : Plain s (reportStatus s) := Plain.kept rfl rfl rfl nofun

theorem plain_bindStream (index a b c channels accept : Byte) (s : State) : Plain s (bindStream index a b c channels accept s) := by
  unfold bindStream
  dsimp only
  repeat' split
  all_goals exact Plain.kept rfl rfl rfl nofun

theorem plain_withBoundStream {index : Byte} {f : Fin 8 → Owner} (h : ∀ i s, Plain s (f i s)) (s : State) :
    Plain s (withBoundStream index f s) := by
  unfold withBoundStream
  split
  · exact Plain.kept rfl rfl rfl nofun
  · split
    · exact h _ s
    · exact Plain.kept rfl rfl rfl nofun

theorem plain_unbindStream (index : Byte) (s : State) : Plain s (unbindStream index s) :=
  plain_withBoundStream (fun i s => by dsimp only; split <;> exact Plain.kept rfl rfl rfl nofun) s

theorem plain_flushStream (index : Byte) (s : State) : Plain s (flushStream index s) := by
  refine plain_withBoundStream (fun i s => ?_) s
  exact Plain.kept rfl rfl rfl nofun

theorem plain_setStream (index accept : Byte) (s : State) : Plain s (setStream index accept s) :=
  plain_withBoundStream (fun i s => by dsimp only; split <;> exact Plain.kept rfl rfl rfl nofun) s

theorem plain_queryStream (index : Byte) (s : State) : Plain s (queryStream index s) := by
  unfold queryStream
  split <;> exact Plain.kept rfl rfl rfl nofun

theorem plain_bindSlot (slot stream channel polarity hold : Byte) (s : State) :
    Plain s (bindSlot slot stream channel polarity hold s) := by
  unfold bindSlot
  repeat' split
  all_goals exact Plain.kept rfl rfl rfl nofun

theorem plain_setSlot (slot polarity hold : Byte) (s : State) : Plain s (setSlot slot polarity hold s) := by
  unfold setSlot
  repeat' split
  all_goals exact Plain.kept rfl rfl rfl nofun

theorem plain_unbindSlot (slot : Byte) (s : State) : Plain s (unbindSlot slot s) := by
  unfold unbindSlot
  repeat' split
  all_goals exact Plain.kept rfl rfl rfl nofun

theorem plain_querySlot (slot : Byte) (s : State) : Plain s (querySlot slot s) := by
  unfold querySlot
  split <;> exact Plain.kept rfl rfl rfl nofun

theorem plain_mixSetLive (mix state kind master ceiling rel1 rel2 click : Byte) (s : State) :
    Plain s (mixSetLive mix state kind master ceiling rel1 rel2 click s) := by
  unfold mixSetLive
  dsimp only
  repeat' split
  all_goals exact Plain.kept rfl rfl rfl nofun

theorem plain_addSendLive (mix slot level balance self mute : Byte) (s : State) :
    Plain s (addSendLive mix slot level balance self mute s) := by
  unfold addSendLive
  dsimp only
  repeat' split
  all_goals exact Plain.kept rfl rfl rfl nofun

theorem plain_setSendLive (mix slot flags level balance self mute : Byte) (s : State) :
    Plain s (setSendLive mix slot flags level balance self mute s) := by
  unfold setSendLive
  dsimp only
  repeat' split
  all_goals exact Plain.kept rfl rfl rfl nofun

theorem plain_removeSendLive (mix slot : Byte) (s : State) : Plain s (removeSendLive mix slot s) := by
  unfold removeSendLive
  dsimp only
  repeat' split
  all_goals exact Plain.kept rfl rfl rfl nofun

theorem plain_setTrim (mix volume self others dim : Byte) (s : State) : Plain s (setTrim mix volume self others dim s) := by
  unfold setTrim
  repeat' split
  all_goals exact Plain.kept rfl rfl rfl nofun

theorem plain_queryMix (mix start : Byte) (s : State) : Plain s (queryMix mix start s) := by
  unfold queryMix
  split <;> exact Plain.kept rfl rfl rfl nofun

theorem plain_assignPack (address mix role : Byte) (s : State) : Plain s (assignPack address mix role s) := by
  unfold assignPack
  dsimp only
  repeat' split
  all_goals exact Plain.kept rfl rfl rfl nofun

theorem plain_removePack (address : Byte) (s : State) : Plain s (removePack address s) := by
  unfold removePack
  dsimp only
  repeat' split
  all_goals exact Plain.kept rfl rfl rfl nofun

theorem plain_packText (address : Byte) (chars : List Byte) (s : State) : Plain s (packText address chars s) := by
  unfold packText
  dsimp only
  repeat' split
  all_goals exact Plain.kept rfl rfl rfl nofun

theorem plain_queryPack (address : Byte) (s : State) : Plain s (queryPack address s) := by
  unfold queryPack
  repeat' split
  all_goals exact Plain.kept rfl rfl rfl nofun

theorem plain_clickRequest (f : Click → Click) (s : State) : Plain s (clickRequest f s) := Plain.kept rfl rfl rfl nofun

theorem plain_meterSet (meters a b : Byte) (s : State) : Plain s (meterSet meters a b s) := by
  unfold meterSet
  dsimp only
  repeat' split
  all_goals exact Plain.kept rfl rfl rfl nofun

/-! ## Owners that write a cue slot -/

/-- A cue slot whose APPLYING mark is the one it had. -/
theorem Plain.setSlot {s : State} {a : Answer} {c : Cues} {b : Fin 4} {w : Option CueWork} (slots : c.slots = s.cues.slots)
    (same : w.any CueWork.applying = s.cues.applying b) (answers : ∀ job : DeferredJob, a ≠ .wouldDefer job) :
    Plain s (s.withCues (c.setSlot b w), a) := by
  refine ⟨rfl, rfl, fun b' => ?_, answers⟩
  have kept : c.applying b' = s.cues.applying b' := by unfold Cues.applying; rw [slots]
  rw [State.withCues_cues, Cues.applying_setSlot, kept]
  split
  · rename_i h; rw [h]; exact same
  · rfl

theorem Cues.applying_of_slot {c : Cues} {b : Fin 4} {w : CueWork} (h : c.slots.get b = some w) :
    c.applying b = w.applying := by
  unfold Cues.applying; rw [h]; rfl

theorem plain_withOpenCue {b : Fin 4} {f : CueWork → Owner} {s : State}
    (h : ∀ w, s.cues.slots.get b = some w → w.applying = false → Plain s (f w s)) : Plain s (withOpenCue b f s) := by
  unfold withOpenCue
  split
  · exact Plain.kept rfl rfl rfl nofun
  · split
    · exact Plain.kept rfl rfl rfl nofun
    · rename_i w slot busy
      exact h w slot (by simpa using busy)

theorem plain_withBank {bank : Byte} {f : Fin 4 → Owner} {s : State} (h : ∀ b, Plain s (f b s)) :
    Plain s (withBank bank f s) := by
  unfold withBank
  split
  · exact Plain.kept rfl rfl rfl nofun
  · exact h _

theorem plain_editCopy {s : State} {b : Fin 4} {w : CueWork} (h : s.cues.slots.get b = some w) (i : Fin 16) (e : MixEntry)
    {a : Answer} (answers : ∀ job : DeferredJob, a ≠ .wouldDefer job) : Plain s (s.editCopy b w i e, a) :=
  Plain.setSlot rfl (Cues.applying_of_slot h).symm answers

theorem plain_mixSetCue (b : Fin 4) (mix state kind master ceiling rel1 rel2 : Byte) (s : State) :
    Plain s (mixSetCue b mix state kind master ceiling rel1 rel2 s) := by
  unfold mixSetCue
  split
  · exact Plain.kept rfl rfl rfl nofun
  · split
    · exact plain_withOpenCue fun w slot _ => plain_editCopy slot _ _ nofun
    · exact Plain.kept rfl rfl rfl nofun

theorem plain_addSendCue (b : Fin 4) (mix slot level balance self mute : Byte) (s : State) :
    Plain s (addSendCue b mix slot level balance self mute s) := by
  unfold addSendCue
  split
  · split
    · refine plain_withOpenCue fun w slot _ => ?_
      dsimp only
      repeat' split
      · exact Plain.kept rfl rfl rfl nofun
      · exact Plain.kept rfl rfl rfl nofun
      · exact plain_editCopy slot _ _ nofun
    · exact Plain.kept rfl rfl rfl nofun
  · exact Plain.kept rfl rfl rfl nofun

theorem plain_setSendCue (b : Fin 4) (mix slot flags level balance self mute : Byte) (s : State) :
    Plain s (setSendCue b mix slot flags level balance self mute s) := by
  unfold setSendCue
  split
  · split
    · exact Plain.kept rfl rfl rfl nofun
    · refine plain_withOpenCue fun w slot _ => ?_
      dsimp only
      split
      · exact Plain.kept rfl rfl rfl nofun
      · exact plain_editCopy slot _ _ nofun
  · exact Plain.kept rfl rfl rfl nofun

theorem plain_removeSendCue (b : Fin 4) (mix slot : Byte) (s : State) : Plain s (removeSendCue b mix slot s) := by
  unfold removeSendCue
  split
  · refine plain_withOpenCue fun w slot _ => ?_
    dsimp only
    split
    · exact Plain.kept rfl rfl rfl nofun
    · exact plain_editCopy slot _ _ nofun
  · exact Plain.kept rfl rfl rfl nofun

theorem plain_editTarget {target bank : Byte} {live : Owner} {cue : Fin 4 → Owner} (hl : ∀ s, Plain s (live s))
    (hc : ∀ b s, Plain s (cue b s)) (s : State) : Plain s (editTarget target bank live cue s) := by
  unfold editTarget
  split
  · exact hl s
  · split
    · cases index? 4 bank with
      | none => exact plain_refuse _ s
      | some b => exact hc b s
    · exact plain_refuse _ s

theorem plain_takeLive (bank m1 m2 : Byte) (s : State) : Plain s (takeLive bank m1 m2 s) :=
  plain_withBank fun _ => plain_withOpenCue fun _ slot _ => Plain.setSlot rfl (Cues.applying_of_slot slot).symm nofun

theorem plain_openCue (bank row : Byte) (s : State) : Plain s (openCue bank row s) := by
  unfold openCue
  split
  · split
    · exact Plain.kept rfl rfl rfl nofun
    · rename_i slot
      exact Plain.setSlot rfl (by unfold Cues.applying; rw [slot]; rfl) nofun
  · exact Plain.kept rfl rfl rfl nofun

theorem plain_storeCue (bank : Byte) (s : State) : Plain s (storeCue bank s) :=
  plain_withBank fun _ => plain_withOpenCue fun _ slot _ => Plain.setSlot rfl (Cues.applying_of_slot slot).symm nofun

theorem plain_closeCue (bank writeback : Byte) (s : State) : Plain s (closeCue bank writeback s) := by
  refine plain_withBank fun b => ?_
  dsimp only
  split
  · exact Plain.kept rfl rfl rfl nofun
  · refine plain_withOpenCue fun w slot idle => ?_
    have open' : Option.any CueWork.applying none = s.cues.applying b := by rw [Cues.applying_of_slot slot, idle]; rfl
    split
    · exact Plain.setSlot rfl open' nofun
    · exact Plain.setSlot rfl open' nofun

theorem plain_queryCue (bank mix start : Byte) (s : State) : Plain s (queryCue bank mix start s) := by
  unfold queryCue
  split <;> exact Plain.kept rfl rfl rfl nofun

theorem plain_queryScene (scene mix start : Byte) (s : State) : Plain s (queryScene scene mix start s) := by
  unfold queryScene
  split <;> exact Plain.kept rfl rfl rfl nofun

end Sys2Proof.Machine
end

section
/-! The owners that act on the link, the clock or a pending cue slot: RESET, NOTICE_SET, FORMAT, START, STOP, APPLY_CUE and
QUERY_COUNTERS; and the requests of every row. -/

namespace Sys2Proof.Machine

/-! ## RESET -/

/-- The deferred entries of a RESET leave as ABORTED, oldest first (R17 step 1). -/
theorem Link.abortDeferred_eq (l : Link) :
    l.abortDeferred = { l with
      replies := l.replies ++ l.deferred.map fun d =>
        { code := .complete, tag := d.tag, kind := jobKind d.job, fields := outcomeBytes .aborted }
      deferred := []
      tx := if l.tx = .idle ∧ l.deferred ≠ [] then .reply else l.tx
      hold := if l.deferred = [] then l.hold else decide (12 ≤ l.replies.length + l.deferred.length) } := by
  have key : ∀ (ds : List Deferred) (l : Link), l.deferred = ds →
      ds.foldl (fun l d => l.complete d .aborted) l = { l with
        replies := l.replies ++ ds.map fun d =>
          { code := .complete, tag := d.tag, kind := jobKind d.job, fields := outcomeBytes .aborted }
        deferred := []
        tx := if l.tx = .idle ∧ ds ≠ [] then .reply else l.tx
        hold := if ds = [] then l.hold else decide (12 ≤ l.replies.length + ds.length) } := by
    intro ds
    induction ds with
    | nil => intro l h; cases l; cases h; simp
    | cons d rest ih =>
      intro l h
      rw [List.foldl_cons, ih _ (by rw [Link.complete_eq, h]; rfl), Link.complete_eq, h]
      by_cases idle : l.tx = .idle <;> by_cases more : rest = [] <;> simp [idle, more, Nat.add_comm, Nat.add_left_comm]
  exact key l.deferred l rfl

theorem Link.abortDeferred_inUse (l : Link) : l.abortDeferred.inUse = l.inUse := by
  rw [Link.abortDeferred_eq]; simp [Link.inUse]

@[simp] theorem Link.purgeNotices_inUse (l : Link) : l.purgeNotices.inUse = l.inUse := rfl
@[simp] theorem Link.defaultSettings_inUse (l : Link) : l.defaultSettings.inUse = l.inUse := rfl
theorem State.softReset_link (s : State) : s.softReset.link = s.link.abortDeferred.purgeNotices.defaultSettings := rfl

/-- RESET keeps the link sound (R17). -/
theorem Link.softReset_sound {l : Link} (h : l.Sound) : l.abortDeferred.purgeNotices.defaultSettings.Sound := by
  obtain ⟨use, notices, deferred, hold, idle, reply, notice⟩ := h
  have inUse := Link.abortDeferred_inUse l
  have held : l.abortDeferred.hold = decide (12 ≤ l.abortDeferred.inUse) := by
    rw [inUse, Link.abortDeferred_eq]
    by_cases none : l.deferred = []
    · simpa [none] using hold
    · exact if_neg none
  refine ⟨inUse.trans_le use, ?_, ?_, held, ?_, ?_, ?_⟩
  all_goals simp only [Link.defaultSettings, Link.purgeNotices, Link.abortDeferred_eq]
  · split
    · simp only [List.length_take]; omega
    · simp
  · simp
  · intro tx
    have : l.tx = .idle ∧ l.deferred = [] := by
      by_cases h : l.tx = .idle ∧ l.deferred ≠ [] <;> grind
    simp [idle this.1, this.2, this.1]
  · intro tx
    by_cases none : l.deferred = []
    · simpa [none] using reply (by simpa [none] using tx)
    · simp [none]
  · intro tx
    have : l.tx = .notice := by by_cases h : l.tx = .idle ∧ l.deferred ≠ [] <;> simp_all
    simpa [this] using notice this

theorem Clock.mixing_eq_false {c : Clock} (h1 : c.engine ≠ .running) (h2 : c.engine ≠ .holdover) : c.mixing = false := by
  simp [Clock.mixing, h1, h2]

theorem Clock.mixing_iff {c : Clock} : c.mixing = true ↔ c.engine = .running ∨ c.engine = .holdover := by
  simp [Clock.mixing]

/-- A clock at rest: in no mixing state, without timer, pending STOP and spell. -/
theorem Clock.rest_sound {c : Clock} (format : c.engine = .unformatted ↔ c.format = none)
    (engine : c.engine = .unformatted ∨ c.engine = .stopped ∨ c.engine = .armed) (timer : c.timer = none)
    (pending : c.stopPending = false) (unlocked : c.unlocked = false) (spell : c.spell = none)
    (bounds : ∀ f ∈ c.format.toList, 1 ≤ f.lag ∧ f.lag ≤ 4 ∧ f.syncId ≠ noStream) : c.Sound := by
  have rest : c.mixing = false :=
    Clock.mixing_eq_false (by rintro e; simp [e] at engine) (by rintro e; simp [e] at engine)
  refine ⟨format, fun h => absurd (rest.symm.trans h) nofun, fun _ => ⟨timer, pending, unlocked⟩, by rw [unlocked, spell]; rfl, ?_, bounds⟩
  intro e; simp [e] at engine

theorem Clock.stopped_sound {c : Clock} (format : c.format ≠ none)
    (bounds : ∀ f ∈ c.format.toList, 1 ≤ f.lag ∧ f.lag ≤ 4 ∧ f.syncId ≠ noStream) : c.stopped.Sound :=
  Clock.rest_sound ⟨nofun, fun h => absurd h format⟩ (.inr (.inl rfl)) rfl rfl rfl rfl bounds

theorem Clock.softReset_sound {c : Clock} (h : c.Sound) : c.softReset.Sound := by
  obtain ⟨_, _, _, _, _, bounds⟩ := h
  cases format : c.format with
  | none => exact Clock.rest_sound (by simp [Clock.softReset, format]) (by simp [Clock.softReset, format]) rfl rfl rfl rfl bounds
  | some f => exact Clock.rest_sound (by simp [Clock.softReset, format]) (by simp [Clock.softReset, format]) rfl rfl rfl rfl bounds

theorem State.ControlSound.softReset {s : State} (h : s.ControlSound) : s.softReset.ControlSound := by
  refine ⟨Link.softReset_sound h.link, ?_, Clock.softReset_sound h.clock, ?_⟩
  · show s.link.abortDeferred.rx.Sound
    rw [Link.abortDeferred_eq]; exact h.receiver
  · refine deferralSound_of_empty ?_ rfl fun b => ?_
    · show s.link.abortDeferred.deferred = []
      rw [Link.abortDeferred_eq]
    · show Option.any CueWork.applying ((Table.fill none : Table (Option CueWork) 4).get b) = false
      rw [Table.get_fill]; rfl

theorem State.softReset_inUse (s : State) : s.softReset.link.inUse = s.link.inUse := by
  rw [State.softReset_link, Link.defaultSettings_inUse, Link.purgeNotices_inUse, Link.abortDeferred_inUse]

theorem settled_resetPart (s : State) : Settled s (resetPart s) :=
  ⟨fun h => h.softReset, State.softReset_inUse s, fun _ => Answer.noConfusion⟩

/-! ## NOTICE_SET and QUERY_COUNTERS -/

/-- NOTICE_SET changes settings only (R14). -/
theorem Link.noticeSet?_frame {l l' : Link} {cls setting : Byte} (h : l.noticeSet? cls setting = some l') :
    l'.rx = l.rx ∧ l'.replies = l.replies ∧ l'.notices = l.notices ∧ l'.deferred = l.deferred ∧ l'.tx = l.tx
      ∧ l'.hold = l.hold := by
  unfold Link.noticeSet? at h
  split at h
  case h_6 => cases h
  all_goals
    obtain ⟨v, _, rfl⟩ := Option.map_eq_some_iff.mp h
    exact ⟨rfl, rfl, rfl, rfl, rfl, rfl⟩

/-- A link that agrees in queues, transmitter and hold line is sound too. -/
theorem Link.Sound.congr {l l' : Link} (h : l.Sound) (replies : l'.replies = l.replies) (notices : l'.notices = l.notices)
    (deferred : l'.deferred = l.deferred) (tx : l'.tx = l.tx) (hold : l'.hold = l.hold) : l'.Sound := by
  unfold Link.Sound Link.inUse
  rw [replies, notices, deferred, tx, hold]
  exact h

/-- A refusal, and any answer that leaves the state. -/
theorem Settled.same {s : State} {a : Answer} (answers : ∀ job : DeferredJob, a ≠ .wouldDefer job) : Settled s (s, a) :=
  ⟨id, rfl, answers⟩

theorem settled_noticeSet (cls setting : Byte) (s : State) : Settled s (noticeSet cls setting s) := by
  unfold noticeSet
  split
  · exact Settled.same nofun
  · rename_i l set
    obtain ⟨rx, replies, notices, deferred, tx, hold⟩ := Link.noticeSet?_frame set
    refine ⟨fun h => ?_, by simp [Link.inUse, replies, deferred], nofun⟩
    exact h.withLink (h.link.congr replies notices deferred tx hold) deferred (by rw [rx]; exact h.receiver)

theorem settled_clearGroup (s : State) (g : Group) {a : Answer} (answers : ∀ job : DeferredJob, a ≠ .wouldDefer job) :
    Settled s (clearGroup s g, a) := by
  cases g with
  | link => exact ⟨fun h => h.withLink h.link rfl h.receiver, rfl, answers⟩
  | clock | stage | stream | slotMiss | queue | line | pack =>
    exact ⟨fun h => ⟨h.link, h.receiver, h.clock, h.deferral⟩, rfl, answers⟩

theorem settled_queryCounters (group index clear : Byte) (s : State) : Settled s (queryCounters group index clear s) := by
  unfold queryCounters
  split
  · exact Settled.same nofun
  · exact Settled.same nofun
  · exact Settled.same nofun
  · split
    · exact settled_clearGroup s _ nofun
    · exact Settled.same nofun

end Sys2Proof.Machine
end

section
/-! The owners that defer or start and stop the engine, and every request row. -/

namespace Sys2Proof.Machine

/-! ## FORMAT, START, STOP -/

/-- Outside RUNNING and HOLDOVER nothing is deferred. -/
theorem State.ControlSound.rest {s : State} (h : s.ControlSound) (rest : s.clock.mixing = false) :
    s.link.deferred = [] ∧ ∀ b, s.cues.applying b = false := by
  obtain ⟨mixing, _, _, _, _, applies⟩ := h.deferral
  have none : s.link.deferred = [] := by
    by_contra some
    exact absurd (rest.symm.trans (mixing some)) nofun
  refine ⟨none, fun b => ?_⟩
  have count := applies b
  rw [none] at count
  cases busy : s.cues.applying b with
  | false => rfl
  | true => rw [busy] at count; exact absurd count nofun

/-- Entry into STOPPED with a format and an empty deferred list (R25). -/
theorem State.enterStopped_control {s : State} (link : s.link.Sound) (receiver : s.link.rx.Sound) (format : s.clock.format ≠ none)
    (bounds : ∀ f ∈ s.clock.format.toList, 1 ≤ f.lag ∧ f.lag ≤ 4 ∧ f.syncId ≠ noStream) (deferred : s.link.deferred = [])
    (applying : ∀ b, s.cues.applying b = false) : s.enterStopped.ControlSound :=
  ⟨link, receiver, Clock.stopped_sound format bounds, deferralSound_of_empty deferred rfl applying⟩

theorem settled_setFormat (r1 r2 r3 r4 lag i1 i2 i3 : Byte) (s : State) : Settled s (setFormat r1 r2 r3 r4 lag i1 i2 i3 s) := by
  unfold setFormat
  dsimp only
  repeat' split
  case h_2.isFalse.isFalse.isFalse rate _ fit state _ =>
    refine ⟨fun h => ?_, rfl, nofun⟩
    have rest : s.clock.mixing = false := Clock.mixing_eq_false (fun e => state (by simp [e])) (fun e => state (by simp [e]))
    obtain ⟨deferred, applying⟩ := h.rest rest
    refine State.enterStopped_control h.link h.receiver nofun ?_ deferred applying
    simp only [not_or] at fit
    simp only [State.withClock_clock, Option.toList_some, List.mem_singleton, forall_eq]
    exact ⟨by omega, by omega, fit.2.2.1⟩
  all_goals exact Settled.same nofun

theorem settled_startEngine (s : State) : Settled s (startEngine s) := by
  unfold startEngine
  split
  case h_2 engine =>
    refine ⟨fun h => ?_, rfl, nofun⟩
    have rest : s.clock.mixing = false := Clock.mixing_eq_false (by simp [engine]) (by simp [engine])
    obtain ⟨format, _, still, spell, _, bounds⟩ := h.clock
    obtain ⟨timer, pending, unlocked⟩ := still rest
    have noSpell : s.clock.spell = none := by rw [unlocked] at spell; simpa using spell.symm
    refine ⟨h.link, h.receiver, ?_, SameDeferral.sound (s := s) ⟨rfl, by rw [rest]; rfl, rfl, fun _ => rfl⟩ h.deferral⟩
    exact Clock.rest_sound ⟨nofun, fun none => absurd (format.mpr none) (by simp [engine])⟩ (.inr (.inr rfl)) timer pending
      unlocked noSpell bounds
  all_goals exact Settled.same nofun

theorem keepsControl_stopEngine : Owner.KeepsControl stopEngine := by
  intro s kind tag h admits
  have free := admits.1
  unfold stopEngine
  split
  case h_1 => exact h.reply free _ _ _ _
  case h_2 => exact h.reply free _ _ _ _
  case h_3 engine =>
    obtain ⟨deferred, applying⟩ := h.rest (Clock.mixing_eq_false (by simp [engine]) (by simp [engine]))
    obtain ⟨format, _, _, _, _, bounds⟩ := h.clock
    have formatted : s.clock.format ≠ none := fun none => absurd (format.mpr none) (by simp [engine])
    have stopped := State.enterStopped_control h.link h.receiver formatted bounds deferred applying
    have kept : s.enterStopped.link = s.link := rfl
    exact stopped.answer (a := .done []) (by rw [kept]; exact free) nofun kind tag
  case h_4 engine => exact h.deferRequest admits (Clock.mixing_iff.mpr (.inl engine)) trivial
  case h_5 engine => exact h.deferRequest admits (Clock.mixing_iff.mpr (.inr engine)) trivial

/-! ## APPLY_CUE -/

/-- An apply of an OPEN cue slot leaves link, clock and APPLYING cue slots alone. -/
theorem plain_applyCue {s : State} {b : Fin 4} {w : CueWork} (slot : s.cues.slots.get b = some w) (idle : w.applying = false)
    (mode : ApplyMode) (mask : MixMask) (m : ApplyAt) {a : Answer} (answers : ∀ job : DeferredJob, a ≠ .wouldDefer job) :
    Plain s ((s.applyCue b w mode mask m).1, a) := by
  refine Plain.of_state (State.applyCue_link s b w mode mask m) (State.applyCue_frame s b w mode mask m).clock (fun b' => ?_)
    answers
  obtain ⟨r, cues⟩ := State.applyCue_slots s b w mode mask m
  rw [cues, Cues.applying_setSlot]
  split
  · rename_i same; rw [same, Cues.applying_of_slot slot, idle]; rfl
  · rfl

theorem keepsControl_applyCueRequest (bank mode m1 m2 : Byte) : Owner.KeepsControl (applyCueRequest bank mode m1 m2) := by
  intro s kind tag h admits
  have refused : ∀ e, (s.answer kind tag (.fail e)).ControlSound := fun e => h.reply admits.1 _ _ _ _
  unfold applyCueRequest withBank
  split
  · exact refused _
  · dsimp only
    split
    · exact refused _
    · unfold withOpenCue
      split
      · exact refused _
      · split
        · exact refused _
        · rename_i w slot idle
          dsimp only
          split
          · rename_i mixing
            exact h.deferRequest admits mixing ⟨w, slot, by simpa using idle⟩
          · refine (plain_applyCue slot (by simpa using idle) _ _ _ ?_).settled.answer h admits.1 kind tag
            intro job
            split <;> nofun

/-! ## Every request row -/

theorem keepsControl_zeroField {o : Owner} {f : List Byte} {take : Owner} (keeps : Owner.KeepsControl o)
    (h : zeroField o f = some take) : Owner.KeepsControl take := by
  rw [zeroField_eq] at h
  refine withFields_all 1 (fun z => ?_) h
  show Owner.KeepsControl (if z = 0 then o else refuse .badValue)
  split
  · exact keeps
  · exact keepsControl_of_plain (plain_refuse _)

theorem keepsControl_packText {f : List Byte} {take : Owner} (h : packTextOwner f = some take) : Owner.KeepsControl take := by
  rcases f with _ | ⟨address, _ | ⟨c, rest⟩⟩
  · cases h
  · cases h
  · simp only [packTextOwner, Option.ite_none_right_eq_some, Option.some.injEq] at h
    obtain ⟨_, rfl⟩ := h
    exact keepsControl_of_plain (plain_packText _ _)

/-- The owner of every request row keeps the relations. -/
theorem requestOwner_keepsControl {i : Instr} {take : Owner} (h : requestOwner i = some take) : Owner.KeepsControl take := by
  cases i with
  | ident => exact keepsControl_zeroField (keepsControl_of_plain plain_identify) h
  | status => exact keepsControl_zeroField (keepsControl_of_plain plain_reportStatus) h
  | reset => exact keepsControl_zeroField (keepsControl_of_settled settled_resetPart) h
  | noticeSet => exact withFields_all 2 (fun a b => keepsControl_of_settled (settled_noticeSet a b)) h
  | format => exact withFields_all 8 (fun a b c d e f g h => keepsControl_of_settled (settled_setFormat a b c d e f g h)) h
  | start => exact keepsControl_zeroField (keepsControl_of_settled settled_startEngine) h
  | stop => exact keepsControl_zeroField keepsControl_stopEngine h
  | bindStream => exact withFields_all 6 (fun a b c d e f => keepsControl_of_plain (plain_bindStream a b c d e f)) h
  | unbindStream => exact withFields_all 1 (fun a => keepsControl_of_plain (plain_unbindStream a)) h
  | flushStream => exact withFields_all 1 (fun a => keepsControl_of_plain (plain_flushStream a)) h
  | setStream => exact withFields_all 2 (fun a b => keepsControl_of_plain (plain_setStream a b)) h
  | queryStream => exact withFields_all 1 (fun a => keepsControl_of_plain (plain_queryStream a)) h
  | bindSlot => exact withFields_all 5 (fun a b c d e => keepsControl_of_plain (plain_bindSlot a b c d e)) h
  | setSlot => exact withFields_all 3 (fun a b c => keepsControl_of_plain (plain_setSlot a b c)) h
  | unbindSlot => exact withFields_all 1 (fun a => keepsControl_of_plain (plain_unbindSlot a)) h
  | querySlot => exact withFields_all 1 (fun a => keepsControl_of_plain (plain_querySlot a)) h
  | mixSetLive | mixSetCue =>
    exact withFields_all 10 (fun a b c d e f g h i j => keepsControl_of_plain
      (plain_editTarget (plain_mixSetLive c d e f g h i j) fun k => plain_mixSetCue k c d e f g h i)) h
  | addSendLive | addSendCue =>
    exact withFields_all 8 (fun a b c d e f g h => keepsControl_of_plain
      (plain_editTarget (plain_addSendLive c d e f g h) fun k => plain_addSendCue k c d e f g h)) h
  | setSendLive | setSendCue =>
    exact withFields_all 9 (fun a b c d e f g h i => keepsControl_of_plain
      (plain_editTarget (plain_setSendLive c d e f g h i) fun k => plain_setSendCue k c d e f g h i)) h
  | removeSendLive | removeSendCue =>
    exact withFields_all 4 (fun a b c d => keepsControl_of_plain
      (plain_editTarget (plain_removeSendLive c d) fun k => plain_removeSendCue k c d)) h
  | setTrim => exact withFields_all 5 (fun a b c d e => keepsControl_of_plain (plain_setTrim a b c d e)) h
  | queryMix => exact withFields_all 2 (fun a b => keepsControl_of_plain (plain_queryMix a b)) h
  | openCue => exact withFields_all 2 (fun a b => keepsControl_of_plain (plain_openCue a b)) h
  | takeLive => exact withFields_all 3 (fun a b c => keepsControl_of_plain (plain_takeLive a b c)) h
  | storeCue => exact withFields_all 1 (fun a => keepsControl_of_plain (plain_storeCue a)) h
  | closeCue => exact withFields_all 2 (fun a b => keepsControl_of_plain (plain_closeCue a b)) h
  | applyCue => exact withFields_all 4 (fun a b c d => keepsControl_applyCueRequest a b c d) h
  | queryCue => exact withFields_all 3 (fun a b c => keepsControl_of_plain (plain_queryCue a b c)) h
  | queryScene => exact withFields_all 3 (fun a b c => keepsControl_of_plain (plain_queryScene a b c)) h
  | assignPack => exact withFields_all 3 (fun a b c => keepsControl_of_plain (plain_assignPack a b c)) h
  | removePack => exact withFields_all 1 (fun a => keepsControl_of_plain (plain_removePack a)) h
  | packText => exact keepsControl_packText h
  | queryPack => exact withFields_all 1 (fun a => keepsControl_of_plain (plain_queryPack a)) h
  | clickSet => exact withFields_all 6 (fun a b c d e f => keepsControl_of_plain (plain_clickRequest _)) h
  | clickStart => exact keepsControl_zeroField (keepsControl_of_plain (plain_clickRequest _)) h
  | clickStop => exact keepsControl_zeroField (keepsControl_of_plain (plain_clickRequest _)) h
  | meterSet => exact withFields_all 3 (fun a b c => keepsControl_of_plain (plain_meterSet a b c)) h
  | queryCounters => exact withFields_all 3 (fun a b c => keepsControl_of_settled (settled_queryCounters a b c)) h
  | powerOn | linkByteReceived | interByteGapExpiry | unknownKindRequest | transmitEnd | syncFrame | audioFrame
  | malformedStageFrame | syncWatchExpiry | holdoverTimerExpiry | announceWindowClose | grantedWindowClose
  | upstreamSignalAfterIdle => cases h

/-- A request row, of a known or an unknown kind, keeps the relations. -/
theorem State.ControlSound.request {s t : State} (h : s.ControlSound) {i : Instr} {kind : Byte} (hk : kindOf i = some kind)
    (run : exec i s = .next t) : t.ControlSound := by
  by_cases row : ∃ k t f, i = .unknownKindRequest k t f
  · obtain ⟨k, tag, f, rfl⟩ := row
    cases run
    by_cases free : s.link.free = 0
    · rw [takeUnknownKind_full free]; exact h.withLink h.link rfl h.receiver
    · rw [takeUnknownKind_free (by omega)]; exact h.reply (by omega) _ _ _ _
  · have known : ∀ k t f, i ≠ .unknownKindRequest k t f := fun k t f e => row ⟨k, t, f, e⟩
    obtain ⟨⟨tag, fields⟩, ht⟩ : ∃ p, tagAndFields i = some p := by
      cases i
      all_goals first | exact ⟨_, rfl⟩ | cases hk
    rw [exec_known known hk ht] at run
    cases run
    exact h.takeRequest (fun take own => requestOwner_keepsControl own) kind tag

end Sys2Proof.Machine
end

section
/-! Bodies: what a body decodes to, and what decodes to a row (R211, R212). -/

namespace Sys2Proof.Machine

/-- The row of a kind, a tag and fields carries them. -/
theorem kindOf_requestOf (kind tag : Byte) (fields : List Byte) : kindOf (requestOf kind tag fields) = some kind := by
  unfold requestOf
  split
  all_goals
    rename_i h
    try split
  all_goals first | rfl | exact congrArg some (BitVec.eq_of_toNat_eq h.symm)

theorem tagAndFields_requestOf (kind tag : Byte) (fields : List Byte) :
    tagAndFields (requestOf kind tag fields) = some (tag, fields) := by
  unfold requestOf
  split
  all_goals
    try split
  all_goals rfl

/-- A kind that is none of R212 gives the row of unknown kinds. -/
theorem requestOf_unknown {kind : Byte} (unknown : isRequestKind kind = false) (tag : Byte) (fields : List Byte) :
    requestOf kind tag fields = .unknownKindRequest kind tag fields := by
  unfold requestOf
  split
  case h_39 => rfl
  all_goals
    rename_i h
    exact absurd unknown (by rw [isRequestKind, h]; decide)

/-- The row of a body is well-formed: the fields fit, the kind of an unknown row is unknown, and the target byte is the row's. -/
theorem requestOf_wellFormed {fields : List Byte} (fits : fieldsFit fields = true) (kind tag : Byte) :
    wellFormed (requestOf kind tag fields) = true := by
  cases known : isRequestKind kind with
  | false => simp [requestOf_unknown known, wellFormed, known, fits]
  | true =>
    unfold requestOf
    split
    case h_39 => simp_all [isRequestKind]
    all_goals
      try split
    all_goals simp_all [wellFormed, tagAndFields]

/-- A well-formed request row is the row of its kind, tag and fields. -/
theorem requestOf_of_wellFormed {i : Instr} {kind tag : Byte} {fields : List Byte} (wf : wellFormed i = true)
    (hk : kindOf i = some kind) (ht : tagAndFields i = some (tag, fields)) :
    requestOf kind tag fields = i ∧ fieldsFit fields = true := by
  cases i
  all_goals cases hk
  all_goals cases ht
  all_goals simp only [wellFormed, Bool.and_eq_true, Bool.not_eq_true', tagAndFields] at wf
  case unknownKindRequest => exact ⟨requestOf_unknown wf.1 tag fields, wf.2⟩
  all_goals simp [requestOf, wf]

theorem encodeBody_eq_some {i : Instr} {body : List Byte} :
    encodeBody i = some body ↔
      ∃ kind tag fields, kindOf i = some kind ∧ tagAndFields i = some (tag, fields) ∧ body = kind :: tag :: fields := by
  unfold encodeBody
  constructor
  · intro h
    split at h
    · cases h; exact ⟨_, _, _, by assumption, by assumption, rfl⟩
    · cases h
  · rintro ⟨kind, tag, fields, hk, ht, rfl⟩
    rw [hk, ht]

theorem fieldsFit_iff {fields : List Byte} : fieldsFit fields = true ↔ 1 ≤ fields.length ∧ fields.length ≤ 248 := by
  simp [fieldsFit]

/-- Settles O53: a row is the row of its kind, tag and fields, and a body is those three. -/
theorem decodeOfEncode : Obligations.DecodeOfEncode := by
  unfold Obligations.DecodeOfEncode
  constructor
  · intro i body wf encode
    obtain ⟨kind, tag, fields, hk, ht, rfl⟩ := encodeBody_eq_some.mp encode
    obtain ⟨row, fits⟩ := requestOf_of_wellFormed wf hk ht
    obtain ⟨short, long⟩ := fieldsFit_iff.mp fits
    refine ⟨congrArg some row, ?_, ?_⟩
    · simp only [List.length_cons]; omega
    · simp only [List.length_cons]; omega
  · intro i body short long decode
    rcases body with _ | ⟨kind, _ | ⟨tag, fields⟩⟩
    · cases decode
    · cases decode
    · cases decode
      simp only [List.length_cons] at short long
      exact ⟨requestOf_wellFormed (fieldsFit_iff.mpr ⟨by omega, by omega⟩) kind tag,
        encodeBody_eq_some.mpr ⟨_, _, _, kindOf_requestOf _ _ _, tagAndFields_requestOf _ _ _, rfl⟩⟩

end Sys2Proof.Machine
end

section
/-! What every step keeps of the control link, the block clock and the deferred list: received bytes, windows and boundaries. -/

namespace Sys2Proof.Machine

/-! ## Frame assembly -/

theorem Receiver.hunting_sound (t : Time) : (Receiver.hunting t).Sound := ⟨fun _ => rfl, nofun, nofun, nofun⟩

theorem byteSum_concat (body : List Byte) (b : Byte) : byteSum (body ++ [b]) = byteSum body + b.toNat := by
  simp [byteSum]

/-- A byte keeps what frame assembly holds (R1). -/
theorem Receiver.receive_sound {r : Receiver} (h : r.Sound) (t : Time) (b : Byte) : (r.receive t b).1.Sound := by
  obtain ⟨empty, held, within, full⟩ := h
  unfold Receiver.receive
  split
  case h_1 => split; exacts [⟨fun _ => rfl, nofun, nofun, nofun⟩, Receiver.hunting_sound t]
  case h_2 =>
    split
    · rename_i fits
      refine ⟨nofun, fun _ => ⟨fits.1, fits.2, rfl⟩, fun _ => ?_, nofun⟩
      show 0 < b.toNat
      omega
    · exact Receiver.hunting_sound t
  case h_3 phase =>
    obtain ⟨low, high, sum⟩ := held (.inl phase)
    have room := within phase
    refine ⟨?_, fun _ => ⟨low, high, ?_⟩, ?_, ?_⟩
    · simp only [List.length_append, List.length_singleton]; split <;> simp
    · simp only [byteSum_concat, sum]; omega
    · simp only [List.length_append, List.length_singleton]; split <;> simp; omega
    · simp only [List.length_append, List.length_singleton]; split <;> simp; omega
  case h_4 => exact Receiver.hunting_sound t

/-- A link in which a frame may have been discarded. -/
theorem State.ControlSound.discard {s : State} (h : s.ControlSound) {l : Link} (either : l = s.link ∨ l = s.link.discardFrame) :
    (s.withLink l).ControlSound := by
  rcases either with rfl | rfl
  · exact h
  · exact h.withLink h.link rfl (Receiver.hunting_sound _)

theorem Link.settleGap_cases (l : Link) (t : Time) : l.settleGap t = l ∨ l.settleGap t = l.discardFrame := by
  unfold Link.settleGap; split
  · exact .inr rfl
  · exact .inl rfl

theorem Link.gapExpiry_cases (l : Link) : l.gapExpiry = l ∨ l.gapExpiry = l.discardFrame := by
  unfold Link.gapExpiry; split
  · exact .inl rfl
  · exact .inr rfl

/-- A complete body is the request that it decodes to, or, too short for one, nothing. -/
theorem State.takeBody_eq (s : State) (body : List Byte) :
    (∃ i kind, kindOf i = some kind ∧ s.takeBody body = exec i s) ∨ s.takeBody body = .next s := by
  unfold State.takeBody
  rcases body with _ | ⟨kind, _ | ⟨tag, fields⟩⟩
  · exact .inr rfl
  · exact .inr rfl
  · have hk := kindOf_requestOf kind tag fields
    exact .inl ⟨_, kind, hk, requestMeaning_eq_exec hk s⟩

theorem State.ControlSound.takeBody {s t : State} (h : s.ControlSound) {body : List Byte} (run : s.takeBody body = .next t) :
    t.ControlSound := by
  rcases State.takeBody_eq s body with ⟨i, kind, hk, eq⟩ | eq
  · exact h.request hk (eq.symm.trans run)
  · cases eq.symm.trans run; exact h

/-- The effect of a received byte by what it does to frame assembly (R1). -/
theorem exec_byte_taken {s : State} {t : Time} {b : Byte} {rx : Receiver}
    (h : (s.link.settleGap t).rx.receive t b = (rx, .taken)) :
    exec (.linkByteReceived t b) s = .next (s.withLink { s.link.settleGap t with rx := rx }) := by
  show execLinkByteReceived t b s = _
  simp only [execLinkByteReceived, h]

theorem exec_byte_discarded {s : State} {t : Time} {b : Byte} {rx : Receiver}
    (h : (s.link.settleGap t).rx.receive t b = (rx, .discarded)) :
    exec (.linkByteReceived t b) s = .next (s.withLink
      { s.link.settleGap t with rx := rx, linkErrors := count32 (s.link.settleGap t).linkErrors }) := by
  show execLinkByteReceived t b s = _
  simp only [execLinkByteReceived, h]

theorem exec_byte_complete {s : State} {t : Time} {b : Byte} {rx : Receiver} {body : List Byte}
    (h : (s.link.settleGap t).rx.receive t b = (rx, .complete body)) :
    exec (.linkByteReceived t b) s = (s.withLink { s.link.settleGap t with rx := rx }).takeBody body := by
  show execLinkByteReceived t b s = _
  simp only [execLinkByteReceived, h]

/-- A received byte keeps the relations: frame assembly goes on, a frame is discarded, or its request is taken. -/
theorem State.ControlSound.byte {s t : State} (h : s.ControlSound) {time : Time} {b : Byte}
    (run : exec (.linkByteReceived time b) s = .next t) : t.ControlSound := by
  have settled : (s.withLink (s.link.settleGap time)).ControlSound := h.discard (Link.settleGap_cases s.link time)
  have received := Receiver.receive_sound settled.receiver time b
  cases event : (s.link.settleGap time).rx.receive time b with
  | mk rx e =>
    have sound : rx.Sound := by simpa only [State.withLink_link, event] using received
    cases e with
    | taken =>
      cases (exec_byte_taken event).symm.trans run
      exact settled.withLink settled.link rfl sound
    | discarded =>
      cases (exec_byte_discarded event).symm.trans run
      exact settled.withLink settled.link rfl sound
    | complete body =>
      have taken : (s.withLink { s.link.settleGap time with rx := rx }).ControlSound := settled.withLink settled.link rfl sound
      exact taken.takeBody ((exec_byte_complete event).symm.trans run)

/-! ## Windows -/

/-- Notices, and blocks that the relations do not read. -/
theorem State.ControlSound.raised {s t : State} (h : s.ControlSound) (raises : Raises s t) (clock : t.clock = s.clock)
    (cues : t.cues = s.cues) : t.ControlSound := by
  obtain ⟨ns, link⟩ := raises
  obtain ⟨_, deferred, rx⟩ := Link.pushNotices_frame ns s.link
  refine ⟨by rw [link]; exact Link.pushNotices_sound ns h.link, by rw [link, rx]; exact h.receiver, by rw [clock]; exact h.clock, ?_⟩
  exact SameDeferral.sound ⟨by rw [link, deferred], by rw [clock], by rw [clock], fun _ => by rw [cues]⟩ h.deferral

theorem State.ControlSound.closeWindows {s : State} (h : s.ControlSound) : s.closeWindows.ControlSound :=
  h.raised (State.closeWindows_raises s) (State.closeWindows_window s).clock (State.closeWindows_window s).cues

/-! ## The clock after a boundary -/

/-- A mixing clock with its timer, and a spell that agrees with the clock being unlocked. -/
theorem Clock.mixing_sound {c : Clock} (engine : c.engine = .running ∨ c.engine = .holdover) (format : c.format ≠ none)
    (block : c.lastBlock.isSome) (boundary : c.lastBoundary.isSome) (timer : c.timer.isSome) (spell : c.unlocked = c.spell.isSome)
    (holdover : c.engine = .holdover → c.unlocked = true)
    (bounds : ∀ f ∈ c.format.toList, 1 ≤ f.lag ∧ f.lag ≤ 4 ∧ f.syncId ≠ noStream) : c.Sound := by
  have mixing : c.mixing = true := Clock.mixing_iff.mpr engine
  refine ⟨⟨fun e => ?_, fun none => absurd none format⟩, fun _ => ⟨block, boundary, timer⟩,
    fun rest => absurd (mixing.symm.trans rest) nofun, spell, holdover, bounds⟩
  simp [e] at engine

theorem Clock.format_bounds {c : Clock} (h : c.Sound) : ∀ f ∈ c.format.toList, 1 ≤ f.lag ∧ f.lag ≤ 4 ∧ f.syncId ≠ noStream := by
  obtain ⟨_, _, _, _, _, bounds⟩ := h
  exact bounds

theorem Clock.afterSync_sound {c : Clock} (h : c.Sound) {f : Format} (format : c.format = some f) (t : Time) (n : BlockNo) :
    (c.afterSync f t n).Sound :=
  Clock.mixing_sound (.inl rfl) (by simp [Clock.afterSync, format]) rfl rfl rfl rfl nofun (Clock.format_bounds (c := c) h)

theorem Clock.afterRelock_sound {c : Clock} (h : c.Sound) {f : Format} (format : c.format = some f) (t : Time) (n : BlockNo)
    (jump : Int) : (c.afterRelock f t n jump).Sound :=
  Clock.mixing_sound (.inl rfl) (by simp [Clock.afterRelock, Clock.afterSync, format]) rfl rfl rfl rfl nofun (Clock.format_bounds (c := c) h)

theorem Clock.afterExpiry_sound {c : Clock} (h : c.Sound) {f : Format} (format : c.format = some f) (t : Time) :
    (c.afterExpiry f t).Sound :=
  Clock.mixing_sound (.inr rfl) (by simp [Clock.afterExpiry, format]) rfl rfl rfl rfl (fun _ => rfl) (Clock.format_bounds (c := c) h)

theorem Clock.afterRealign_sound {c : Clock} (h : c.Sound) {f : Format} (format : c.format = some f)
    (engine : c.engine = .holdover) (block : BlockNo) : (c.afterRealign f block).Sound := by
  obtain ⟨_, mixing, _, spell, _, bounds⟩ := h
  obtain ⟨last, boundary, _⟩ := mixing (Clock.mixing_iff.mpr (.inr engine))
  have timer : (c.lastBoundary.map (· + watchSpan f.rate)).isSome := by simpa using boundary
  unfold Clock.afterRealign
  dsimp only
  split
  · exact Clock.mixing_sound (.inl rfl) (by simp [format]) last boundary timer spell nofun bounds
  · exact Clock.mixing_sound (.inl rfl) (by simp [format]) rfl boundary timer (by simpa using spell) nofun bounds

/-! ## Boundaries -/

/-- While the deferred list is completed: the link is sound, and each apply in the list has its cue slot APPLYING. -/
structure Completing (s : State) : Prop where
  link : s.link.Sound
  receiver : s.link.rx.Sound
  applies : ∀ b : Fin 4, (s.link.deferred.filter (Deferred.isApply b)).length = if s.cues.applying b then 1 else 0

theorem Deferred.isApply_stop {d : Deferred} (h : d.job = .stop) (b : Fin 4) : d.isApply b = false := by
  unfold Deferred.isApply; rw [h]

theorem Deferred.isApply_apply {d : Deferred} {c : Fin 4} {mode : ApplyMode} {mask : MixMask} (h : d.job = .apply c mode mask)
    (b : Fin 4) : d.isApply b = (c == b) := by
  unfold Deferred.isApply; rw [h]

/-- The completion of the oldest entry, of a list in agreement with the cue slots. -/
theorem Completing.completeEntry {s : State} (m : BlockNo) {d : Deferred} {rest : List Deferred} (list : s.link.deferred = d :: rest)
    (h : Completing s) : Completing (s.completeEntry m d) := by
  obtain ⟨o, link⟩ := State.completeEntry_link s m d
  refine ⟨?_, ?_, fun b => ?_⟩
  · rw [link]; exact Link.complete_sound h.link (by rw [list]; exact nofun)
  · rw [link, Link.complete_eq]; exact h.receiver
  · have count := h.applies b
    rw [State.completeEntry_deferred, list, List.tail_cons]
    rw [list, List.filter_cons] at count
    cases job : d.job with
    | stop =>
      rw [State.completeEntry_stop job, State.withLink_cues]
      simpa only [Deferred.isApply_stop job, Bool.false_eq_true, if_false] using count
    | apply c mode mask =>
      rw [Deferred.isApply_apply job] at count
      cases slot : s.cues.slots.get c with
      | none =>
        have closed : s.cues.applying c = false := by unfold Cues.applying; rw [slot]; rfl
        have one := h.applies c
        rw [list, closed, List.filter_cons, Deferred.isApply_apply job, if_pos (beq_self_eq_true c)] at one
        exact absurd one nofun
      | some w =>
        obtain ⟨r, cues⟩ := State.applyCue_slots s c w mode mask (.boundary m)
        rw [State.completeEntry_apply job slot, State.withLink_cues, cues, Cues.applying_setSlot]
        by_cases same : b = c
        · subst same
          rw [if_pos (beq_self_eq_true b), List.length_cons] at count
          rw [if_pos rfl]
          show (rest.filter (Deferred.isApply b)).length = 0
          split at count <;> omega
        · rw [if_neg (by simpa using Ne.symm same)] at count
          rw [if_neg same]; exact count

/-- The deferred list completed: the link is sound, nothing is deferred and no cue slot is APPLYING. -/
theorem Completing.completeDeferred {s : State} (h : Completing s) (m : BlockNo) :
    (s.completeDeferred m).link.Sound ∧ (s.completeDeferred m).link.rx.Sound ∧ (s.completeDeferred m).link.deferred = []
      ∧ ∀ b, (s.completeDeferred m).cues.applying b = false := by
  obtain ⟨done, none⟩ := State.completeDeferred_induction (P := Completing) m
    (fun _ _ _ list k => k.completeEntry m list) s h
  refine ⟨done.link, done.receiver, none, fun b => ?_⟩
  have count := done.applies b
  rw [none] at count
  cases busy : (s.completeDeferred m).cues.applying b with
  | false => rfl
  | true => rw [busy] at count; exact absurd count nofun

theorem State.ControlSound.completing {s : State} (h : s.ControlSound) : Completing s := by
  obtain ⟨_, _, _, _, _, applies⟩ := h.deferral
  exact ⟨h.link, h.receiver, applies⟩

/-- The notices of a boundary, before the end of the meter interval. -/
theorem State.raised_interval {s t : State} (link : t.link = s.link) (queues : List (List NoticeGroup)) :
    Raises s (t.raiseQueues queues).endInterval :=
  ((Raises.of_link_eq link).trans (State.raiseQueues_raises t queues)).trans (Raises.of_link_eq (State.endInterval_frame _).1)

theorem State.mixBlock_raises (s before : State) (n : BlockNo) : Raises s (s.mixBlock before n) := by
  unfold State.mixBlock
  dsimp only
  refine State.raised_interval ?_ _
  rfl

/-- A boundary that mixes a block, with no STOP pending, keeps the relations. -/
theorem State.ControlSound.mixingBoundary {s : State} (h : s.ControlSound) {c : Clock} (clock : c.Sound)
    (pending : c.stopPending = false) (n : BlockNo) (relocked : Bool) : (s.mixingBoundary c n relocked).ControlSound := by
  have closed := h.closeWindows
  have before : Completing ((s.closeWindows.withClock c).withRing
      (if relocked then s.closeWindows.ring.relock (n - 1) else s.closeWindows.ring)) :=
    ⟨closed.link, closed.receiver, closed.completing.applies⟩
  obtain ⟨link, receiver, deferred, applying⟩ := before.completeDeferred n
  have now := (State.completeDeferred_frame ((s.closeWindows.withClock c).withRing
      (if relocked then s.closeWindows.ring.relock (n - 1) else s.closeWindows.ring)) n).clock
  unfold State.mixingBoundary
  dsimp only
  generalize ((s.closeWindows.withClock c).withRing
      (if relocked then s.closeWindows.ring.relock (n - 1) else s.closeWindows.ring)).completeDeferred n = u at *
  have sound : u.ControlSound :=
    ⟨link, receiver, by rw [now]; exact clock, deferralSound_of_empty deferred (by rw [now]; exact pending) applying⟩
  obtain ⟨sameClock, _, sameCues, _⟩ := State.mixBlock_fields u s n
  exact sound.raised (State.mixBlock_raises u s n) sameClock sameCues

/-- The stopping boundary keeps the relations. -/
theorem State.ControlSound.stoppingBoundary {s : State} (h : s.ControlSound) (format : s.clock.format ≠ none) (t : Time)
    (bySync : Bool) : (s.stoppingBoundary t bySync).ControlSound := by
  have closed := h.closeWindows
  have same := (State.closeWindows_window s).clock
  unfold State.stoppingBoundary
  dsimp only
  generalize clock : ({ s.closeWindows.clock with
    lastBoundary := some t
    syncBoundaries := if bySync then count32 s.closeWindows.clock.syncBoundaries else s.closeWindows.clock.syncBoundaries } : Clock)
    = c
  have fmt : c.format = s.clock.format := by rw [← clock, ← same]
  have before : Completing (s.closeWindows.withClock c) := ⟨closed.link, closed.receiver, closed.completing.applies⟩
  obtain ⟨link, receiver, deferred, applying⟩ := before.completeDeferred c.block
  have now := (State.completeDeferred_frame (s.closeWindows.withClock c) c.block).clock
  have kept : ((s.closeWindows.withClock c).completeDeferred c.block).clock.format = s.clock.format := by rw [now]; exact fmt
  exact State.enterStopped_control link receiver (by rw [kept]; exact format)
    (by rw [kept]; exact Clock.format_bounds h.clock) deferred applying

/-! ## Sync frames and expiries -/

theorem State.ControlSound.withClock {s : State} (h : s.ControlSound) {c : Clock} (clock : c.Sound)
    (mixing : c.mixing = s.clock.mixing) (pending : c.stopPending = s.clock.stopPending) : (s.withClock c).ControlSound :=
  ⟨h.link, h.receiver, clock, SameDeferral.sound (s := s) ⟨rfl, mixing, pending, fun _ => rfl⟩ h.deferral⟩

theorem State.ControlSound.syncBoundary {s : State} (h : s.ControlSound) {f : Format} (format : s.clock.format = some f) (t : Time)
    (block : BlockNo) : (s.syncBoundary f t block).ControlSound := by
  unfold State.syncBoundary
  dsimp only
  split
  · exact h.stoppingBoundary (by simp [format]) t true
  · rename_i pending
    have still : s.clock.stopPending = false := by simpa using pending
    split
    · exact h.mixingBoundary (Clock.afterSync_sound h.clock format _ _) still _ _
    · exact h.mixingBoundary (Clock.afterRelock_sound h.clock format _ _ _) still _ _

theorem State.ControlSound.realign {s : State} (h : s.ControlSound) {f : Format} (format : s.clock.format = some f)
    (engine : s.clock.engine = .holdover) (block : BlockNo) : (s.realign f block).ControlSound := by
  have sound := Clock.afterRealign_sound h.clock format engine block
  have pending : (s.clock.afterRealign f block).stopPending = s.clock.stopPending := by
    unfold Clock.afterRealign; dsimp only; split <;> rfl
  have mixing : (s.clock.afterRealign f block).mixing = s.clock.mixing := by
    have running : (s.clock.afterRealign f block).engine = .running := by unfold Clock.afterRealign; dsimp only; split <;> rfl
    rw [Clock.mixing_iff.mpr (.inl running), Clock.mixing_iff.mpr (.inr engine)]
  have clocked := h.withClock sound mixing pending
  exact ⟨clocked.link, clocked.receiver, clocked.clock, clocked.deferral⟩

theorem State.ControlSound.ownSync {s : State} (h : s.ControlSound) {f : Format} (format : s.clock.format = some f) (t : Time)
    (block : BlockNo) : (s.ownSync f t block).ControlSound := by
  unfold State.ownSync
  split
  case h_1 engine =>
    obtain ⟨_, _, still, _⟩ := h.clock
    obtain ⟨_, pending, _⟩ := still (Clock.mixing_eq_false (by simp [engine]) (by simp [engine]))
    exact h.mixingBoundary (Clock.afterSync_sound h.clock format _ _) pending _ _
  case h_2 engine =>
    split
    · exact h.withClock h.clock rfl rfl
    · exact h.syncBoundary format t block
  case h_3 engine =>
    split
    · exact h.realign format engine block
    · exact h.syncBoundary format t block
  case h_4 => exact h
  case h_5 => exact h

theorem State.ControlSound.takeSync {s : State} (h : s.ControlSound) (t : Time) (id : StreamId) (block : BlockNo) :
    (s.takeSync t id block).ControlSound := by
  unfold State.takeSync
  split
  · exact h.withClock h.clock rfl rfl
  · split
    · exact h.withClock h.clock rfl rfl
    · rename_i f format
      split
      · exact h.ownSync format t block
      · exact h.withClock h.clock rfl rfl

/-- A state that differs in blocks the relations do not read. -/
theorem State.ControlSound.of_eqs {s t : State} (h : s.ControlSound) (link : t.link = s.link) (clock : t.clock = s.clock)
    (cues : t.cues = s.cues) : t.ControlSound := h.raised (Raises.of_link_eq link) clock cues

theorem State.windowAndStore_frame (s : State) (i : Fin 8) (r : Stream) (damaged : Bool) (f : List Byte) :
    (s.windowAndStore i r damaged f).link = s.link ∧ (s.windowAndStore i r damaged f).clock = s.clock
      ∧ (s.windowAndStore i r damaged f).cues = s.cues := by
  unfold State.windowAndStore
  dsimp only
  repeat' split
  all_goals exact ⟨rfl, rfl, rfl⟩

theorem State.takeAudio_frame (s : State) (f : List Byte) :
    (s.takeAudio f).link = s.link ∧ (s.takeAudio f).clock = s.clock ∧ (s.takeAudio f).cues = s.cues := by
  unfold State.takeAudio
  dsimp only
  repeat' split
  case h_2.isFalse.isFalse.isFalse => exact State.windowAndStore_frame _ _ _ _ _
  all_goals exact ⟨rfl, rfl, rfl⟩

theorem State.ControlSound.stageFrame {s : State} (h : s.ControlSound) (t : Time) (f : List Byte) :
    (s.stageFrame t f).ControlSound := by
  unfold State.stageFrame
  split
  · exact h.of_eqs rfl rfl rfl
  · split
    · obtain ⟨link, clock, cues⟩ := State.takeAudio_frame s f
      exact h.of_eqs link clock cues
    · split
      · split
        · exact h.takeSync _ _ _
        · exact h.of_eqs rfl rfl rfl
      · exact h.of_eqs rfl rfl rfl

theorem State.ControlSound.timerExpiry {s : State} (h : s.ControlSound) (e : EngineState) : (s.timerExpiry e).ControlSound := by
  unfold State.timerExpiry
  split
  · split
    · rename_i t f _ format
      unfold State.expire
      split
      · exact h.stoppingBoundary (by simp [format]) t false
      · rename_i pending
        have still : s.clock.stopPending = false := by simpa using pending
        exact h.mixingBoundary (Clock.afterExpiry_sound h.clock format t) still _ _
    · exact h
  · exact h

/-! ## Every command -/

theorem State.reset_control : State.reset.ControlSound :=
  ⟨by decide, by decide, by decide, deferralSound_of_empty rfl rfl (by decide)⟩

theorem State.ControlSound.signalAfterIdle {s : State} (h : s.ControlSound) {t : State}
    (run : exec .upstreamSignalAfterIdle s = .next t) : t.ControlSound := by
  change execUpstreamSignalAfterIdle s = .next t at run
  unfold execUpstreamSignalAfterIdle at run
  cases run
  split
  · exact h.of_eqs rfl rfl rfl
  · exact h

/-- Every command keeps the relations of control link, clock and deferred list. -/
theorem exec_keeps_control {c : Instr} {s t : State} (h : s.ControlSound) (run : exec c s = .next t) : t.ControlSound := by
  cases kind : kindOf c with
  | some k => exact h.request kind run
  | none =>
    cases c
    case powerOn => cases run; exact State.reset_control.of_eqs rfl rfl rfl
    case linkByteReceived => exact h.byte run
    case interByteGapExpiry => cases run; exact h.discard (Link.gapExpiry_cases s.link)
    case transmitEnd => cases run; exact h.withLink (Link.endTx_sound h.link) (Link.endTx_deferred _) (by rw [Link.endTx_rx]; exact h.receiver)
    case syncFrame | audioFrame | malformedStageFrame => cases run; exact h.stageFrame _ _
    case syncWatchExpiry | holdoverTimerExpiry => cases run; exact h.timerExpiry _
    case announceWindowClose heard =>
      cases run
      exact h.raised (State.closeAnnounce_raises s heard) (State.closeAnnounce_window s heard).clock (State.closeAnnounce_window s heard).cues
    case grantedWindowClose heard =>
      cases run
      exact h.raised (State.closeGrantedWindow_raises s heard) (State.closeGrantedWindow_window s heard).clock
        (State.closeGrantedWindow_window s heard).cues
    case upstreamSignalAfterIdle => exact h.signalAfterIdle run
    all_goals cases kind

/-- Settles O55: a step idles or carries out the command at the front, and every command keeps the relations. -/
theorem stepKeepsLinkAndClock : Obligations.StepKeepsLinkAndClock := by
  unfold Obligations.StepKeepsLinkAndClock
  intro s t sound run
  have before : s.ControlSound := ⟨sound.link, sound.receiver, sound.clock, sound.deferral⟩
  have after : t.ControlSound := by
    unfold step at run
    split at run
    · cases run; exact before
    · rename_i rest _
      exact exec_keeps_control (s := s.withPending rest) (before.of_eqs rfl rfl rfl) run
  exact ⟨after.link, after.receiver, after.clock, after.deferral⟩

end Sys2Proof.Machine
end

section
/-! Power-on, received bytes, the queues and the transmitter, IDENT: the statements about the control link itself. -/

namespace Sys2Proof.Machine

/-! ## Power-on -/

/-- Settles O3: every range and relation is a finite fact about the power-on state. -/
theorem resetIsSound : Obligations.ResetIsSound where
  link := by decide
  receiver := by decide
  clock := by decide
  deferral := State.reset_control.deferral
  streams := by decide +kernel
  ring := by decide +kernel
  slots := by decide +kernel
  mixes := by decide +kernel
  limiters := by decide +kernel
  atRest := by decide +kernel
  cues := by decide +kernel
  line := by decide +kernel
  click := by decide
  meter := by decide
  counters := by decide +kernel

/-- Settles O4: POWER_ON gives the power-on state, with the waiting commands and the count of choices of the state before. -/
theorem powerOnValues : Obligations.PowerOnValues := by
  unfold Obligations.PowerOnValues
  intro s
  refine ⟨(State.reset.withPending s.pending).withDraws s.draws, rfl, rfl, rfl, rfl, rfl, rfl, rfl, rfl, rfl, rfl, rfl, rfl, rfl,
    rfl, rfl, rfl, rfl, rfl, rfl, rfl, rfl, rfl, rfl, rfl, rfl, ?_, ?_, rfl, ?_, ?_, ?_, ?_, ?_, ?_, rfl, rfl, rfl, rfl, rfl, rfl,
    rfl, rfl, rfl, rfl, rfl, rfl, rfl, rfl, ?_, rfl⟩
  · show ∀ n ∈ State.reset.deviceCounters, n = 0
    decide
  all_goals exact fun i => Table.get_fill _ i

/-! ## Received bytes -/

theorem Link.settleGap_of_running {l : Link} {t : Time} (h : l.gapExpired t = false) : l.settleGap t = l := by
  unfold Link.settleGap; rw [h]; rfl

theorem Link.settleGap_of_expired {l : Link} {t : Time} (h : l.gapExpired t = true) : l.settleGap t = l.discardFrame := by
  unfold Link.settleGap; rw [if_pos h]

/-- What a byte does in each receive state (R1). -/
theorem Receiver.receive_start {r : Receiver} (h : r.phase = .hunt) (t : Time) :
    r.receive t 0xC3 = ({ Receiver.hunting t with phase := .length }, .taken) := by
  simp only [Receiver.receive, h, if_true]

theorem Receiver.receive_other {r : Receiver} (h : r.phase = .hunt) (t : Time) {b : Byte} (other : b ≠ 0xC3) :
    r.receive t b = (Receiver.hunting t, .taken) := by
  simp only [Receiver.receive, h, if_neg other]

theorem Receiver.receive_length {r : Receiver} (h : r.phase = .length) (t : Time) {b : Byte} (fits : 3 ≤ b.toNat ∧ b.toNat ≤ 250) :
    r.receive t b = ({ phase := .body, declared := b.toNat, body := [], sum := b.toNat, lastAt := t }, .taken) := by
  simp only [Receiver.receive, h, if_pos fits]

theorem Receiver.receive_badLength {r : Receiver} (h : r.phase = .length) (t : Time) {b : Byte}
    (outside : ¬ (3 ≤ b.toNat ∧ b.toNat ≤ 250)) : r.receive t b = (Receiver.hunting t, .discarded) := by
  simp only [Receiver.receive, h, if_neg outside]

theorem Receiver.receive_body {r : Receiver} (h : r.phase = .body) (t : Time) (b : Byte) :
    r.receive t b = ({ phase := if r.body.length + 1 = r.declared then .check else .body, declared := r.declared,
                       body := r.body ++ [b], sum := r.sum + b.toNat, lastAt := t }, .taken) := by
  simp only [Receiver.receive, h, List.length_append, List.length_singleton]

theorem Receiver.receive_check {r : Receiver} (h : r.phase = .check) (t : Time) {b : Byte} (right : (r.sum + b.toNat) % 256 = 0) :
    r.receive t b = (Receiver.hunting t, .complete r.body) := by
  simp only [Receiver.receive, h, if_pos right]

theorem Receiver.receive_badCheck {r : Receiver} (h : r.phase = .check) (t : Time) {b : Byte}
    (wrong : (r.sum + b.toNat) % 256 ≠ 0) : r.receive t b = (Receiver.hunting t, .discarded) := by
  simp only [Receiver.receive, h, if_neg wrong]

/-- Settles O5: one clause for each receive state and kind of byte. -/
theorem linkBytesAssembleFrames : Obligations.LinkBytesAssembleFrames := by
  unfold Obligations.LinkBytesAssembleFrames
  intro s t b running
  have settled := Link.settleGap_of_running running
  refine ⟨fun phase other => ?_, fun phase start => ?_, fun phase low high => ?_, fun phase outside => ?_, fun phase => ?_,
    fun phase wrong => ?_, fun phase right => ?_⟩
  · rw [exec_byte_taken (by rw [settled]; exact Receiver.receive_other phase t other), settled]; rfl
  · subst start
    rw [exec_byte_taken (by rw [settled]; exact Receiver.receive_start phase t), settled]; rfl
  · rw [exec_byte_taken (by rw [settled]; exact Receiver.receive_length phase t ⟨low, high⟩), settled]
  · rw [exec_byte_discarded (by rw [settled]; exact Receiver.receive_badLength phase t (by omega)), settled]; rfl
  · rw [exec_byte_taken (by rw [settled]; exact Receiver.receive_body phase t b), settled]
  · rw [exec_byte_discarded (by rw [settled]; exact Receiver.receive_badCheck phase t wrong), settled]; rfl
  · rw [exec_byte_complete (by rw [settled]; exact Receiver.receive_check phase t right), settled]; rfl

/-- Settles O6: a frame in assembly is discarded at the expiry, or by the byte that finds the gap run out. -/
theorem gapDiscardsFrame : Obligations.GapDiscardsFrame := by
  unfold Obligations.GapDiscardsFrame
  intro s
  refine ⟨fun frame => ?_, fun hunt => ?_, fun t b frame late => ?_⟩
  · show (.next (s.withLink s.link.gapExpiry) : Host.Outcome State Fault Refusal) = _
    rw [Link.gapExpiry, if_neg frame]; rfl
  · show (.next (s.withLink s.link.gapExpiry) : Host.Outcome State Fault Refusal) = _
    rw [Link.gapExpiry, if_pos hunt]; rfl
  · have settled : s.link.settleGap t = s.link.discardFrame :=
      Link.settleGap_of_expired (by simpa [Link.gapExpired, frame, Config.gapLimit] using late)
    by_cases start : b = 0xC3
    · subst start
      rw [exec_byte_taken (by rw [settled]; exact Receiver.receive_start rfl t), settled]; rfl
    · rw [exec_byte_taken (by rw [settled]; exact Receiver.receive_other rfl t start), settled, if_neg start]; rfl

/-! ## Queues and transmitter -/

/-- The transmitter of a sound link idles only with empty queues, so an idle one starts the notice that is raised. -/
theorem Link.pushNotice_of_sound {l : Link} (h : l.Sound) {n : Notice} (room : l.notices.length < 64) :
    l.pushNotice n = { l with notices := l.notices ++ [n], tx := if l.tx = .idle then .notice else l.tx } := by
  obtain ⟨_, _, _, _, idle, _, _⟩ := h
  rw [Link.pushNotice_of_room room]
  by_cases tx : l.tx = .idle
  · rw [Link.startTx_idle (l := { l with notices := l.notices ++ [n] }) tx, if_pos tx]
    simp [Link.nextMessage, (idle tx).1]
  · rw [Link.startTx_busy (l := { l with notices := l.notices ++ [n] }) tx, if_neg tx]

/-- Settles O7. -/
theorem queuesAndTransmitter : Obligations.QueuesAndTransmitter := by
  unfold Obligations.QueuesAndTransmitter
  intro s sound
  refine ⟨fun code kind tag fields => ?_, fun n room => ?_, fun n full => ?_, fun r rest tx replies => ?_,
    fun n rest tx notices => ?_, fun tx => ?_⟩
  · rw [State.reply_eq, Link.pushReply_eq]
  · rw [State.raise, Link.pushNotice_of_sound sound room]
  · rw [State.raise, Link.pushNotice_of_full full.ge]; rfl
  · show (.next (s.withLink s.link.endTx) : Host.Outcome State Fault Refusal) = _
    rw [Link.endTx, tx]
    simp [Link.startTx, Link.refreshHold, Link.nextMessage, Link.inUse, replies]
  · obtain ⟨_, _, _, hold, _⟩ := sound
    show (.next (s.withLink s.link.endTx) : Host.Outcome State Fault Refusal) = _
    rw [Link.endTx, tx]
    simp only [notices, List.tail_cons]
    rw [Link.startTx_idle rfl, Link.refreshHold_of_hold (by exact hold)]
    rfl
  · show (.next (s.withLink s.link.endTx) : Host.Outcome State Fault Refusal) = _
    rw [Link.endTx, tx]
    rfl

/-! ## IDENT -/

/-- Settles O9. -/
theorem identReports : Obligations.IdentReports := by
  unfold Obligations.IdentReports
  intro s tag admits
  show (.next (takeRequest 0x01 tag (some identify) s) : Host.Outcome State Fault Refusal) = _
  rw [takeRequest_admitted admits]
  rfl

end Sys2Proof.Machine
end

section
/-! A frame received byte by byte: frame assembly takes START, length and body, and the check byte carries the request out. -/

namespace Sys2Proof.Machine

/-! ## Bytes that frame assembly takes -/

/-- Bytes taken by frame assembly one after the other, none after a gap that has run out; none when some byte is not taken so. -/
def Receiver.takes : List (Time × Byte) → Receiver → Option Receiver
  | [], r => some r
  | (t, b) :: rest, r =>
    if r.phase ≠ .hunt ∧ r.lastAt + 24000 < t then none
    else
      match r.receive t b with
      | (r', .taken) => Receiver.takes rest r'
      | _ => none

theorem Receiver.takes_cons {r r' : Receiver} {t : Time} {b : Byte} (soon : r.phase = .hunt ∨ t ≤ r.lastAt + 24000)
    (taken : r.receive t b = (r', .taken)) (rest : List (Time × Byte)) :
    Receiver.takes ((t, b) :: rest) r = Receiver.takes rest r' := by
  have running : ¬ (r.phase ≠ .hunt ∧ r.lastAt + 24000 < t) := by
    rintro ⟨frame, late⟩
    rcases soon with hunt | soon
    · exact frame hunt
    · exact absurd late (Nat.not_lt.mpr soon)
  rw [Receiver.takes, if_neg running, taken]

theorem Receiver.takes_append (xs ys : List (Time × Byte)) : ∀ r : Receiver,
    Receiver.takes (xs ++ ys) r = (Receiver.takes xs r).bind (Receiver.takes ys) := by
  induction xs with
  | nil => exact fun r => rfl
  | cons x rest ih =>
    intro r
    obtain ⟨t, b⟩ := x
    simp only [List.cons_append, Receiver.takes]
    split
    · rfl
    · split
      · exact ih _
      · rfl

/-- Bytes that frame assembly takes change the receiver only. -/
theorem feedBytes_of_takes (ps : List (Time × Byte)) : ∀ {s : State} {r : Receiver}, Receiver.takes ps s.link.rx = some r →
    feedBytes ps s = .next (s.withLink { s.link with rx := r }) := by
  induction ps with
  | nil => intro s r h; cases h; rfl
  | cons p rest ih =>
    intro s r h
    obtain ⟨t, b⟩ := p
    simp only [Receiver.takes] at h
    split at h
    · cases h
    · rename_i running
      have settled : s.link.settleGap t = s.link := by
        refine Link.settleGap_of_running ?_
        simpa [Link.gapExpired, Config.gapLimit] using running
      split at h
      · rename_i r' received
        rw [feedBytes, exec_byte_taken (by rw [settled]; exact received), settled]
        exact ih h
      · cases h

theorem feedBytes_append {xs : List (Time × Byte)} : ∀ {s s' : State}, feedBytes xs s = .next s' →
    ∀ ys, feedBytes (xs ++ ys) s = feedBytes ys s' := by
  induction xs with
  | nil => intro s s' h ys; cases h; rfl
  | cons p rest ih =>
    intro s s' h ys
    obtain ⟨t, b⟩ := p
    simp only [List.cons_append, feedBytes] at h ⊢
    split at h
    · exact ih h ys
    · rename_i other; exact absurd h (other s')

theorem feedBytes_one (t : Time) (b : Byte) (s : State) : feedBytes [(t, b)] s = exec (.linkByteReceived t b) s := by
  rw [feedBytes]
  cases exec (.linkByteReceived t b) s <;> rfl

/-! ## Times without a gap -/

/-- No gap of more than 2 ms between one time and the next. -/
abbrev Spaced (times : List Time) : Prop := ∀ j : Nat, ∀ t u, times[j]? = some t → times[j + 1]? = some u → u ≤ t + 24000

theorem Spaced.head {t u : Time} {rest : List Time} (h : Spaced (t :: u :: rest)) : u ≤ t + 24000 := h 0 t u rfl rfl

theorem Spaced.tail {t : Time} {rest : List Time} (h : Spaced (t :: rest)) : Spaced rest := fun j => h (j + 1)

theorem Spaced.left {xs ys : List Time} (h : Spaced (xs ++ ys)) : Spaced xs := by
  intro j t u ht hu
  have left : ∀ k v, xs[k]? = some v → (xs ++ ys)[k]? = some v := fun k v e => by
    rw [List.getElem?_append_left (List.getElem?_eq_some_iff.mp e).1]; exact e
  exact h j t u (left j t ht) (left (j + 1) u hu)

/-! ## The bytes of a frame -/

/-- Frame assembly takes the bytes of a body up to the declared number (R1). -/
theorem Receiver.takes_body (bytes : List Byte) : ∀ {r : Receiver} {times : List Time}, r.phase = .body → bytes ≠ [] →
    r.body.length + bytes.length = r.declared → times.length = bytes.length → Spaced (r.lastAt :: times) →
    ∃ last ∈ times.getLast?, Receiver.takes (times.zip bytes) r = some
      { phase := .check, declared := r.declared, body := r.body ++ bytes, sum := r.sum + byteSum bytes, lastAt := last } := by
  induction bytes with
  | nil => intro _ _ _ none; exact absurd rfl none
  | cons b rest ih =>
    intro r times phase _ declared length spaced
    rcases times with _ | ⟨t, times⟩
    · cases length
    simp only [List.length_cons, Nat.add_right_cancel_iff] at declared length
    have received := Receiver.receive_body phase t b
    rw [List.zip_cons_cons, Receiver.takes_cons (.inr spaced.head) received]
    rcases rest with _ | ⟨b', rest⟩
    · have full : r.body.length + 1 = r.declared := declared
      rw [List.length_eq_zero_iff.mp length, if_pos full]
      exact ⟨t, rfl, by simp [Receiver.takes, byteSum]⟩
    · have more : r.body.length + 1 ≠ r.declared := by simp only [List.length_cons] at declared; omega
      rw [if_neg more]
      obtain ⟨last, isLast, taken⟩ := ih (r := { r with phase := .body, body := r.body ++ [b], sum := r.sum + b.toNat, lastAt := t })
        rfl nofun (by simp only [List.length_append, List.length_cons, List.length_nil] at declared ⊢; omega) length spaced.tail
      refine ⟨last, ?_, taken.trans ?_⟩
      · rcases times with _ | ⟨u, times⟩
        · cases length
        · exact isLast
      · simp [byteSum, Nat.add_assoc]

/-- START, length and body of a frame, taken from HUNT, leave frame assembly before the check byte (R1). -/
theorem Receiver.takes_frame {r : Receiver} {body : List Byte} {times : List Time} (hunt : r.phase = .hunt)
    (short : 3 ≤ body.length) (long : body.length ≤ 250) (length : times.length = body.length + 2) (spaced : Spaced times) :
    ∃ last ∈ times.getLast?, Receiver.takes (times.zip (0xC3 :: BitVec.ofNat 8 body.length :: body)) r = some
      { phase := .check, declared := body.length, body := body, sum := body.length + byteSum body, lastAt := last } := by
  rcases times with _ | ⟨t0, _ | ⟨t1, times⟩⟩
  · cases length
  · cases length
  have number : (BitVec.ofNat 8 body.length).toNat = body.length := by simp; omega
  have declared := Receiver.receive_length (r := { Receiver.hunting t0 with phase := .length }) rfl t1
    (b := BitVec.ofNat 8 body.length) (by rw [number]; exact ⟨short, long⟩)
  rw [number] at declared
  have some : body ≠ [] := by rintro rfl; simp at short
  obtain ⟨last, isLast, taken⟩ := Receiver.takes_body body
    (r := { phase := .body, declared := body.length, body := [], sum := body.length, lastAt := t1 }) (times := times) rfl some
    (by simp) (by simpa using length) spaced.tail
  refine ⟨last, ?_, ?_⟩
  · rcases times with _ | ⟨u, times⟩
    · cases isLast
    · exact isLast
  · rw [List.zip_cons_cons, List.zip_cons_cons, Receiver.takes_cons (.inl hunt) (Receiver.receive_start hunt t0),
      Receiver.takes_cons (.inr spaced.head) declared, taken]
    rfl

/-- The check byte makes the sum of length, body and check a multiple of 256 (R211). -/
theorem linkCheck_sum (body : List Byte) : (body.length + byteSum body + (linkCheck body).toNat) % 256 = 0 := by
  simp only [linkCheck, byteSum, BitVec.toNat_ofNat]
  omega

theorem linkFrame_eq (body : List Byte) :
    linkFrame body = (0xC3 :: BitVec.ofNat 8 body.length :: body) ++ [linkCheck body] := rfl

/-- A prefix of bytes that frame assembly takes is taken too. -/
theorem Receiver.takes_take {ps : List (Time × Byte)} {r r' : Receiver} (h : Receiver.takes ps r = some r') (j : Nat) :
    ∃ r'', Receiver.takes (ps.take j) r = some r'' := by
  rw [← List.take_append_drop j ps, Receiver.takes_append] at h
  obtain ⟨r'', taken, _⟩ := Option.bind_eq_some_iff.mp h
  exact ⟨r'', taken⟩

/-- Settles O54: frame assembly takes every byte before the check byte, and the check byte completes the body, which decodes to
the row. -/
theorem frameBytesRunTheRequest : Obligations.FrameBytesRunTheRequest := by
  unfold Obligations.FrameBytesRunTheRequest
  intro s i body times last hunt wf encode length isLast spaced
  obtain ⟨decodes, short, long⟩ := decodeOfEncode.1 i body wf encode
  obtain ⟨kind, tag, fields, hk, ht, _⟩ := encodeBody_eq_some.mp encode
  obtain ⟨before, rfl⟩ : ∃ before, times = before ++ [last] := List.getLast?_eq_some_iff.mp isLast
  have count : before.length = (0xC3 :: BitVec.ofNat 8 body.length :: body : List Byte).length := by
    simpa [linkFrame] using length
  have pairs : (before ++ [last]).zip (linkFrame body)
      = before.zip (0xC3 :: BitVec.ofNat 8 body.length :: body) ++ [(last, linkCheck body)] := by
    rw [linkFrame_eq, List.zip_append count]; rfl
  obtain ⟨at', isAt, taken⟩ := Receiver.takes_frame hunt short long (by simpa using count) (Spaced.left spaced)
  have fed := feedBytes_of_takes _ taken
  rw [pairs]
  constructor
  · have soon : last ≤ at' + 24000 := by
      obtain ⟨front, rfl⟩ := List.getLast?_eq_some_iff.mp isAt
      exact spaced front.length at' last (by simp) (by simp)
    rw [feedBytes_append fed, feedBytes_one]
    generalize state : (s.withLink { s.link with
      rx := { phase := .check, declared := body.length, body := body, sum := body.length + byteSum body, lastAt := at' } }) = u
    have settled : u.link.settleGap last = u.link := by
      subst state
      exact Link.settleGap_of_running (decide_eq_false (Nat.not_lt.mpr soon))
    have received : (u.link.settleGap last).rx.receive last (linkCheck body) = (Receiver.hunting last, .complete body) := by
      rw [settled]; subst state; exact Receiver.receive_check rfl last (linkCheck_sum body)
    rw [exec_byte_complete received, settled, State.takeBody, decodes]
    simp only [requestMeaning_eq_exec hk]
    subst state
    rfl
  · intro j small
    obtain ⟨rx, part⟩ := Receiver.takes_take taken j
    refine ⟨rx, ?_⟩
    have inside : j ≤ (before.zip (0xC3 :: BitVec.ofNat 8 body.length :: body)).length := by
      rw [List.length_zip, ← count, Nat.min_self]
      simpa using Nat.lt_succ_iff.mp (by simpa using small)
    rw [List.take_append_of_le_length inside]
    exact feedBytes_of_takes _ part

end Sys2Proof.Machine
end

section
/-! RESET, the stopping boundary and the completion of the deferred list: what each leaves. -/

namespace Sys2Proof.Machine

/-! ## RESET -/

/-- Only a notice in transmission stays in the notice queue (R17 step 3). -/
theorem Link.purgeNotices_notices (l : Link) : l.purgeNotices.notices = if l.tx = .notice then l.notices.take 1 else [] := by
  unfold Link.purgeNotices
  cases l.tx <;> rfl

theorem Link.abortDeferred_tx_notice (l : Link) : l.abortDeferred.tx = .notice ↔ l.tx = .notice := by
  rw [Link.abortDeferred_eq]
  by_cases h : l.tx = .idle ∧ l.deferred ≠ []
  · simp [h]
  · simp [h]

/-- Settles O10. -/
theorem resetRequest : Obligations.ResetRequest := by
  unfold Obligations.ResetRequest
  intro s tag admits
  have abort := Link.abortDeferred_eq s.link
  refine ⟨s.softReset, ?_, ?_, ?_, ?_, ?_, ?_, ?_, ?_, ?_, ?_, rfl, rfl, rfl, rfl, rfl, rfl, rfl, rfl, rfl, rfl, rfl, rfl, ?_, rfl,
    rfl, rfl, rfl, rfl⟩
  · show (.next (takeRequest 0x03 tag (some resetPart) s) : Host.Outcome State Fault Refusal) = _
    rw [takeRequest_admitted admits]; rfl
  · show s.link.abortDeferred.replies = _
    rw [abort]; rfl
  · show s.link.abortDeferred.deferred = _
    rw [abort]
  · show s.link.abortDeferred.purgeNotices.notices = _
    rw [Link.purgeNotices_notices]
    simp only [Link.abortDeferred_tx_notice]
    rw [abort]
  · show s.link.abortDeferred.tx = _
    rw [abort]
  · show s.link.abortDeferred.hold = _
    rw [abort]
  · show s.link.abortDeferred.rx = _
    rw [abort]
  · show s.link.abortDeferred.linkErrors = _
    rw [abort]
  · show s.link.abortDeferred.overrun = _
    rw [abort]
  · show s.link.abortDeferred.noticesLost = _
    rw [abort]
  · intro a
    exact Table.get_map _ _ a

/-! ## The deferred list -/

theorem outcomeBytes_applyResult (o : ApplyOutcome) :
    outcomeBytes (applyResult o) = if o = .done then [0, 0] else [1, 18] := by
  cases o <;> rfl

/-- Settles O39: the first entry leaves the list as `State.completeEntry` says, and the rest is completed after it. -/
theorem deferredApply : Obligations.DeferredApply := by
  unfold Obligations.DeferredApply
  refine ⟨fun s n d b mode mask w list job slot => ?_, fun s n => ⟨fun none => State.completeDeferred_nil none n,
    fun d rest list => ⟨fun job => ?_, fun b mode mask w job slot => ?_⟩⟩⟩
  · have kind : jobKind d.job = 0x44 := by rw [job]; rfl
    have empty : (s.completeEntry n d).link.deferred = [] := by rw [State.completeEntry_deferred, list]; rfl
    dsimp only
    rw [State.completeDeferred_cons list, State.completeDeferred_nil empty, State.completeEntry_apply job slot]
    simp only [State.withLink_mixes, State.withLink_limiters, State.withLink_cues, State.withLink_link, Link.complete_eq, list,
      List.tail_cons, kind, outcomeBytes_applyResult, List.length_append, List.length_singleton, List.length_nil, Nat.add_zero,
      and_self]
  · have kind : jobKind d.job = 0x12 := by rw [job]; rfl
    rw [State.completeDeferred_cons list, State.completeEntry_stop job, Link.complete_eq, list, kind]
    rfl
  · have kind : jobKind d.job = 0x44 := by rw [job]; rfl
    dsimp only
    rw [State.completeDeferred_cons list, State.completeEntry_apply job slot, Link.complete_eq, list, kind,
      outcomeBytes_applyResult]
    simp only [State.applyCue_link, List.tail_cons]
    rfl

/-- What completing the deferred list does to the reply queue: one COMPLETE for each entry, in order. -/
theorem State.completeDeferred_replies (m : BlockNo) (s : State) :
    ∃ completions : List Reply, (s.completeDeferred m).link.replies = s.link.replies ++ completions
      ∧ completions.map Reply.tag = s.link.deferred.map Deferred.tag ∧ ∀ r ∈ completions, r.code = .complete := by
  generalize list : s.link.deferred = ds
  induction ds generalizing s with
  | nil => exact ⟨[], by rw [State.completeDeferred_nil list]; simp, rfl, nofun⟩
  | cons d rest ih =>
    obtain ⟨o, link⟩ := State.completeEntry_link s m d
    obtain ⟨completions, replies, tags, codes⟩ := ih (s.completeEntry m d) (by rw [State.completeEntry_deferred, list]; rfl)
    rw [link, Link.complete_eq] at replies
    refine ⟨{ code := .complete, tag := d.tag, kind := jobKind d.job, fields := outcomeBytes o } :: completions, ?_, ?_, ?_⟩
    · rw [State.completeDeferred_cons list, replies]; simp
    · rw [List.map_cons, List.map_cons, tags]
    · intro r mem
      rcases List.mem_cons.mp mem with rfl | mem
      · rfl
      · exact codes r mem

theorem State.completeDeferred_deferred (s : State) (m : BlockNo) : (s.completeDeferred m).link.deferred = [] :=
  (State.completeDeferred_induction (P := fun _ => True) m (fun _ _ _ _ _ => trivial) s trivial).2

/-! ## The stopping boundary: no window stays open -/

theorem State.raisePack_line (s : State) (n : Notice) : (s.raisePack n).line = s.line := by
  unfold State.raisePack; split <;> rfl

theorem State.raiseQueues_line (s : State) (q : List (List NoticeGroup)) : (s.raiseQueues q).line = s.line := by
  obtain ⟨ns, d, h⟩ := State.raiseQueues_eq s q
  rw [h]; rfl

theorem State.closeAnnounce_none (s : State) : (s.closeAnnounce none).line.announceOpen = false := by
  unfold State.closeAnnounce
  split
  · rfl
  · rename_i closed; simpa using closed

theorem State.closePoll_announceOpen (s : State) (a : Fin 24) (heard : Option (List Byte)) :
    (s.closePoll a heard).line.announceOpen = s.line.announceOpen := by
  have decided : ∀ (s : State) (kind : Byte) (value : Int) (more : Bool),
      (s.decideRequest a kind value more).line.announceOpen = s.line.announceOpen := by
    intro s kind value more
    unfold State.decideRequest
    dsimp only
    repeat' split
    all_goals rfl
  unfold State.closePoll
  split
  · rfl
  · split
    · rfl
    · rw [decided]; rfl
    · rfl

theorem State.closeConfirm_announceOpen (s : State) (a : Fin 24) (heard : Option (List Byte)) :
    (s.closeConfirm a heard).line.announceOpen = s.line.announceOpen := by
  have failed : ∀ s : State, (s.confirmFailed a).line.announceOpen = s.line.announceOpen := by
    intro s
    unfold State.confirmFailed
    dsimp only
    split
    · rfl
    · rw [State.raisePack_line]; rfl
  unfold State.closeConfirm
  split
  · rw [failed]; rfl
  · split
    · unfold State.confirmed
      dsimp only
      rw [State.raisePack_line]; rfl
    · rw [failed]; rfl

theorem State.decreasePresence_announceOpen (s : State) : s.decreasePresence.line.announceOpen = s.line.announceOpen := by
  unfold State.decreasePresence
  dsimp only
  split
  · rw [State.raiseQueues_line]; rfl
  · rfl

theorem State.closeGranted_announceOpen (s : State) (w : GrantWindow) (heard : Option (List Byte)) :
    (s.closeGranted w heard).line.announceOpen = s.line.announceOpen := by
  unfold State.closeGranted
  dsimp only
  rw [State.withLine_line]
  show (State.decreasePresence _).line.announceOpen = _
  rw [State.decreasePresence_announceOpen]
  split
  · rfl
  · split
    · exact State.closeConfirm_announceOpen _ _ _
    · exact State.closePoll_announceOpen _ _ _

/-- After the close of the windows none is open (R143). -/
theorem State.closeWindows_closed (s : State) : s.closeWindows.line.window = none ∧ s.closeWindows.line.announceOpen = false := by
  refine ⟨State.closeGrantedWindow_window_none _ _, ?_⟩
  unfold State.closeWindows State.closeGrantedWindow
  split
  · exact State.closeAnnounce_none s
  · rw [State.closeGranted_announceOpen]; exact State.closeAnnounce_none _

/-- What the stopping boundary does to the clock: STOPPED, with the counters of a boundary (R24, R25). -/
theorem State.stoppingBoundary_clock (s : State) (t : Time) (bySync : Bool) :
    (s.stoppingBoundary t bySync).clock = ({ s.clock with
      lastBoundary := some t
      syncBoundaries := if bySync then count32 s.clock.syncBoundaries else s.clock.syncBoundaries } : Clock).stopped := by
  unfold State.stoppingBoundary
  dsimp only
  show Clock.stopped (State.completeDeferred _ _).clock = _
  rw [(State.completeDeferred_frame _ _).clock, State.withClock_clock, (State.closeWindows_window s).clock]

/-- What the stopping boundary does to the deferred list: every entry is completed, in order. -/
theorem State.stoppingBoundary_link (s : State) (t : Time) (bySync : Bool) :
    (s.stoppingBoundary t bySync).link.deferred = []
      ∧ ∃ completions : List Reply, (s.stoppingBoundary t bySync).link.replies = s.link.replies ++ completions
        ∧ completions.map Reply.tag = s.link.deferred.map Deferred.tag ∧ ∀ r ∈ completions, r.code = .complete := by
  obtain ⟨ns, closed⟩ := State.closeWindows_raises s
  obtain ⟨replies, deferred, _⟩ := Link.pushNotices_frame ns s.link
  rw [← closed] at replies deferred
  unfold State.stoppingBoundary
  dsimp only
  refine ⟨State.completeDeferred_deferred _ _, ?_⟩
  rw [← replies, ← deferred]
  exact State.completeDeferred_replies _ _

theorem State.stoppingBoundary_line (s : State) (t : Time) (bySync : Bool) :
    (s.stoppingBoundary t bySync).line = { s.closeWindows.line with frame := none } := by
  unfold State.stoppingBoundary
  dsimp only
  show ({ (State.completeDeferred _ _).line with frame := none } : PackLine) = _
  rw [(State.completeDeferred_frame _ _).line]
  rfl

/-- Settles O19: each of the three ways leads into the stopping boundary, whose parts are given above. -/
theorem stoppingBoundary : Obligations.StoppingBoundary := by
  unfold Obligations.StoppingBoundary
  intro s fmt format pending stopped
  have all : ∀ (t : Time) (bySync : Bool), stopped t bySync (s.stoppingBoundary t bySync) := by
    intro t bySync
    obtain ⟨engine, block, stage, scenes, _, ring, meter⟩ := State.stoppingBoundary_frame s t bySync
    obtain ⟨deferred, completions⟩ := State.stoppingBoundary_link s t bySync
    obtain ⟨window, announce⟩ := State.closeWindows_closed s
    have clock := State.stoppingBoundary_clock s t bySync
    have line := State.stoppingBoundary_line s t bySync
    refine ⟨rfl, engine, block, ?_, ?_, ?_, ?_, ?_, ?_, ?_, ?_, deferred, completions, ring, ?_, ?_, stage, scenes, meter⟩
    all_goals first | rw [clock]; rfl | rw [line]; assumption
  refine ⟨fun t timer engine => ⟨_, ?_, all t false⟩, fun t timer engine => ⟨_, ?_, all t false⟩,
    fun t b f engine eight type check id boundary late => ⟨_, ?_, all t true⟩⟩
  · show (.next (s.timerExpiry .running) : Host.Outcome State Fault Refusal) = _
    rw [State.timerExpiry, if_pos engine, timer, format]
    simp only [State.expire, pending, if_true]
  · show (.next (s.timerExpiry .holdover) : Host.Outcome State Fault Refusal) = _
    rw [State.timerExpiry, if_pos engine, timer, format]
    simp only [State.expire, pending, if_true]
  · have notEarly : s.clock.isEarly fmt t = false := by
      unfold Clock.isEarly; rw [boundary]; exact decide_eq_false (Nat.not_lt.mpr late)
    have taken : s.takeSync t (frameId f) (frameBlock f) = s.stoppingBoundary t true := by
      have mixes : ¬ (s.clock.engine = .unformatted ∨ s.clock.engine = .stopped) := by rcases engine with e | e <;> simp [e]
      rw [State.takeSync, if_neg mixes, format]
      simp only [id, if_true]
      have boundary' : s.syncBoundary fmt t (frameBlock f) = s.stoppingBoundary t true := by
        rw [State.syncBoundary, if_pos pending]
      rcases engine with e | e
      · simp only [State.ownSync, e, notEarly, Bool.false_eq_true, if_false, boundary']
      · simp only [State.ownSync, e, notEarly, Bool.false_eq_true, if_false, boundary']
    show (.next (s.stageFrame t f) : Host.Outcome State Fault Refusal) = _
    rw [State.stageFrame, if_neg (by omega), if_neg (by rw [type]; decide), if_pos type, if_pos ⟨eight, check⟩, taken]

end Sys2Proof.Machine
end

section
/-! FORMAT, START, STOP and APPLY_CUE: their tests in order, and their effect by the engine state. -/

namespace Sys2Proof.Machine

/-! ## Tables and admitted requests -/

theorem Table.any_iff {α : Type} {n : Nat} (t : Table α n) (p : α → Bool) : t.list.any p = true ↔ ∃ i, p (t.get i) = true := by
  rw [List.any_eq_true]
  constructor
  · rintro ⟨x, mem, hp⟩
    obtain ⟨i, rfl⟩ := (Table.mem_iff t x).mp mem
    exact ⟨i, hp⟩
  · rintro ⟨i, hp⟩
    exact ⟨_, (Table.mem_iff t _).mpr ⟨i, rfl⟩, hp⟩

theorem Table.find?_isSome {α : Type} {n : Nat} (t : Table α n) (p : α → Bool) :
    (t.find? p).isSome = true ↔ ∃ i, p (t.get i) = true := by
  rw [Table.find?, List.isSome_head?, Table.where?]
  simp [List.filter_eq_nil_iff]

/-- An admitted request has the reply of its owner's answer, on the state that its owner leaves. -/
theorem exec_answer {i : Instr} {kind tag : Byte} {fields : List Byte} {take : Owner} {s t : State} {a : Answer}
    (hk : kindOf i = some kind) (ht : tagAndFields i = some (tag, fields)) (owner : requestOwner i = some take)
    (admits : s.Admits tag) (h : take s = (t, a)) : exec i s = .next (t.answer kind tag a) := by
  have known : ∀ k t f, i ≠ .unknownKindRequest k t f := by rintro k t f rfl; cases owner
  rw [exec_known known hk ht, owner, takeRequest_admitted admits, h]

/-! ## The deferral tests (R8) -/

theorem any_stop_iff {l : List Deferred} : (l.any fun d => d.job == .stop) = true ↔ ∃ d ∈ l, d.job = .stop := by
  simp [List.any_eq_true]

theorem deferRequest_stopping {s : State} (held : ∃ d ∈ s.link.deferred, d.job = .stop) (kind tag : Byte) (job : DeferredJob) :
    s.deferRequest kind tag job = s.replyFail kind tag .stopping := by
  rw [State.deferRequest, if_pos (any_stop_iff.mpr held)]

theorem deferRequest_retry {s : State} (none : ¬ ∃ d ∈ s.link.deferred, d.job = .stop)
    (full : 8 ≤ s.link.deferred.length ∨ s.link.free < 2) (kind tag : Byte) (job : DeferredJob) :
    s.deferRequest kind tag job = s.reply .retry kind tag [1] := by
  rw [State.deferRequest, if_neg (fun h => none (any_stop_iff.mp h))]
  by_cases room : s.link.deferred.length < Config.deferredCap
  · have short : ¬ 2 ≤ s.link.free := by
      rcases full with full | full
      · exact absurd room (Nat.not_lt.mpr full)
      · exact Nat.not_le.mpr full
    rw [if_neg (not_not.mpr room), if_pos short]; rfl
  · rw [if_pos room]; rfl

theorem deferRequest_joins {s : State} (none : ¬ ∃ d ∈ s.link.deferred, d.job = .stop) (room : s.link.deferred.length < 8)
    (free : 2 ≤ s.link.free) (kind tag : Byte) (job : DeferredJob) :
    s.deferRequest kind tag job = ((s.withLink { s.link with
      deferred := s.link.deferred ++ [{ tag := tag, job := job }] }).markDeferred job).reply .defer kind tag [] := by
  rw [State.deferRequest, if_neg (fun h => none (any_stop_iff.mp h)), if_neg (not_not.mpr room), if_neg (not_not.mpr free)]

/-! ## FORMAT -/

theorem rate?_eq_some {hertz : Nat} (h : hertz = 48000 ∨ hertz = 96000) :
    rate? hertz = some (if hertz = 48000 then .r48000 else .r96000) := by
  rcases h with rfl | rfl <;> rfl

theorem rate?_eq_none {hertz : Nat} (h : ¬ (hertz = 48000 ∨ hertz = 96000)) : rate? hertz = none := by
  rw [not_or] at h
  rw [rate?, if_neg h.1, if_neg h.2]

theorem Stage.recordOf_isSome (g : Stage) (id : StreamId) :
    (g.recordOf id).isSome = true ↔ ∃ i, (g.streams.get i).bound = true ∧ (g.streams.get i).id = id := by
  rw [Stage.recordOf, Table.find?_isSome]
  simp

/-- A FORMAT's rate, lag and sync id are those that R21 takes. -/
def FormatFits (s : State) (hertz : Nat) (lag : Byte) (id : StreamId) : Prop :=
  (hertz = 48000 ∨ hertz = 96000) ∧ 1 ≤ lag.toNat ∧ lag.toNat ≤ 4 ∧ id ≠ 0xFFFFFF
    ∧ ∀ i, (s.stage.streams.get i).bound = true → (s.stage.streams.get i).id ≠ id

/-- FORMAT by its tests (R21). -/
theorem setFormat_unfit {s : State} {r1 r2 r3 r4 lag i1 i2 i3 : Byte}
    (h : ¬ FormatFits s (nat32 r1 r2 r3 r4) lag (BitVec.ofNat 24 (nat24 i1 i2 i3))) :
    setFormat r1 r2 r3 r4 lag i1 i2 i3 s = (s, .fail .badValue) := by
  by_cases hertz : nat32 r1 r2 r3 r4 = 48000 ∨ nat32 r1 r2 r3 r4 = 96000
  · have bad : lag.toNat < 1 ∨ 4 < lag.toNat ∨ (BitVec.ofNat 24 (nat24 i1 i2 i3) : StreamId) = noStream
        ∨ (s.stage.recordOf (BitVec.ofNat 24 (nat24 i1 i2 i3))).isSome := by
      rw [Stage.recordOf_isSome]
      by_contra good
      simp only [not_or, Nat.not_lt, not_exists, not_and] at good
      exact h ⟨hertz, good.1, good.2.1, good.2.2.1, good.2.2.2⟩
    simp only [setFormat, rate?_eq_some hertz, if_pos bad]
  · simp only [setFormat, rate?_eq_none hertz]

theorem setFormat_fit {s : State} {r1 r2 r3 r4 lag i1 i2 i3 : Byte}
    (h : FormatFits s (nat32 r1 r2 r3 r4) lag (BitVec.ofNat 24 (nat24 i1 i2 i3))) :
    setFormat r1 r2 r3 r4 lag i1 i2 i3 s =
      if s.clock.engine ≠ .unformatted ∧ s.clock.engine ≠ .stopped then (s, .fail .wrongState)
      else if s.cues.slots.list.any Option.isSome then (s, .fail .cueOpen)
      else ((s.withClock { s.clock with
        format := some { rate := if nat32 r1 r2 r3 r4 = 48000 then .r48000 else .r96000, lag := lag.toNat,
                         syncId := BitVec.ofNat 24 (nat24 i1 i2 i3) } }).enterStopped, .done []) := by
  obtain ⟨hertz, low, high, notAll, fresh⟩ := h
  have good : ¬ (lag.toNat < 1 ∨ 4 < lag.toNat ∨ (BitVec.ofNat 24 (nat24 i1 i2 i3) : StreamId) = noStream
      ∨ (s.stage.recordOf (BitVec.ofNat 24 (nat24 i1 i2 i3))).isSome) := by
    rw [Stage.recordOf_isSome]
    rintro (h | h | h | ⟨i, bound, same⟩)
    · omega
    · omega
    · exact notAll h
    · exact fresh i bound same
  simp only [setFormat, rate?_eq_some hertz, if_neg good]

theorem cueSlots_any_isSome {s : State} : s.cues.slots.list.any Option.isSome = true ↔ ∃ b, s.cues.slots.get b ≠ none := by
  simp only [Table.any_iff, Option.isSome_iff_ne_none]

/-- Settles O12. -/
theorem formatStartStop : Obligations.FormatStartStop := by
  unfold Obligations.FormatStartStop
  refine ⟨fun s tag r1 r2 r3 r4 lag i1 i2 i3 admits => ?_, fun s tag admits => ?_, fun s tag admits => ?_⟩
  · refine ⟨fun unfit => ?_, fun fit busy => ?_, fun fit idle opened => ?_, fun fit idle closed => ?_⟩
    · exact exec_answer rfl rfl rfl admits (setFormat_unfit unfit)
    · rw [not_or] at busy
      exact exec_answer rfl rfl rfl admits ((setFormat_fit fit).trans (if_pos busy))
    · have still : ¬ (s.clock.engine ≠ .unformatted ∧ s.clock.engine ≠ .stopped) := by
        rwa [not_and_or, not_not, not_not]
      exact exec_answer rfl rfl rfl admits ((setFormat_fit fit).trans
        ((if_neg still).trans (if_pos (cueSlots_any_isSome.mpr opened))))
    · have still : ¬ (s.clock.engine ≠ .unformatted ∧ s.clock.engine ≠ .stopped) := by
        rwa [not_and_or, not_not, not_not]
      have none : ¬ s.cues.slots.list.any Option.isSome = true := by
        rw [cueSlots_any_isSome]; rintro ⟨b, some⟩; exact some (closed b)
      exact exec_answer rfl rfl rfl admits ((setFormat_fit fit).trans ((if_neg still).trans (if_neg none)))
  · have started : ∀ {t a}, startEngine s = (t, a) → exec (.start tag [0]) s = .next (t.answer 0x11 tag a) :=
      exec_answer rfl rfl rfl admits
    refine ⟨fun e => ?_, fun e => ?_, fun e => ?_⟩
    · exact started (by rw [startEngine, e])
    · exact started (by rw [startEngine, e])
    · rcases e with e | e | e <;> exact started (by rw [startEngine, e])
  · have stopped : ∀ {t a}, stopEngine s = (t, a) → exec (.stop tag [0]) s = .next (t.answer 0x12 tag a) :=
      exec_answer rfl rfl rfl admits
    have defers : s.clock.engine = .running ∨ s.clock.engine = .holdover → stopEngine s = (s, .wouldDefer .stop) := by
      rintro (e | e) <;> rw [stopEngine, e]
    refine ⟨fun e => ?_, fun e => ?_, fun e => ?_, fun mixing held => ?_, fun mixing none full => ?_,
      fun mixing none room free => ?_⟩
    · exact stopped (by rw [stopEngine, e])
    · exact stopped (by rw [stopEngine, e])
    · exact stopped (by rw [stopEngine, e])
    · exact (stopped (defers mixing)).trans (congrArg _ (deferRequest_stopping held _ _ _))
    · exact (stopped (defers mixing)).trans (congrArg _ (deferRequest_retry none full _ _ _))
    · exact (stopped (defers mixing)).trans (congrArg _ (deferRequest_joins none room free _ _ _))

/-! ## APPLY_CUE -/

theorem index?_of_lt {n : Nat} {b : Byte} {i : Fin n} (h : b.toNat = i.val) : index? n b = some i := by
  unfold index?
  rw [dif_pos (h ▸ i.isLt)]
  exact congrArg some (Fin.ext h)

theorem index?_of_ge {n : Nat} {b : Byte} (h : n ≤ b.toNat) : index? n b = none := dif_neg (Nat.not_lt.mpr h)

theorem flag?_of_le {b : Byte} (h : b.toNat ≤ 1) : flag? b = some (decide (b = 1)) := by
  have cases : b = 0 ∨ b = 1 := by
    rcases Nat.le_one_iff_eq_zero_or_eq_one.mp h with h | h
    · exact .inl (BitVec.eq_of_toNat_eq h)
    · exact .inr (BitVec.eq_of_toNat_eq h)
  rcases cases with rfl | rfl <;> rfl

theorem flag?_of_ge {b : Byte} (h : 2 ≤ b.toNat) : flag? b = none := by
  rw [flag?, if_neg (by omega), if_neg (by omega)]

theorem withOpenCue_closed {b : Fin 4} {f : CueWork → Owner} {s : State} (h : s.cues.slots.get b = none) :
    withOpenCue b f s = (s, .fail .cueClosed) := by
  simp only [withOpenCue, h]

theorem withOpenCue_busy {b : Fin 4} {f : CueWork → Owner} {s : State} {w : CueWork} (h : s.cues.slots.get b = some w)
    (busy : w.applying = true) : withOpenCue b f s = (s, .fail .cueBusy) := by
  simp only [withOpenCue, h, busy, if_true]

theorem withOpenCue_open {b : Fin 4} {f : CueWork → Owner} {s : State} {w : CueWork} (h : s.cues.slots.get b = some w)
    (idle : w.applying = false) : withOpenCue b f s = f w s := by
  simp only [withOpenCue, h, idle, Bool.false_eq_true, if_false]

/-- An apply of an OPEN cue slot defers while mixing. -/
theorem applyCueRequest_mixing {s : State} {bank mode m1 m2 : Byte} {b : Fin 4} {w : CueWork} (hb : bank.toNat = b.val)
    (hm : mode.toNat ≤ 1) (slot : s.cues.slots.get b = some w) (idle : w.applying = false)
    (mixing : s.clock.engine = .running ∨ s.clock.engine = .holdover) :
    applyCueRequest bank mode m1 m2 s = (s, .wouldDefer (.apply b (if mode = 1 then .cut else .glide) (mixMask m1 m2))) := by
  simp only [applyCueRequest, withBank, index?_of_lt hb, applyMode?, flag?_of_le hm, Option.map_some, decide_eq_true_eq]
  rw [withOpenCue_open slot idle, if_pos (Clock.mixing_iff.mpr mixing)]

/-- How an apply made at once is answered (R131). -/
def outcomeAnswer : ApplyOutcome → Answer
  | .done => .done []
  | .poolFull => .fail .poolFull

/-- An apply of an OPEN cue slot is made at once, as CUT, outside the mixing states. -/
theorem applyCueRequest_atOnce {s : State} {bank mode m1 m2 : Byte} {b : Fin 4} {w : CueWork} (hb : bank.toNat = b.val)
    (hm : mode.toNat ≤ 1) (slot : s.cues.slots.get b = some w) (idle : w.applying = false)
    (rest : ¬ (s.clock.engine = .running ∨ s.clock.engine = .holdover)) {made : State × ApplyOutcome}
    (h : s.applyCue b w .cut (mixMask m1 m2) .immediate = made) :
    applyCueRequest bank mode m1 m2 s = (made.1, outcomeAnswer made.2) := by
  simp only [applyCueRequest, withBank, index?_of_lt hb, applyMode?, flag?_of_le hm, Option.map_some]
  rw [withOpenCue_open slot idle, if_neg (fun h => rest (Clock.mixing_iff.mp h)), h]
  obtain ⟨t, o⟩ := made
  cases o <;> rfl

/-- Settles O37. -/
theorem applyRequest : Obligations.ApplyRequest := by
  unfold Obligations.ApplyRequest
  intro s tag bank mode m1 m2 admits
  have answered : ∀ {t a}, applyCueRequest bank mode m1 m2 s = (t, a) →
      exec (.applyCue tag [bank, mode, m1, m2]) s = .next (t.answer 0x44 tag a) := exec_answer rfl rfl rfl admits
  have refused : ∀ {e}, applyCueRequest bank mode m1 m2 s = (s, .fail e) →
      exec (.applyCue tag [bank, mode, m1, m2]) s = .next (s.replyFail 0x44 tag e) := fun h => answered h
  refine ⟨fun high => refused ?_, fun b hb => ⟨fun bad => refused ?_, fun hm none => refused ?_, fun w slot hm =>
    ⟨fun busy => refused ?_, fun idle rest done => ?_, fun idle rest full => ?_, fun idle mixing held => ?_,
      fun idle mixing none full => ?_, fun idle mixing none room free => ?_⟩⟩⟩
  · simp only [applyCueRequest, withBank, index?_of_ge high]
  · simp only [applyCueRequest, withBank, index?_of_lt hb, applyMode?, flag?_of_ge bad, Option.map_none]
  · simp only [applyCueRequest, withBank, index?_of_lt hb, applyMode?, flag?_of_le hm, Option.map_some]
    exact withOpenCue_closed none
  · simp only [applyCueRequest, withBank, index?_of_lt hb, applyMode?, flag?_of_le hm, Option.map_some]
    exact withOpenCue_busy slot busy
  · generalize made : s.applyCue b w .cut (BitVec.ofNat 16 (nat16 m1 m2)) .immediate = p at done ⊢
    rw [answered (applyCueRequest_atOnce hb hm slot idle rest made), done]; rfl
  · generalize made : s.applyCue b w .cut (BitVec.ofNat 16 (nat16 m1 m2)) .immediate = p at full ⊢
    rw [answered (applyCueRequest_atOnce hb hm slot idle rest made), full]; rfl
  · exact (answered (applyCueRequest_mixing hb hm slot idle mixing)).trans (congrArg _ (deferRequest_stopping held _ _ _))
  · exact (answered (applyCueRequest_mixing hb hm slot idle mixing)).trans (congrArg _ (deferRequest_retry none full _ _ _))
  · refine (answered (applyCueRequest_mixing hb hm slot idle mixing)).trans (congrArg _ ?_)
    have marked := fun l mode mask => State.markDeferred_apply (s := s.withLink l) (b := b) slot mode mask
    exact (deferRequest_joins none room free _ _ _).trans (by rw [marked]; rfl)

end Sys2Proof.Machine
end

section
/-! Edit requests with target CUE: the refusals before either block, the tests of each edit in their order, and the copy that
each leaves. -/

namespace Sys2Proof.Machine

/-! ## The target (R4) -/

theorem editTarget_neither {target : Byte} (h : 2 ≤ target.toNat) (bank : Byte) (live : Owner) (cue : Fin 4 → Owner) :
    editTarget target bank live cue = refuse .badValue := by
  have zero : target ≠ 0 := by rintro rfl; exact absurd h (by decide)
  have one : target ≠ 1 := by rintro rfl; exact absurd h (by decide)
  rw [editTarget, if_neg zero, if_neg one]

theorem editTarget_badBank {bank : Byte} (h : 4 ≤ bank.toNat) (live : Owner) (cue : Fin 4 → Owner) :
    editTarget 1 bank live cue = refuse .badIndex := by
  rw [editTarget, if_neg (by decide), if_pos rfl, index?_of_ge h]

theorem editTarget_cue {bank : Byte} {b : Fin 4} (h : bank.toNat = b.val) (live : Owner) (cue : Fin 4 → Owner) :
    editTarget 1 bank live cue = cue b := by
  rw [editTarget, if_neg (by decide), if_pos rfl, index?_of_lt h]

/-- A bank of a cue slot, or a refusal before the Cue Controller. -/
theorem editTarget_badIndex {bank : Byte} {live : Owner} {cue : Fin 4 → Owner} {s : State} {p : Prop}
    (h : 4 ≤ bank.toNat ∨ p) (bad : p → ∀ b, cue b s = (s, .fail .badIndex)) :
    editTarget 1 bank live cue s = (s, .fail .badIndex) := by
  rcases Nat.lt_or_ge bank.toNat 4 with low | high
  · rcases h with high | hp
    · omega
    · rw [editTarget_cue (b := ⟨bank.toNat, low⟩) rfl]; exact bad hp _
  · rw [editTarget_badBank high]; rfl

/-! ## Values -/

theorem levelCode_eq (b : Byte) : levelCode b = min 127 b.toNat := by simp [levelCode, clampNat]

theorem yesNo_flag {b : Byte} (h : b.toNat ≤ 1) : yesNo (decide (b = 1)) = [b] := by
  have cases : b = 0 ∨ b = 1 := by
    rcases Nat.le_one_iff_eq_zero_or_eq_one.mp h with h | h
    · exact .inl (BitVec.eq_of_toNat_eq h)
    · exact .inr (BitVec.eq_of_toNat_eq h)
  rcases cases with rfl | rfl <;> rfl

theorem flag?_isNone {b : Byte} : (flag? b).isNone = true ↔ 2 ≤ b.toNat := by
  rcases Nat.lt_or_ge b.toNat 2 with low | high
  · rw [flag?_of_le (by omega)]; simp; omega
  · rw [flag?_of_ge high]; simpa using high

/-- A SET_SEND that selects a self or a mute that is neither OFF nor ON is refused (R92). -/
abbrev SetRefused (flags self mute : Byte) : Prop :=
  (flags.getLsbD 2 = true ∧ 2 ≤ self.toNat) ∨ (flags.getLsbD 3 = true ∧ 2 ≤ mute.toNat)

theorem sendChange?_refused {flags self mute : Byte} (h : SetRefused flags self mute) (level balance : Byte) :
    sendChange? flags level balance self mute = none := by
  rw [sendChange?, if_pos]
  simpa only [flag?_isNone] using h

/-- The fields that a SET_SEND selects by its flags. -/
def selectedChange (flags level balance self mute : Byte) : SendChange :=
  { level := if flags.getLsbD 0 then some (levelCode level) else none
    balance := if flags.getLsbD 1 then some (trimCode balance) else none
    self := if flags.getLsbD 2 then some (decide (self = 1)) else none
    mute := if flags.getLsbD 3 then some (decide (mute = 1)) else none }

theorem sendChange?_selected {flags self mute : Byte} (h : ¬ SetRefused flags self mute) (level balance : Byte) :
    sendChange? flags level balance self mute = some (selectedChange flags level balance self mute) := by
  have selected : ∀ (bit : Bool) (b : Byte), ¬ (bit = true ∧ 2 ≤ b.toNat) →
      (if bit then flag? b else none) = if bit then some (decide (b = 1)) else none := by
    intro bit b ok
    cases bit with
    | false => rfl
    | true =>
      have le : b.toNat ≤ 1 := by simp only [true_and, not_le] at ok; omega
      rw [flag?_of_le le]
  rw [not_or] at h
  rw [sendChange?, if_neg (by simpa only [flag?_isNone] using not_or.mpr h), selected _ _ h.1, selected _ _ h.2]
  rfl

theorem selectedChange_applyEntry (flags level balance self mute : Byte) (d : SceneSend) :
    (selectedChange flags level balance self mute).applyEntry d = { d with
      level := if flags.getLsbD 0 then min 127 level.toNat else d.level
      balance := if flags.getLsbD 1 then max (-16) (min 16 balance.toInt) else d.balance
      self := if flags.getLsbD 2 then decide (self = 1) else d.self
      mute := if flags.getLsbD 3 then decide (mute = 1) else d.mute } := by
  have pick : ∀ {α : Type} (bit : Bool) (x y : α), (if bit then some x else none).getD y = if bit then x else y := by
    intro α bit x y; cases bit <;> rfl
  simp only [selectedChange, SendChange.applyEntry, pick, levelCode_eq, trimCode, clampInt]

/-! ## The send list of a copy -/

theorem MixEntry.sendOn_isSome {e : MixEntry} {k : Fin 48} : (e.sendOn k).isSome = true ↔ ∃ d ∈ e.sends, d.slot = k := by
  simp [MixEntry.sendOn, List.find?_isSome]

theorem MixEntry.sendOn_isNone {e : MixEntry} {k : Fin 48} : (e.sendOn k).isNone = true ↔ ¬ ∃ d ∈ e.sends, d.slot = k := by
  rw [← MixEntry.sendOn_isSome]
  cases e.sendOn k <;> simp

/-- A record is inserted after every record of no higher slot that stands before the first of a higher slot (R90, R126). -/
theorem insertBySlot_split {α : Type} (slotOf : α → Fin 48) (v : α) (l : List α) :
    ∃ before after, l = before ++ after ∧ insertBySlot slotOf v l = before ++ v :: after
      ∧ (∀ x ∈ before, ¬ slotOf v < slotOf x) ∧ ∀ x, after.head? = some x → slotOf v < slotOf x := by
  induction l with
  | nil => exact ⟨[], [], rfl, rfl, nofun, nofun⟩
  | cons d rest ih =>
    by_cases h : slotOf v < slotOf d
    · refine ⟨[], d :: rest, rfl, by rw [insertBySlot, if_pos h]; rfl, nofun, ?_⟩
      intro x head; cases head; exact h
    · obtain ⟨before, after, split, inserted, low, high⟩ := ih
      refine ⟨d :: before, after, by rw [split]; rfl, by rw [insertBySlot, if_neg h, inserted]; rfl, ?_, high⟩
      intro x mem
      rcases List.mem_cons.mp mem with rfl | mem
      · exact h
      · exact low x mem

/-! ## The tests of each edit (R124 to R126) -/

theorem mixSetCue_badValue {b : Fin 4} {mix : Byte} {i : Fin 16} (hi : mix.toNat = i.val) {state kind : Byte}
    (bad : 2 ≤ state.toNat ∨ 2 ≤ kind.toNat) (master ceiling rel1 rel2 : Byte) (s : State) :
    mixSetCue b mix state kind master ceiling rel1 rel2 s = (s, .fail .badValue) := by
  rw [mixSetCue, index?_of_lt hi]
  rcases bad with bad | bad
  · rw [flag?_of_ge bad]
  · rw [flag?_of_ge bad]; cases flag? state <;> rfl

/-- The mix entry that MIX_SET writes (R125). -/
def mixSetEntry (e : MixEntry) (state kind master ceiling rel1 rel2 : Byte) : MixEntry :=
  { on := decide (state = 1), stereo := decide (kind = 1), master := min 127 master.toNat
    ceiling := max 64 (min 112 ceiling.toNat), release := max 1 (min 4096 (nat16 rel1 rel2)), sends := e.sends }

theorem mixSetCue_good {b : Fin 4} {mix : Byte} {i : Fin 16} (hi : mix.toNat = i.val) {state kind : Byte}
    (hs : state.toNat ≤ 1) (hk : kind.toNat ≤ 1) (master ceiling rel1 rel2 : Byte) (s : State) :
    mixSetCue b mix state kind master ceiling rel1 rel2 s = withOpenCue b (fun w s =>
      let e := mixSetEntry (w.copy.get i) state kind master ceiling rel1 rel2
      (s.editCopy b w i e, .done ([state, kind] ++ be1 e.master ++ be1 e.ceiling ++ be2 e.release ++ [0]))) s := by
  rw [mixSetCue, index?_of_lt hi, flag?_of_le hs, flag?_of_le hk]
  simp only [levelCode_eq, clampNat, yesNo_flag hs, yesNo_flag hk, mixSetEntry]
  rfl

theorem addSendCue_badValue {b : Fin 4} {mix slot : Byte} {i : Fin 16} {k : Fin 48} (hi : mix.toNat = i.val)
    (hk : slot.toNat = k.val) {self mute : Byte} (bad : 2 ≤ self.toNat ∨ 2 ≤ mute.toNat) (level balance : Byte) (s : State) :
    addSendCue b mix slot level balance self mute s = (s, .fail .badValue) := by
  rw [addSendCue, index?_of_lt hi, index?_of_lt hk]
  rcases bad with bad | bad
  · rw [flag?_of_ge bad]
  · rw [flag?_of_ge bad]; cases flag? self <;> rfl

/-- The send entry that ADD_SEND inserts (R126). -/
def addedSend (k : Fin 48) (level balance self mute : Byte) : SceneSend :=
  { slot := k, level := min 127 level.toNat, balance := max (-16) (min 16 balance.toInt), self := decide (self = 1),
    mute := decide (mute = 1) }

theorem addSendCue_good {b : Fin 4} {mix slot : Byte} {i : Fin 16} {k : Fin 48} (hi : mix.toNat = i.val)
    (hk : slot.toNat = k.val) {self mute : Byte} (hs : self.toNat ≤ 1) (hm : mute.toNat ≤ 1) (level balance : Byte) (s : State) :
    addSendCue b mix slot level balance self mute s = withOpenCue b (fun w s =>
      let e := w.copy.get i
      if (e.sendOn k).isSome then (s, .fail .sendExists)
      else if 24 ≤ e.sends.length then (s, .fail .mixFull)
      else
        let d := addedSend k level balance self mute
        (s.editCopy b w i { e with sends := insertBySlot SceneSend.slot d e.sends },
         .done (be1 d.level ++ signed1 d.balance ++ [0]))) s := by
  rw [addSendCue, index?_of_lt hi, index?_of_lt hk, flag?_of_le hs, flag?_of_le hm]
  simp only [levelCode_eq, trimCode, clampInt, addedSend]
  rfl

theorem setSendCue_badValue {b : Fin 4} {mix slot : Byte} {i : Fin 16} {k : Fin 48} (hi : mix.toNat = i.val)
    (hk : slot.toNat = k.val) {flags self mute : Byte} (bad : SetRefused flags self mute) (level balance : Byte) (s : State) :
    setSendCue b mix slot flags level balance self mute s = (s, .fail .badValue) := by
  rw [setSendCue, index?_of_lt hi, index?_of_lt hk, sendChange?_refused bad]

theorem setSendCue_good {b : Fin 4} {mix slot : Byte} {i : Fin 16} {k : Fin 48} (hi : mix.toNat = i.val)
    (hk : slot.toNat = k.val) {flags self mute : Byte} (ok : ¬ SetRefused flags self mute) (level balance : Byte) (s : State) :
    setSendCue b mix slot flags level balance self mute s = withOpenCue b (fun w s =>
      let e := w.copy.get i
      let changed := (selectedChange flags level balance self mute).applyEntry
      match e.sendOn k with
      | none => (s, .fail .noSend)
      | some d =>
        (s.editCopy b w i { e with sends := e.sends.map fun d => if d.slot = k then changed d else d },
         .done (sendReport (changed d).level (changed d).balance (changed d).self (changed d).mute))) s := by
  rw [setSendCue, index?_of_lt hi, index?_of_lt hk, sendChange?_selected ok] <;> rfl

theorem removeSendCue_good {b : Fin 4} {mix slot : Byte} {i : Fin 16} {k : Fin 48} (hi : mix.toNat = i.val)
    (hk : slot.toNat = k.val) (s : State) :
    removeSendCue b mix slot s = withOpenCue b (fun w s =>
      let e := w.copy.get i
      if (e.sendOn k).isNone then (s, .fail .noSend)
      else (s.editCopy b w i { e with sends := e.sends.filter fun d => d.slot != k }, .done [1])) s := by
  rw [removeSendCue, index?_of_lt hi, index?_of_lt hk]
  rfl

theorem mixSetCue_badIndex {mix : Byte} (h : 16 ≤ mix.toNat) (b : Fin 4) (state kind master ceiling rel1 rel2 : Byte) (s : State) :
    mixSetCue b mix state kind master ceiling rel1 rel2 s = (s, .fail .badIndex) := by
  rw [mixSetCue, index?_of_ge h]

theorem sendCue_badIndex {mix slot : Byte} (h : 16 ≤ mix.toNat ∨ 48 ≤ slot.toNat) (b : Fin 4)
    (flags level balance self mute : Byte) (s : State) :
    addSendCue b mix slot level balance self mute s = (s, .fail .badIndex)
      ∧ setSendCue b mix slot flags level balance self mute s = (s, .fail .badIndex)
      ∧ removeSendCue b mix slot s = (s, .fail .badIndex) := by
  simp only [addSendCue, setSendCue, removeSendCue]
  rcases h with h | h
  · simp only [index?_of_ge h, and_self]
  · simp only [index?_of_ge h]
    cases index? 16 mix <;> exact ⟨rfl, rfl, rfl⟩

/-! ## The statement -/

/-- The refusals of R4, whatever else an edit request carries. -/
theorem edit_refusals {s : State} {tag : Byte} (admits : s.Admits tag)
    (target bank mix slot state kind master ceiling rel1 rel2 click flags level balance self mute : Byte) :
    (2 ≤ target.toNat →
        exec (.mixSetLive tag [target, bank, mix, state, kind, master, ceiling, rel1, rel2, click]) s
            = .next (s.replyFail 0x30 tag .badValue)
          ∧ exec (.addSendLive tag [target, bank, mix, slot, level, balance, self, mute]) s
            = .next (s.replyFail 0x31 tag .badValue)
          ∧ exec (.setSendLive tag [target, bank, mix, slot, flags, level, balance, self, mute]) s
            = .next (s.replyFail 0x32 tag .badValue)
          ∧ exec (.removeSendLive tag [target, bank, mix, slot]) s = .next (s.replyFail 0x33 tag .badValue))
      ∧ (4 ≤ bank.toNat ∨ 16 ≤ mix.toNat →
        exec (.mixSetCue tag [1, bank, mix, state, kind, master, ceiling, rel1, rel2, click]) s
          = .next (s.replyFail 0x30 tag .badIndex))
      ∧ (4 ≤ bank.toNat ∨ 16 ≤ mix.toNat ∨ 48 ≤ slot.toNat →
        exec (.addSendCue tag [1, bank, mix, slot, level, balance, self, mute]) s = .next (s.replyFail 0x31 tag .badIndex)
          ∧ exec (.setSendCue tag [1, bank, mix, slot, flags, level, balance, self, mute]) s
            = .next (s.replyFail 0x32 tag .badIndex)
          ∧ exec (.removeSendCue tag [1, bank, mix, slot]) s = .next (s.replyFail 0x33 tag .badIndex)) := by
  refine ⟨fun high => ⟨?_, ?_, ?_, ?_⟩, fun bad => ?_, fun bad => ⟨?_, ?_, ?_⟩⟩
  · exact exec_answer rfl rfl rfl admits (congrFun (editTarget_neither high _ _ _) s)
  · exact exec_answer rfl rfl rfl admits (congrFun (editTarget_neither high _ _ _) s)
  · exact exec_answer rfl rfl rfl admits (congrFun (editTarget_neither high _ _ _) s)
  · exact exec_answer rfl rfl rfl admits (congrFun (editTarget_neither high _ _ _) s)
  · exact exec_answer rfl rfl rfl admits (editTarget_badIndex bad fun h b => mixSetCue_badIndex h b _ _ _ _ _ _ s)
  · exact exec_answer rfl rfl rfl admits (editTarget_badIndex bad fun h b => (sendCue_badIndex h b flags _ _ _ _ s).1)
  · exact exec_answer rfl rfl rfl admits (editTarget_badIndex bad fun h b => (sendCue_badIndex h b _ _ _ _ _ s).2.1)
  · exact exec_answer rfl rfl rfl admits
      (editTarget_badIndex bad fun h b => (sendCue_badIndex h b flags level balance self mute s).2.2)

/-- An edit request with target CUE is answered as its edit of the cue slot is. -/
theorem exec_mixSetCue {s t : State} {tag bank : Byte} {b : Fin 4} {a : Answer} (admits : s.Admits tag) (hb : bank.toNat = b.val)
    {mix state kind master ceiling rel1 rel2 : Byte} (click : Byte)
    (h : mixSetCue b mix state kind master ceiling rel1 rel2 s = (t, a)) :
    exec (.mixSetCue tag [1, bank, mix, state, kind, master, ceiling, rel1, rel2, click]) s = .next (t.answer 0x30 tag a) :=
  exec_answer rfl rfl rfl admits ((congrFun (editTarget_cue hb _ _) s).trans h)

theorem exec_addSendCue {s t : State} {tag bank : Byte} {b : Fin 4} {a : Answer} (admits : s.Admits tag) (hb : bank.toNat = b.val)
    {mix slot level balance self mute : Byte} (h : addSendCue b mix slot level balance self mute s = (t, a)) :
    exec (.addSendCue tag [1, bank, mix, slot, level, balance, self, mute]) s = .next (t.answer 0x31 tag a) :=
  exec_answer rfl rfl rfl admits ((congrFun (editTarget_cue hb _ _) s).trans h)

theorem exec_setSendCue {s t : State} {tag bank : Byte} {b : Fin 4} {a : Answer} (admits : s.Admits tag) (hb : bank.toNat = b.val)
    {mix slot flags level balance self mute : Byte} (h : setSendCue b mix slot flags level balance self mute s = (t, a)) :
    exec (.setSendCue tag [1, bank, mix, slot, flags, level, balance, self, mute]) s = .next (t.answer 0x32 tag a) :=
  exec_answer rfl rfl rfl admits ((congrFun (editTarget_cue hb _ _) s).trans h)

theorem exec_removeSendCue {s t : State} {tag bank : Byte} {b : Fin 4} {a : Answer} (admits : s.Admits tag)
    (hb : bank.toNat = b.val) {mix slot : Byte} (h : removeSendCue b mix slot s = (t, a)) :
    exec (.removeSendCue tag [1, bank, mix, slot]) s = .next (t.answer 0x33 tag a) :=
  exec_answer rfl rfl rfl admits ((congrFun (editTarget_cue hb _ _) s).trans h)

/-- Settles O36: the refusals of R4, and the tests and edits of an OPEN, APPLYING or CLOSED cue slot. -/
theorem cueEdits : Obligations.CueEdits := by
  unfold Obligations.CueEdits
  refine ⟨fun s tag target bank mix slot admits state kind master ceiling rel1 rel2 click flags level balance self mute =>
    edit_refusals admits target bank mix slot state kind master ceiling rel1 rel2 click flags level balance self mute, ?_⟩
  intro s tag bank b mix slot i k admits hb hi hk state kind master ceiling rel1 rel2 click flags level balance self mute
  refine ⟨fun bad => exec_mixSetCue admits hb click (mixSetCue_badValue hi bad _ _ _ _ s),
    fun bad => exec_addSendCue admits hb (addSendCue_badValue hi hk bad _ _ s),
    fun bad => exec_setSendCue admits hb (setSendCue_badValue hi hk bad _ _ s), fun closed => ?_, fun w slot' => ⟨fun busy => ?_,
    fun idle => ?_⟩⟩
  · exact ⟨exec_removeSendCue admits hb ((removeSendCue_good hi hk s).trans (withOpenCue_closed closed)),
      fun h1 h2 => exec_mixSetCue admits hb click ((mixSetCue_good hi h1 h2 _ _ _ _ s).trans (withOpenCue_closed closed)),
      fun h1 h2 => exec_addSendCue admits hb ((addSendCue_good hi hk h1 h2 _ _ s).trans (withOpenCue_closed closed)),
      fun ok => exec_setSendCue admits hb ((setSendCue_good hi hk ok _ _ s).trans (withOpenCue_closed closed))⟩
  · exact ⟨exec_removeSendCue admits hb ((removeSendCue_good hi hk s).trans (withOpenCue_busy slot' busy)),
      fun h1 h2 => exec_mixSetCue admits hb click ((mixSetCue_good hi h1 h2 _ _ _ _ s).trans (withOpenCue_busy slot' busy)),
      fun h1 h2 => exec_addSendCue admits hb ((addSendCue_good hi hk h1 h2 _ _ s).trans (withOpenCue_busy slot' busy)),
      fun ok => exec_setSendCue admits hb ((setSendCue_good hi hk ok _ _ s).trans (withOpenCue_busy slot' busy))⟩
  · refine ⟨fun h1 h2 => ?_, fun h1 h2 holds => ?_, fun h1 h2 free full => ?_, fun h1 h2 free room => ?_, fun ok free => ?_,
      fun ok d found => ?_, fun free => ?_, fun holds => ?_⟩
    · exact ⟨_, exec_mixSetCue admits hb click ((mixSetCue_good hi h1 h2 _ _ _ _ s).trans (withOpenCue_open slot' idle)), rfl⟩
    · exact exec_addSendCue (a := .fail .sendExists) admits hb ((addSendCue_good hi hk h1 h2 _ _ s).trans
        ((withOpenCue_open slot' idle).trans (if_pos (MixEntry.sendOn_isSome.mpr holds))))
    · exact exec_addSendCue (a := .fail .mixFull) admits hb ((addSendCue_good hi hk h1 h2 _ _ s).trans
        ((withOpenCue_open slot' idle).trans
          ((if_neg (fun h => free (MixEntry.sendOn_isSome.mp h))).trans (if_pos full))))
    · obtain ⟨before, after, split, inserted, low, high⟩ :=
        insertBySlot_split SceneSend.slot (addedSend k level balance self mute) (w.copy.get i).sends
      refine ⟨before, after, addedSend k level balance self mute, split, ?_, rfl, low, high⟩
      rw [← inserted, exec_addSendCue admits hb ((addSendCue_good hi hk h1 h2 _ _ s).trans
        ((withOpenCue_open slot' idle).trans
          ((if_neg (fun h => free (MixEntry.sendOn_isSome.mp h))).trans (if_neg (Nat.not_le.mpr room)))))]
      rfl
    · have none : (w.copy.get i).sendOn k = none := Option.isNone_iff_eq_none.mp (MixEntry.sendOn_isNone.mpr free)
      exact exec_setSendCue (t := s) (a := .fail .noSend) admits hb ((setSendCue_good hi hk ok _ _ s).trans
        ((withOpenCue_open slot' idle).trans (by simp only [none])))
    · have found' : (w.copy.get i).sendOn k = some d := found
      rw [exec_setSendCue admits hb ((setSendCue_good hi hk ok _ _ s).trans ((withOpenCue_open slot' idle).trans
        (by simp only [found']; rfl)))]
      simp only [selectedChange_applyEntry]
      rfl
    · exact exec_removeSendCue (a := .fail .noSend) admits hb ((removeSendCue_good hi hk s).trans
        ((withOpenCue_open slot' idle).trans (if_pos (MixEntry.sendOn_isNone.mpr free))))
    · exact exec_removeSendCue (a := .done [1]) admits hb ((removeSendCue_good hi hk s).trans
        ((withOpenCue_open slot' idle).trans (if_neg (fun h => MixEntry.sendOn_isNone.mp h holds))))

end Sys2Proof.Machine
end

section
/-! STATUS and the queries: the values that each reports, and the size of its reply. -/

namespace Sys2Proof.Machine

/-! ## Fields and lists of a report -/

@[simp] theorem be1_length (n : Nat) : (be1 n).length = 1 := rfl
@[simp] theorem be2_length (n : Nat) : (be2 n).length = 2 := rfl
@[simp] theorem be3_length (n : Nat) : (be3 n).length = 3 := rfl
@[simp] theorem be4_length (n : Nat) : (be4 n).length = 4 := rfl
@[simp] theorem signed1_length (i : Int) : (signed1 i).length = 1 := rfl
@[simp] theorem yesNo_length (b : Bool) : (yesNo b).length = 1 := rfl

theorem be1_toNat (b : Byte) : be1 b.toNat = [b] := by simp [be1]

/-- The page of a list report: the encoded items from the start position on, as many as the limit admits. -/
theorem listReport_eq {α : Type} (limit : Nat) (encode : α → List Byte) (items : List α) (start : Byte) :
    listReport limit encode items start =
      be1 (items.map encode).length ++ be1 start.toNat ++ be1 (((items.map encode).drop start.toNat).take limit).length
        ++ (((items.map encode).drop start.toNat).take limit).flatten := by
  rw [listReport, be1_toNat, List.length_map, ← List.map_drop, ← List.map_take, List.length_map, List.flatMap_def]

/-- Items of one width make the size of a page. -/
theorem listReport_length {α : Type} {encode : α → List Byte} {width : Nat} (h : ∀ x, (encode x).length = width)
    (limit : Nat) (items : List α) (start : Byte) :
    (listReport limit encode items start).length = 3 + width * min limit (items.length - start.toNat) := by
  have each : ∀ page : List α, (page.flatMap encode).length = width * page.length := by
    intro page
    induction page with
    | nil => rfl
    | cons x page ih => rw [List.flatMap_cons, List.length_append, h, ih, List.length_cons]; ring
  simp only [listReport, List.length_append, each, List.length_take, List.length_drop, be1_length, List.length_singleton]

theorem Table.list_eq_map {α : Type} {n : Nat} (t : Table α n) : t.list = (List.finRange n).map t.get := by
  apply List.ext_getElem
  · simp [t.len]
  · intro j h1 h2
    simp [Table.get]

theorem Table.count_eq {α : Type} {n : Nat} (t : Table α n) (p : α → Bool) :
    t.count p = ((List.finRange n).filter fun i => p (t.get i)).length := by
  rw [Table.count, Table.list_eq_map, List.filter_map, List.length_map]
  rfl

/-- The number of a mix's owner, as a byte. -/
theorem PackLine.ownerNumber_byte (l : PackLine) (m : Fin 16) :
    be1 (l.ownerNumber m) = (match l.ownerOf m with | some a => be1 (a.val + 1) | none => [0]) := by
  rw [PackLine.ownerNumber]
  cases l.ownerOf m <;> rfl

theorem address?_of_eq {b : Byte} {a : Fin 24} (h : b.toNat = a.val + 1) : address? b = some a := by
  have low := a.isLt
  rw [address?, dif_pos ⟨by omega, by omega⟩]
  exact congrArg some (Fin.ext (by show b.toNat - 1 = a.val; omega))

theorem address?_of_ge {b : Byte} (h : 25 ≤ b.toNat) : address? b = none := dif_neg (fun le => by omega)

/-- A query queues DATA with the fields that its owner reports, and changes nothing else. -/
theorem exec_data {i : Instr} {kind tag : Byte} {fields f : List Byte} {take : Owner} {s : State}
    (hk : kindOf i = some kind) (ht : tagAndFields i = some (tag, fields)) (owner : requestOwner i = some take)
    (admits : s.Admits tag) (h : take s = (s, .data f)) : exec i s = .next (s.reply .data kind tag f) :=
  exec_answer hk ht owner admits h

/-- The same with the fields as the statement lists them, and with the size that they have. -/
theorem exec_reports {i : Instr} {kind tag : Byte} {fields f g : List Byte} {take : Owner} {s : State} {size : Nat}
    (hk : kindOf i = some kind) (ht : tagAndFields i = some (tag, fields)) (owner : requestOwner i = some take)
    (admits : s.Admits tag) (h : take s = (s, .data f)) (same : f = g) (width : f.length + 3 = size) (fits : size ≤ 250) :
    exec i s = .next (s.reply .data kind tag g) ∧ g.length + 3 = size ∧ size ≤ 250 := by
  subst same
  exact ⟨exec_data hk ht owner admits h, width, fits⟩

/-! ## STATUS -/

theorem status_reports {s : State} {tag : Byte} (admits : s.Admits tag) :
    exec (.status tag [0]) s = .next (s.reply .data 0x02 tag
      (be1 (engineCode s.clock.engine)
        ++ (match s.clock.lastBlock with
            | some m => be1 0 ++ be2 m.toNat
            | none => [1, 0, 0])
        ++ (match s.clock.format with
            | some f => be1 0 ++ be4 (rateHertz f.rate) ++ be1 f.lag ++ be3 f.syncId.toNat
            | none => [1, 0, 0, 0, 0, 0, 0, 0, 0])
        ++ yesNo (s.link.deferred.any fun d => d.job == .stop)
        ++ be4 s.link.linkErrors ++ be4 s.link.overrun ++ be4 s.link.noticesLost ++ be1 s.link.deferred.length
        ++ be1 (s.link.replies.length + s.link.deferred.length + 1) ++ be1 s.link.notices.length
        ++ be2 (256 - (s.mixes.list.map fun m => m.sends.length).sum) ++ be2 (s.ring.entries.map RingEntry.pages).sum
        ++ be1 s.ring.entries.length ++ be1 (s.line.queue.length + if s.line.window.isSome then 1 else 0))) := by
  refine (exec_data rfl rfl rfl admits rfl).trans (congrArg (fun f => Host.Outcome.next (s.reply .data 0x02 tag f)) ?_)
  cases s.clock.lastBlock <;> cases s.clock.format <;> rfl

/-! ## The sizes of the lists' items and of the records -/

theorem sendItem_length (m : Mix) (d : Send) : (sendItem m d).length = 19 := rfl

theorem sceneItem_length (d : SceneSend) : (sceneItem d).length = 5 := rfl

theorem entryBytes_length (e : MixEntry) : (entryBytes e).length = 6 := rfl

theorem lastApplyBytes_length (r : LastApply) : (lastApplyBytes r).length = 14 := by
  obtain ⟨outcome, mode, mask, moment, cut, fallback, inserted, freed⟩ := r
  cases moment <;> rfl

theorem optional_some {α : Type} (width : Nat) (encode : α → List Byte) (v : α) :
    optional width encode (some v) = be1 0 ++ encode v := rfl

theorem optional_none_two {α : Type} (encode : α → List Byte) : optional 2 encode none = [1, 0, 0] := rfl

theorem optional_length {α : Type} {width : Nat} {encode : α → List Byte} (h : ∀ v, (encode v).length = width) (o : Option α) :
    (optional width encode o).length = width + 1 := by
  cases o with
  | none => simp [optional, Nat.add_comm 1]
  | some v => simp [optional, h, Nat.add_comm 1]

theorem sceneOrDefault_none (i : Fin 16) : (sceneOrDefault none).get i = MixEntry.default := Table.get_fill _ i

/-- Settles O52. -/
theorem statusAndQueriesReport : Obligations.StatusAndQueriesReport := by
  unfold Obligations.StatusAndQueriesReport
  refine ⟨fun s tag admits => status_reports admits, ?_⟩
  intro s tag x y z admits answers page sceneItems entryFields ownerOf inState
  refine ⟨fun h => ?_, fun h => ?_, fun h => ?_, fun h => ?_, fun h => ?_, fun h => ?_, fun i hx => ?_, fun i hx => ?_,
    fun i hx => ?_, fun b i hx hy => ⟨fun closed => ?_, fun w slot => ?_⟩, fun n i hx hy => ?_, ?_, fun a hx => ?_⟩
  · exact exec_answer (t := s) (a := .fail .badIndex) rfl rfl rfl admits (by rw [queryStream, index?_of_ge h])
  · exact exec_answer (t := s) (a := .fail .badIndex) rfl rfl rfl admits (by rw [querySlot, index?_of_ge h])
  · exact exec_answer (t := s) (a := .fail .badIndex) rfl rfl rfl admits (by rw [queryMix, index?_of_ge h])
  · refine exec_answer (t := s) (a := .fail .badIndex) rfl rfl rfl admits ?_
    rw [queryCue]
    rcases h with h | h
    · rw [index?_of_ge h]
    · rw [index?_of_ge h]; cases index? 4 x <;> rfl
  · refine exec_answer (t := s) (a := .fail .badIndex) rfl rfl rfl admits ?_
    rw [queryScene]
    rcases h with h | h
    · rw [index?_of_ge h]
    · rw [index?_of_ge h]; cases index? 32 x <;> rfl
  · refine exec_answer (t := s) (a := .fail .badIndex) rfl rfl rfl admits ?_
    have nonzero : x ≠ 0 := by rintro rfl; exact absurd h (by decide)
    rw [queryPack, if_neg nonzero, address?_of_ge h]
  · refine ⟨Config.unstatedByte (if (s.stage.streams.get i).bound then .recordBound else .recordUnbound),
      exec_reports rfl rfl rfl admits (by rw [queryStream, index?_of_lt hx]) ?_ ?_ (by decide)⟩
    · generalize (s.stage.streams.get i).lastBlock = last
      cases last <;>
        simp only [streamCounterList, List.flatMap_cons, List.flatMap_nil, List.append_nil, List.append_assoc, optional_some,
          optional_none_two, boundByte, Ring.waitingOf]
    · have block := optional_length (fun n : BlockNo => be2_length n.toNat) (s.stage.streams.get i).lastBlock
      simp [streamCounterList, boundByte, block]
  · exact ⟨Config.unstatedByte (if (s.slots.get i).bound then .recordBound else .recordUnbound),
      exec_reports rfl rfl rfl admits (by simp only [querySlot, index?_of_lt hx, boundByte]) rfl rfl (by decide)⟩
  · refine exec_reports rfl rfl rfl admits (by rw [queryMix, index?_of_lt hx]) ?_ ?_ (by omega)
    · rw [listReport_eq, PackLine.ownerNumber_byte]
      generalize (s.mixes.get i).dim = dim
      cases dim <;> simp only [List.append_assoc] <;> rfl
    · simp only [List.length_append, listReport_length (sendItem_length _), optional_length signed1_length, be1_length,
        be2_length, be3_length, signed1_length, yesNo_length]
      omega
  · refine exec_reports rfl rfl rfl admits (by simp only [queryCue, index?_of_lt hx, index?_of_lt hy, closed]; rfl) ?_ ?_ (by decide)
    · rw [listReport_eq]; rfl
    · simp [listReport_length sceneItem_length, optional]
  · refine ⟨Config.unstatedByte .immediateBlockHigh, Config.unstatedByte .immediateBlockLow, exec_reports rfl rfl rfl admits
      (by simp only [queryCue, index?_of_lt hx, index?_of_lt hy, slot]; rfl) ?_ ?_ (by omega)⟩
    · rw [listReport_eq]
      rcases w.last with _ | ⟨outcome, mode, mask, moment, cut, fallback, inserted, freed⟩
      · rfl
      · cases outcome <;> cases moment <;> rfl
    · simp only [List.length_append, listReport_length sceneItem_length, optional_length lastApplyBytes_length,
        entryBytes_length, optional_some, be1_length, yesNo_length]
      omega
  · refine ⟨Config.unstatedByte (if (s.cues.scenes.get n).isSome then .sceneStored else .sceneEmpty),
      exec_reports rfl rfl rfl admits (by rw [queryScene, index?_of_lt hx, index?_of_lt hy]) ?_ ?_ (by omega)⟩
    · generalize s.cues.scenes.get n = stored
      cases stored with
      | none => rw [sceneOrDefault_none, listReport_eq]; rfl
      | some scene => rw [listReport_eq]; rfl
    · simp only [List.length_append, listReport_length sceneItem_length, entryBytes_length, List.length_singleton]
      generalize s.cues.scenes.get n = stored
      cases stored with
      | none => rw [sceneOrDefault_none]; simp [MixEntry.default]
      | some scene => simp only [sceneOrDefault]; omega
  · refine ⟨Config.unstatedByte (if s.line.lastUrgent then .classUrgent else .classOther), exec_reports rfl rfl rfl admits (by
      rw [queryPack, if_pos rfl]) ?_ ?_ (by decide)⟩
    · have owners : (fun m => be1 (s.line.ownerNumber m)) = ownerOf := funext (PackLine.ownerNumber_byte s.line)
      simp only [lineReport, Table.count_eq, owners, List.flatMap_cons, List.flatMap_nil, List.append_nil, List.append_assoc,
        inState]
    · simp [lineReport]
  · have nonzero : x ≠ 0 := by rintro rfl; exact absurd hx (by simp)
    refine exec_reports rfl rfl rfl admits (by rw [queryPack, if_neg nonzero, address?_of_eq hx]) ?_ ?_ (by decide)
    · rw [packReport]
      generalize (s.line.packs.get a).mix = mix
      cases mix <;>
        simp only [List.flatMap_cons, List.flatMap_nil, List.append_nil, List.append_assoc, optional_some] <;> rfl
    · have mix := optional_length (fun m : Fin 16 => be1_length m.val) (s.line.packs.get a).mix
      simp [packReport, mix]

end Sys2Proof.Machine
end

section
/-! The order in which queues of notices are raised (R206, log 7), and the notices of one class (R203, R204). -/

namespace Sys2Proof.Machine

/-! ## Taking a front group -/

/-- Where more than k queues may be next, the front group of one of them is taken. -/
theorem takeFront_eq_some {p : List NoticeGroup → Bool} (empty : p [] = false) (queues : List (List NoticeGroup)) (k : Nat)
    (h : k < (queues.filter p).length) :
    ∃ before g q after, queues = before ++ (g :: q) :: after ∧ p (g :: q) = true
      ∧ takeFront p queues k = some (g, before ++ q :: after) := by
  induction queues generalizing k with
  | nil => exact absurd h (Nat.not_lt_zero _)
  | cons q rest ih =>
    by_cases hp : p q = true
    · rw [List.filter_cons_of_pos hp, List.length_cons] at h
      cases k with
      | zero =>
        cases q with
        | nil => rw [empty] at hp; cases hp
        | cons g gs => exact ⟨[], g, gs, rest, rfl, hp, by rw [takeFront, if_pos hp]; rfl⟩
      | succ k =>
        obtain ⟨before, g, gs, after, split, ready, taken⟩ := ih k (Nat.lt_of_succ_lt_succ h)
        exact ⟨q :: before, g, gs, after, by rw [split]; rfl, ready, by rw [takeFront, if_pos hp, taken]; rfl⟩
    · rw [List.filter_cons_of_neg hp] at h
      obtain ⟨before, g, gs, after, split, ready, taken⟩ := ih k h
      exact ⟨q :: before, g, gs, after, by rw [split]; rfl, ready, by
        rw [takeFront.eq_def]; exact (if_neg hp).trans (by rw [taken]; rfl)⟩

/-! ## The orders of R206 -/

/-- The notices are those of the queues in an order that R206 admits: one front group after the other, each of which may be
raised when it is taken. -/
inductive RaisedInOrder : List (List NoticeGroup) → List Notice → Prop
  | none {queues : List (List NoticeGroup)} (empty : ∀ q ∈ queues, q = []) : RaisedInOrder queues []
  | next {before after : List (List NoticeGroup)} {g : NoticeGroup} {q : List NoticeGroup} {ns : List Notice}
      (ready : mayRaise (before ++ (g :: q) :: after) (g :: q) = true) (rest : RaisedInOrder (before ++ q :: after) ns) :
      RaisedInOrder (before ++ (g :: q) :: after) (g ++ ns)

/-- A queue that holds a report holds nothing else, and a report is no HELD. -/
def ReportsAlone (queues : List (List NoticeGroup)) : Prop :=
  ∀ q ∈ queues, ∀ r ∈ q, NoticeGroup.isReport r = true → q = [r] ∧ NoticeGroup.isHeld r = false

/-- With a group left, some queue may be next: that of a report, or any. -/
theorem exists_ready {queues : List (List NoticeGroup)} (alone : ReportsAlone queues) (left : ∃ q ∈ queues, q ≠ []) :
    0 < (queues.filter (mayRaise queues)).length := by
  rw [List.length_filter_pos_iff]
  by_cases report : ∃ q ∈ queues, ∃ r ∈ q, NoticeGroup.isReport r = true
  · obtain ⟨q, mem, r, inside, isReport⟩ := report
    obtain ⟨rfl, notHeld⟩ := alone q mem r inside isReport
    exact ⟨_, mem, by simp [mayRaise, notHeld]⟩
  · obtain ⟨q, mem, nonempty⟩ := left
    have none : (queues.any fun q => q.any NoticeGroup.isReport) = false := by
      simpa [List.any_eq_false] using report
    cases q with
    | nil => exact absurd rfl nonempty
    | cons g gs => exact ⟨_, mem, by simp [mayRaise, none]⟩

theorem ReportsAlone.taken {before after : List (List NoticeGroup)} {g : NoticeGroup} {q : List NoticeGroup}
    (alone : ReportsAlone (before ++ (g :: q) :: after)) : ReportsAlone (before ++ q :: after) := by
  intro p mem r inside isReport
  rcases List.mem_append.mp mem with mem | mem
  · exact alone p (List.mem_append_left _ mem) r inside isReport
  · rcases List.mem_cons.mp mem with rfl | mem
    · obtain ⟨same, notHeld⟩ := alone (g :: p) (by simp) r (List.mem_cons_of_mem _ inside) isReport
      obtain ⟨rfl, rfl⟩ := List.cons_eq_cons.mp same
      cases inside
    · exact alone p (List.mem_append_right _ (List.mem_cons_of_mem _ mem)) r inside isReport

/-- The order that the free values choose is one that R206 admits. -/
theorem interleave_inOrder (fuel : Nat) (queues : List (List NoticeGroup)) (draws : Nat) (alone : ReportsAlone queues)
    (total : (queues.map List.length).sum = fuel) : RaisedInOrder queues (interleave fuel queues draws).1 := by
  induction fuel generalizing queues draws with
  | zero =>
    refine RaisedInOrder.none fun q mem => List.length_eq_zero_iff.mp ?_
    exact List.sum_eq_zero_iff.mp total _ (List.mem_map_of_mem mem)
  | succ fuel ih =>
    have left : ∃ q ∈ queues, q ≠ [] := by
      by_contra none
      push Not at none
      have zero : (queues.map List.length).sum = 0 := List.sum_eq_zero (by
        intro x mem
        obtain ⟨q, inside, rfl⟩ := List.mem_map.mp mem
        rw [none q inside]; rfl)
      omega
    have step : ∀ k draws', k < (queues.filter (mayRaise queues)).length →
        ∃ g rest, takeFront (mayRaise queues) queues k = some (g, rest)
          ∧ RaisedInOrder queues (g ++ (interleave fuel rest draws').1) := by
      intro k draws' lt
      obtain ⟨before, g, q, after, split, ready, taken⟩ := takeFront_eq_some rfl queues k lt
      subst split
      refine ⟨g, _, taken, RaisedInOrder.next ready (ih _ draws' alone.taken ?_)⟩
      simp only [List.map_append, List.map_cons, List.sum_append, List.sum_cons, List.length_cons] at total ⊢
      omega
    have ready := exists_ready alone left
    rw [interleave]
    match count : (queues.filter (mayRaise queues)).length with
    | 0 => omega
    | 1 =>
      obtain ⟨g, rest, taken, order⟩ := step 0 draws (by omega)
      simp only [taken]; exact order
    | n + 2 =>
      obtain ⟨g, rest, taken, order⟩ := step (Config.noticeChoice draws % (n + 2)) (draws + 1)
        (by rw [count]; exact Nat.mod_lt _ (by omega))
      simp only [taken]; exact order

/-- Everything queued is raised, once. -/
theorem RaisedInOrder.perm {queues : List (List NoticeGroup)} {ns : List Notice} (h : RaisedInOrder queues ns) :
    ns.Perm (queues.map List.flatten).flatten := by
  induction h with
  | none empty =>
    rw [List.flatten_eq_nil_iff.mpr]
    intro x mem
    obtain ⟨q, inside, rfl⟩ := List.mem_map.mp mem
    rw [empty q inside]; rfl
  | @next before after g q ns ready rest ih =>
    simp only [List.map_append, List.map_cons, List.flatten_append, List.flatten_cons, List.append_assoc] at ih ⊢
    exact (ih.append_left g).trans (by
      rw [← List.append_assoc, ← List.append_assoc (before.map List.flatten).flatten]
      exact List.Perm.append_right _ List.perm_append_comm)

/-- Each queue keeps its own order. -/
theorem RaisedInOrder.sublist {queues : List (List NoticeGroup)} {ns : List Notice} (h : RaisedInOrder queues ns) :
    ∀ q ∈ queues, q.flatten.Sublist ns := by
  induction h with
  | none empty => intro q mem; rw [empty q mem]; exact List.Sublist.refl _
  | @next before after g q ns ready rest ih =>
    intro p mem
    rcases List.mem_append.mp mem with mem | mem
    · exact (ih p (List.mem_append_left _ mem)).trans (List.sublist_append_right g ns)
    · rcases List.mem_cons.mp mem with rfl | mem
      · exact List.Sublist.append_left (ih q (by simp)) g
      · exact (ih p (List.mem_append_right _ (List.mem_cons_of_mem _ mem))).trans (List.sublist_append_right g ns)

/-- A report stands together, before every HELD. -/
theorem RaisedInOrder.report {queues : List (List NoticeGroup)} {ns : List Notice} (h : RaisedInOrder queues ns)
    {r : NoticeGroup} (isReport : r.isReport = true) :
    (∃ q ∈ queues, r ∈ q) → ∃ before after, ns = before ++ r ++ after ∧ ∀ x ∈ before, x.event ≠ .held := by
  induction h with
  | none empty => rintro ⟨q, mem, inside⟩; rw [empty q mem] at inside; cases inside
  | @next before after g q ns ready rest ih =>
    rintro ⟨p, mem, inside⟩
    have queued : ((before ++ (g :: q) :: after).any fun q => q.any NoticeGroup.isReport) = true :=
      List.any_eq_true.mpr ⟨p, mem, List.any_eq_true.mpr ⟨r, inside, isReport⟩⟩
    have notHeld : ∀ x ∈ g, x.event ≠ .held := by
      rw [mayRaise, queued, Bool.and_true, Bool.not_eq_true', NoticeGroup.isHeld, List.any_eq_false] at ready
      exact fun x mem held => ready x mem (by rw [held]; rfl)
    have later : (∃ p ∈ before ++ q :: after, r ∈ p) →
        ∃ first last, g ++ ns = first ++ r ++ last ∧ ∀ x ∈ first, x.event ≠ .held := by
      intro there
      obtain ⟨first, last, split, none⟩ := ih there
      refine ⟨g ++ first, last, by rw [split]; simp only [List.append_assoc], fun x mem => ?_⟩
      exact (List.mem_append.mp mem).elim (notHeld x) (none x)
    rcases List.mem_append.mp mem with mem | mem
    · exact later ⟨p, List.mem_append_left _ mem, inside⟩
    · rcases List.mem_cons.mp mem with rfl | mem
      · rcases List.mem_cons.mp inside with rfl | inside
        · exact ⟨[], ns, rfl, nofun⟩
        · exact later ⟨q, by simp, inside⟩
      · exact later ⟨p, List.mem_append_right _ (List.mem_cons_of_mem _ mem), inside⟩

/-! ## The notices of one class -/

/-- The events of a condition's change (R203). -/
theorem changeEvent_eq (sens : Sensitivity) (before after : Bool) :
    changeEvent sens before after =
      if before = false ∧ after = true ∧ (sens = .enter ∨ sens = .both ∨ sens = .enterHeld) then some .enter
      else if before = true ∧ after = false ∧ (sens = .leave ∨ sens = .both) then some .leave
      else none := by
  cases before <;> cases after <;> simp [changeEvent]

/-- HELD comes from a condition that stays true under ENTER_HELD (R204). -/
theorem heldDue_iff (sens : Sensitivity) (before after : Bool) :
    heldDue sens before after = true ↔ sens = .enterHeld ∧ before = true ∧ after = true := by
  cases before <;> cases after <;> cases sens <;> decide

theorem changeEvent_cases {sens : Sensitivity} {before after : Bool} {e : NoticeEvent} (h : changeEvent sens before after = some e) :
    e = .enter ∨ e = .leave := by
  rw [changeEvent_eq] at h
  split at h
  · exact .inl (Option.some.inj h).symm
  · split at h
    · exact .inr (Option.some.inj h).symm
    · cases h

/-- Where each subject's notice carries the event, a class raises ENTER, LEAVE and HELD only. -/
theorem classNotices_event {sens : Sensitivity} {ends : Bool} {subjects : List (Bool × Bool × (NoticeEvent → Notice))}
    (carries : ∀ x ∈ subjects, ∀ e, (x.2.2 e).event = e) :
    ∀ x ∈ classNotices sens ends subjects, x.event ≠ .report := by
  intro x mem
  rcases List.mem_append.mp mem with mem | mem
  · obtain ⟨⟨before, after, make⟩, inside, made⟩ := List.mem_filterMap.mp mem
    obtain ⟨e, change, rfl⟩ := Option.map_eq_some_iff.mp made
    rw [carries _ inside e]
    rcases changeEvent_cases change with rfl | rfl <;> decide
  · cases ends with
    | false => cases mem
    | true =>
      obtain ⟨⟨before, after, make⟩, inside, made⟩ := List.mem_filterMap.mp mem
      dsimp only at made
      split at made
      · obtain rfl := Option.some.inj made
        rw [carries _ inside]; decide
      · cases made

end Sys2Proof.Machine
end

section
/-! NOTICE_SET, and the notices that a boundary raises: each class from the state before the boundary and the state that the
block leaves. -/

namespace Sys2Proof.Machine

/-! ## NOTICE_SET -/

theorem exec_noticeSet {s : State} {tag cls setting : Byte} (admits : s.Admits tag) {l : Link}
    (h : s.link.noticeSet? cls setting = some l) :
    exec (.noticeSet tag [cls, setting]) s = .next ((s.withLink l).reply .done 0x04 tag []) :=
  exec_answer (t := s.withLink l) (a := .done []) rfl rfl rfl admits (by simp only [noticeSet, h])

theorem exec_noticeSet_refused {s : State} {tag cls setting : Byte} (admits : s.Admits tag)
    (h : s.link.noticeSet? cls setting = none) :
    exec (.noticeSet tag [cls, setting]) s = .next (s.replyFail 0x04 tag .badValue) :=
  exec_answer (t := s) (a := .fail .badValue) rfl rfl rfl admits (by simp only [noticeSet, h])

theorem sensitivity?_of_ge {b : Byte} (h : 5 ≤ b.toNat) : sensitivity? b = none := by
  unfold sensitivity?
  split
  case h_6 => rfl
  all_goals omega

/-- A class without a setting of that code, or no class at all (R14). -/
theorem Link.noticeSet?_eq_none (l : Link) {cls setting : Byte}
    (h : (cls.toNat = 0 ∨ 6 ≤ cls.toNat) ∨ (cls.toNat ≤ 4 ∧ 5 ≤ setting.toNat) ∨ (cls = 5 ∧ 2 ≤ setting.toNat)) :
    l.noticeSet? cls setting = none := by
  have flag : cls.toNat = 5 → flag? setting = none := by
    intro five
    rcases h with h | ⟨h, _⟩ | ⟨_, h⟩
    · omega
    · omega
    · exact flag?_of_ge h
  have sensitivity : 1 ≤ cls.toNat → cls.toNat ≤ 4 → sensitivity? setting = none := by
    intro low high
    rcases h with h | ⟨_, h⟩ | ⟨rfl, _⟩
    · omega
    · exact sensitivity?_of_ge h
    · exact absurd high (by decide)
  unfold Link.noticeSet?
  split
  case h_5 five => rw [flag five]; rfl
  case h_6 => rfl
  all_goals
    rename_i code
    rw [sensitivity (by omega) (by omega)]; rfl

theorem noticeSet_effects {s : State} {tag : Byte} (admits : s.Admits tag) (cls setting : Byte) :
    (∀ v : Sensitivity, sensitivity? setting = some v →
        (cls = 1 → exec (.noticeSet tag [cls, setting]) s
            = .next ((s.withLink { s.link with sensLimit := v }).reply .done 0x04 tag []))
          ∧ (cls = 2 → exec (.noticeSet tag [cls, setting]) s
            = .next ((s.withLink { s.link with sensSlot := v }).reply .done 0x04 tag []))
          ∧ (cls = 3 → exec (.noticeSet tag [cls, setting]) s
            = .next ((s.withLink { s.link with sensRing := v }).reply .done 0x04 tag []))
          ∧ (cls = 4 → exec (.noticeSet tag [cls, setting]) s
            = .next ((s.withLink { s.link with sensClock := v }).reply .done 0x04 tag [])))
      ∧ (∀ on : Bool, flag? setting = some on → cls = 5 → exec (.noticeSet tag [cls, setting]) s
            = .next ((s.withLink { s.link with packNotices := on }).reply .done 0x04 tag []))
      ∧ ((cls.toNat = 0 ∨ 6 ≤ cls.toNat) ∨ (cls.toNat ≤ 4 ∧ 5 ≤ setting.toNat) ∨ (cls = 5 ∧ 2 ≤ setting.toNat) →
          exec (.noticeSet tag [cls, setting]) s = .next (s.replyFail 0x04 tag .badValue)) := by
  refine ⟨fun v hv => ⟨?_, ?_, ?_, ?_⟩, fun on hon => ?_,
    fun bad => exec_noticeSet_refused admits (Link.noticeSet?_eq_none _ bad)⟩
  · rintro rfl; exact exec_noticeSet admits (congrArg (Option.map _) hv)
  · rintro rfl; exact exec_noticeSet admits (congrArg (Option.map _) hv)
  · rintro rfl; exact exec_noticeSet admits (congrArg (Option.map _) hv)
  · rintro rfl; exact exec_noticeSet admits (congrArg (Option.map _) hv)
  · rintro rfl; exact exec_noticeSet admits (congrArg (Option.map _) hon)

/-! ## The settings at a boundary -/

/-- The sensitivities of the classes that a boundary raises are the same. -/
structure SameSettings (l m : Link) : Prop where
  limit : m.sensLimit = l.sensLimit
  slot : m.sensSlot = l.sensSlot
  ring : m.sensRing = l.sensRing
  clock : m.sensClock = l.sensClock

theorem Raises.settings {s t : State} (h : Raises s t) : SameSettings s.link t.link := by
  obtain ⟨ns, h⟩ := h
  obtain ⟨limit, slot, ring, clock, _⟩ := Link.pushNotices_settings ns s.link
  rw [h]
  exact ⟨limit, slot, ring, clock⟩

theorem State.completeDeferred_settings (s : State) (m : BlockNo) : SameSettings s.link (s.completeDeferred m).link := by
  refine (State.completeDeferred_induction (P := fun t => SameSettings s.link t.link) m ?_ s ⟨rfl, rfl, rfl, rfl⟩).1
  intro t d rest _ same
  obtain ⟨o, h⟩ := State.completeEntry_link t m d
  rw [h, Link.complete_eq]
  exact ⟨same.limit, same.slot, same.ring, same.clock⟩

/-! ## The state that a block leaves, before its notices -/

/-- The state of a boundary when its notices are raised: `s` with its block mixed. -/
def State.mixed (s : State) (n : BlockNo) : State :=
  let computed := computeMixes (s.assemble n) (s.assemble n).click.blockSamples
  let t := (s.assemble n).settle computed
  (t.withLine (t.line.sendFrame n (computed.list.filterMap Computed.block))).withMeter
    (t.meter.counted (computed.map fun c => c.block.isSome))

/-- The queues of the notices of a boundary. -/
def State.noticesOf (s before : State) (n : BlockNo) : List (List NoticeGroup) :=
  boundaryQueues s.ring.rejects
    ((computeMixes (s.assemble n) (s.assemble n).click.blockSamples).map Computed.peak) before (s.mixed n)

theorem State.mixBlock_eq (s before : State) (n : BlockNo) :
    s.mixBlock before n = ((s.mixed n).raiseQueues (s.noticesOf before n)).endInterval := rfl

/-- The end of an interval clears the meter of a slot, and leaves the rest of its record. -/
theorem State.endInterval_slot (s : State) (i : Fin 48) :
    ∃ p, s.endInterval.slots.get i = { s.slots.get i with peak := p } := by
  unfold State.endInterval
  split
  · exact ⟨0, by simp [clearPeaks]⟩
  · exact ⟨(s.slots.get i).peak, rfl⟩

theorem State.mixBlock_slot (s before : State) (n : BlockNo) (i : Fin 48) :
    ∃ p, (s.mixBlock before n).slots.get i = { (s.mixed n).slots.get i with peak := p } := by
  obtain ⟨p, h⟩ := State.endInterval_slot ((s.mixed n).raiseQueues (s.noticesOf before n)) i
  exact ⟨p, by rw [State.mixBlock_eq, h, (State.raiseQueues_window _ _).slots]⟩

theorem assembleSlot_bound (r : Ring) (n : BlockNo) (k : Slot) : (assembleSlot r n k).bound = k.bound := by
  unfold assembleSlot; split <;> rfl

/-! ## The queues of a boundary -/

theorem State.raiseQueues_link (s : State) (queues : List (List NoticeGroup)) :
    (s.raiseQueues queues).link
      = (interleave (queues.map List.length).sum queues s.draws).1.foldl Link.pushNotice s.link := by
  simp only [State.raiseQueues]
  rw [State.raiseAll_eq]
  rfl

/-- The notices that a boundary raises are those of its queues, in an order of R206. -/
theorem State.mixBlock_link (s before : State) (n : BlockNo) (alone : ReportsAlone (s.noticesOf before n)) :
    ∃ raised, RaisedInOrder (s.noticesOf before n) raised
      ∧ (s.mixBlock before n).link = raised.foldl Link.pushNotice s.link := by
  refine ⟨_, interleave_inOrder _ _ (s.mixed n).draws alone rfl, ?_⟩
  rw [State.mixBlock_eq, (State.endInterval_frame _).1, State.raiseQueues_link]
  rfl

/-- The queues of four classes, one notice at a time, and the report's. -/
def classQueues (clocks rings slots limits report : List Notice) : List (List NoticeGroup) :=
  [clocks.map fun n => [n], rings.map fun n => [n], slots.map fun n => [n], limits.map fun n => [n],
   if report = [] then [] else [report]]

theorem flatten_singletons (l : List Notice) : (l.map fun n => [n]).flatten = l := by
  induction l with
  | nil => rfl
  | cons n l ih => rw [List.map_cons, List.flatten_cons, ih]; rfl

theorem flatten_report (report : List Notice) : (if report = [] then [] else [report]).flatten = report := by
  split
  · next h => rw [h]; rfl
  · simp

/-- No notice of a class is a report, and all of the report's are. -/
def ClassesApart (clocks rings slots limits report : List Notice) : Prop :=
  (∀ x ∈ clocks ++ rings ++ slots ++ limits, x.event ≠ .report) ∧ ∀ x ∈ report, x.event = .report

theorem ClassesApart.reportsAlone {clocks rings slots limits report : List Notice}
    (apart : ClassesApart clocks rings slots limits report) : ReportsAlone (classQueues clocks rings slots limits report) := by
  obtain ⟨classes, reports⟩ := apart
  have single : ∀ ns : List Notice, (∀ x ∈ ns, x.event ≠ .report) → ∀ r ∈ ns.map fun n => [n],
      NoticeGroup.isReport r ≠ true := by
    intro ns none r mem
    obtain ⟨x, inside, rfl⟩ := List.mem_map.mp mem
    simpa [NoticeGroup.isReport] using none x inside
  intro q mem r inside isReport
  simp only [List.mem_append] at classes
  simp only [classQueues, List.mem_cons, List.not_mem_nil, or_false] at mem
  rcases mem with rfl | rfl | rfl | rfl | rfl
  · exact absurd isReport (single _ (fun x h => classes x (by simp [h])) r inside)
  · exact absurd isReport (single _ (fun x h => classes x (by simp [h])) r inside)
  · exact absurd isReport (single _ (fun x h => classes x (by simp [h])) r inside)
  · exact absurd isReport (single _ (fun x h => classes x (by simp [h])) r inside)
  · split at inside
    · cases inside
    · next some =>
      obtain rfl := List.mem_singleton.mp inside
      refine ⟨if_neg some, ?_⟩
      rw [NoticeGroup.isHeld, List.any_eq_false]
      intro x mem
      rw [reports x mem]; decide

/-- What an order of R206 of the classes' queues and the report's keeps. -/
theorem RaisedInOrder.classes {clocks rings slots limits report raised : List Notice}
    (h : RaisedInOrder (classQueues clocks rings slots limits report) raised) (reports : ∀ x ∈ report, x.event = .report) :
    raised.Perm (clocks ++ rings ++ slots ++ limits ++ report)
      ∧ clocks.Sublist raised ∧ rings.Sublist raised ∧ slots.Sublist raised ∧ limits.Sublist raised
      ∧ ∃ before after : List Notice, raised = before ++ report ++ after
          ∧ (report ≠ [] → ∀ x ∈ before, x.event ≠ .held) := by
  have sub : ∀ ns : List Notice, (ns.map fun n => [n]) ∈ classQueues clocks rings slots limits report → ns.Sublist raised := by
    intro ns mem
    have := h.sublist _ mem
    rwa [flatten_singletons] at this
  refine ⟨?_, sub clocks (by simp [classQueues]), sub rings (by simp [classQueues]), sub slots (by simp [classQueues]),
    sub limits (by simp [classQueues]), ?_⟩
  · have perm := h.perm
    simp only [classQueues, List.map_cons, List.map_nil, flatten_singletons, flatten_report, List.flatten_cons,
      List.flatten_nil, List.append_nil, ← List.append_assoc] at perm
    exact perm
  · by_cases none : report = []
    · exact ⟨raised, [], by rw [none]; simp, fun some => absurd none some⟩
    · obtain ⟨x, rest, split⟩ := List.exists_cons_of_ne_nil none
      have isReport : NoticeGroup.isReport report = true :=
        List.any_eq_true.mpr ⟨x, by simp [split], by rw [reports x (by simp [split])]; rfl⟩
      obtain ⟨before, after, parts, notHeld⟩ := h.report isReport ⟨[report], by simp [classQueues, none], by simp⟩
      exact ⟨before, after, parts, fun _ => notHeld⟩

end Sys2Proof.Machine
end

section
/-! The notices of a boundary, class by class, against the state before it and the state after it. -/

namespace Sys2Proof.Machine

/-! ## The state after windows and deferred entries -/

/-- What windows and completions leave of a boundary's state: the clock and the ring that they were given, the slots, the click,
the meter unit and the settings of the classes. -/
structure AtBoundary (s d : State) (c : Clock) (ring : Ring) : Prop where
  clock : d.clock = c
  ring : d.ring = ring
  slots : d.slots = s.slots
  click : d.click = s.click
  meter : d.meter = s.meter
  settings : SameSettings s.link d.link

theorem State.atBoundary (s : State) (c : Clock) (ring : Ring) (n : BlockNo) :
    AtBoundary s (((s.closeWindows.withClock c).withRing ring).completeDeferred n) c ring := by
  have done := State.completeDeferred_frame ((s.closeWindows.withClock c).withRing ring) n
  have windows := State.closeWindows_window s
  have opened := (State.closeWindows_raises s).settings
  have closed := State.completeDeferred_settings ((s.closeWindows.withClock c).withRing ring) n
  exact ⟨done.clock, done.ring, done.slots.trans windows.slots, done.click.trans windows.click,
    done.meter.trans windows.meter, closed.limit.trans opened.limit, closed.slot.trans opened.slot,
    closed.ring.trans opened.ring, closed.clock.trans opened.clock⟩

theorem State.mixingBoundary_eq (s : State) (c : Clock) (n : BlockNo) (relocked : Bool) :
    s.mixingBoundary c n relocked =
      (((s.closeWindows.withClock c).withRing (if relocked then s.ring.consume fun e => !inWindow (n - 1) e.block else s.ring)
        ).completeDeferred n).mixBlock s n := by
  rw [State.mixingBoundary, (State.closeWindows_window s).ring]
  rfl

/-! ## The subjects of each class -/

theorem classNotices_eq (sens : Sensitivity) (ends : Bool) (subjects : List (Bool × Bool × (NoticeEvent → Notice))) :
    classNotices sens ends subjects =
      (subjects.filterMap fun x =>
        (if x.1 = false ∧ x.2.1 = true ∧ (sens = .enter ∨ sens = .both ∨ sens = .enterHeld) then some NoticeEvent.enter
         else if x.1 = true ∧ x.2.1 = false ∧ (sens = .leave ∨ sens = .both) then some .leave
         else none).map x.2.2)
        ++ if ends then subjects.filterMap fun x =>
            if sens = .enterHeld ∧ x.1 = true ∧ x.2.1 = true then some (x.2.2 .held) else none
          else [] := by
  simp only [classNotices, changeEvent_eq, heldDue_iff]

section
variable {s d : State} {c : Clock} {ring : Ring} (n : BlockNo)

theorem AtBoundary.ends (b : AtBoundary s d c ring) :
    (d.mixed n).meter.intervalEnds = decide (s.meter.countdown ≤ 1) := by
  rw [← b.meter]
  show (d.meter.countdown - 1 == 0) = _
  rw [Bool.eq_iff_iff, beq_iff_eq, decide_eq_true_iff]
  omega

theorem AtBoundary.metersOn (b : AtBoundary s d c ring) : (d.mixed n).meter.on = s.meter.on := by
  rw [← b.meter]; rfl

theorem AtBoundary.mixedSettings (b : AtBoundary s d c ring) : SameSettings s.link (d.mixed n).link := b.settings

theorem AtBoundary.clockSubjects (b : AtBoundary s d c ring) :
    clockSubjects s (d.mixed n) = [(s.clock.unlocked, c.unlocked, fun e =>
      { event := e, subject := none, block := c.lastBlock, info := .clock (if e = .leave then s.clock.spell else c.spell) })] := by
  rw [← b.clock]; rfl

theorem AtBoundary.ringSubjects (b : AtBoundary s d c ring) {u : Ring} (after : u = ring.afterBlock n)
    (kept : ring.rejects = s.ring.rejects) :
    ringSubjects d.ring.rejects s (d.mixed n) = [(s.ring.condition, u.condition, fun e =>
      { event := e, subject := none, block := c.lastBlock
        info := .ring s.ring.rejects (u.entries.map RingEntry.pages).sum u.entries.length
          (u.entries.filter fun e => !e.consumed).length u.tailState })] := by
  rw [after, ← kept, ← b.ring, ← b.clock]; rfl

theorem AtBoundary.slotSubjects (b : AtBoundary s d c ring) {u : Table Slot 48}
    (after : ∀ i, ∃ p, u.get i = { (d.mixed n).slots.get i with peak := p }) :
    slotSubjects s (d.mixed n) = (List.finRange 48).map fun i =>
      ((s.slots.get i).condition, (u.get i).condition, fun e =>
        { event := e, subject := some i.val, block := c.lastBlock
          info := .slot (u.get i).status (u.get i).stream.val (u.get i).channel (u.get i).misses }) := by
  rw [← b.clock]
  refine List.map_congr_left fun i _ => ?_
  obtain ⟨p, same⟩ := after i
  rw [same]
  rfl

theorem AtBoundary.limitSubjects (b : AtBoundary s d c ring) {computed : Table Computed 16}
    (h : computed = computeMixes (d.assemble n) s.click.blockSamples) :
    limitSubjects ((computeMixes (d.assemble n) (d.assemble n).click.blockSamples).map Computed.peak) s (d.mixed n) =
      (List.finRange 16).map fun i =>
        ((s.limiters.get i).condition, (computed.get i).limiter.condition, fun e =>
          { event := e, subject := some i.val, block := c.lastBlock
            info := .limit (computed.get i).limiter.gain (computed.get i).peak (computed.get i).mix.ceiling
              (8388607 * gainOf (computed.get i).mix.ceiling / 65536) }) := by
  subst h
  rw [← b.clock, ← b.click]
  refine List.map_congr_left fun i _ => ?_
  have limiter : (d.mixed n).limiters.get i
      = ((computeMixes (d.assemble n) d.click.blockSamples).get i).limiter := Table.get_map _ _ i
  have mix : (d.mixed n).mixes.get i = ((computeMixes (d.assemble n) d.click.blockSamples).get i).mix := Table.get_map _ _ i
  simp only [limiter, mix, Table.get_map, ceilingOf]
  rfl

/-- The METER report of a boundary (R199, R201). -/
theorem AtBoundary.meterReport (b : AtBoundary s d c ring) {computed : Table Computed 16}
    (h : computed = computeMixes (d.assemble n) s.click.blockSamples) :
    meterReport (d.mixed n) (d.mixed n).meter =
      [{ event := .report, subject := none, block := c.lastBlock
         info := .meterMixes s.meter.sequence s.meter.interval
           (((List.finRange 16).filter fun i => s.meter.seen.get i || (computed.get i).block.isSome).map fun i =>
             (i, (computed.get i).limiter.peak, (computed.get i).limiter.lowest)) },
       { event := .report, subject := none, block := c.lastBlock
         info := .meterSlots s.meter.sequence s.meter.interval
           (((List.finRange 48).filter fun i => (s.slots.get i).bound).map fun i =>
             (i, (assembleSlot ring n (s.slots.get i)).peak)) }] := by
  subst h
  rw [← b.clock, ← b.click, ← b.meter, ← b.slots, ← b.ring]
  have seen : ∀ i, (d.mixed n).meter.seen.get i
      = (d.meter.seen.get i || ((computeMixes (d.assemble n) d.click.blockSamples).get i).block.isSome) := by
    intro i
    show (Table.zipWith (· || ·) d.meter.seen (Table.map _ _)).get i = _
    rw [Table.get_zipWith, Table.get_map]; rfl
  have limiter : ∀ i, (d.mixed n).limiters.get i
      = ((computeMixes (d.assemble n) d.click.blockSamples).get i).limiter := Table.get_map _ _
  have slot : ∀ i, (d.mixed n).slots.get i = assembleSlot d.ring n (d.slots.get i) := Table.get_map _ _
  simp only [Machine.meterReport, Table.where?, seen, limiter, slot, assembleSlot_bound, id]
  rfl

end

/-! ## The statement -/

/-- Settles O11: a boundary raises its queues in an order of R206, and its queues are the classes of the statement. -/
theorem noticeSettingsAndEvents : Obligations.NoticeSettingsAndEvents := by
  unfold Obligations.NoticeSettingsAndEvents
  refine ⟨fun s tag cls setting admits => noticeSet_effects admits cls setting, ?_⟩
  intro s c n relocked ring d u computed ends change raisedBy notice clocks rings slots limits report
  have b : AtBoundary s d c ring := State.atBoundary s c ring n
  have hu : u = d.mixBlock s n := State.mixingBoundary_eq s c n relocked
  have rejects : ring.rejects = s.ring.rejects := by
    simp only [ring]; split <;> rfl
  clear_value d u ring
  have uring : u.ring = ring.afterBlock n := by
    obtain ⟨_, _, _, _, h, _⟩ := State.mixBlock_fields d s n
    rw [hu, h, b.ring]
  have uslots : ∀ i, ∃ p, u.slots.get i = { (d.mixed n).slots.get i with peak := p } := hu ▸ State.mixBlock_slot d s n
  have raisedBy_eq : ∀ sens subjects, raisedBy sens subjects = classNotices sens ends subjects :=
    fun sens subjects => (classNotices_eq sens ends subjects).symm
  have onClass : ∀ {sens sens' : Sensitivity} {subjects subjects'}, sens' = sens → subjects' = subjects →
      classNotices sens' (d.mixed n).meter.intervalEnds subjects' = raisedBy sens subjects := by
    rintro sens _ subjects _ rfl rfl
    rw [b.ends n, raisedBy_eq]
  have onReport : (if (d.mixed n).meter.intervalEnds && (d.mixed n).meter.on then [meterReport (d.mixed n) (d.mixed n).meter]
      else []) = if report = [] then [] else [report] := by
    rw [b.ends n, b.metersOn n, b.meterReport n (computed := computed) rfl]
    by_cases due : (ends && s.meter.on) = true
    · simp only [report, ends] at due ⊢
      simp only [due, if_true]
      rfl
    · simp only [report, ends] at due ⊢
      simp only [due]
      rfl
  have queues : d.noticesOf s n = classQueues clocks rings slots limits report := by
    rw [State.noticesOf, boundaryQueues, onReport]
    dsimp only
    rw [onClass (b.mixedSettings n).clock (b.clockSubjects n), onClass (b.mixedSettings n).ring (b.ringSubjects n uring rejects),
      onClass (b.mixedSettings n).slot (b.slotSubjects n uslots),
      onClass (b.mixedSettings n).limit (b.limitSubjects n (computed := computed) rfl)]
    rfl
  have reports : ∀ x ∈ report, x.event = .report := by
    intro x mem
    simp only [report] at mem
    split at mem
    · simp only [List.mem_cons, List.not_mem_nil, or_false] at mem
      rcases mem with rfl | rfl <;> rfl
    · cases mem
  have quiet : ∀ sens subjects, (∀ x ∈ subjects, ∀ e, (x.2.2 e).event = e) → ∀ x ∈ raisedBy sens subjects, x.event ≠ .report := by
    intro sens subjects carries
    rw [raisedBy_eq]
    exact classNotices_event carries
  have apart : ClassesApart clocks rings slots limits report := by
    refine ⟨?_, reports⟩
    simp only [List.forall_mem_append]
    refine ⟨⟨⟨quiet _ _ ?_, quiet _ _ ?_⟩, quiet _ _ ?_⟩, quiet _ _ ?_⟩
    · exact List.forall_mem_singleton.mpr fun e => rfl
    · exact List.forall_mem_singleton.mpr fun e => rfl
    · exact List.forall_mem_map.mpr fun i _ e => rfl
    · exact List.forall_mem_map.mpr fun i _ e => rfl
  obtain ⟨raised, order, link⟩ := State.mixBlock_link d s n (queues ▸ apart.reportsAlone)
  exact ⟨raised, hu ▸ link, (queues ▸ order).classes reports⟩

end Sys2Proof.Machine
end

section
/-! Engine states and the block clock: entry into STOPPED, what a valid sync frame does in each engine state, and the expiries of
the timer. -/

namespace Sys2Proof.Machine

/-! ## Entry into STOPPED -/

/-- Settles O13: a table takes its own map record by record, and every other block one record update. -/
theorem entryIntoStopped : Obligations.EntryIntoStopped := by
  unfold Obligations.EntryIntoStopped
  intro s t
  exact ⟨rfl, rfl, fun i => Table.get_map _ _ i, fun i => Table.get_map _ _ i, fun i => Table.get_map _ _ i, rfl, rfl, rfl, rfl,
    rfl, rfl⟩

/-! ## A valid sync frame -/

/-- A sync frame that passes the tests of the stage port is handed to the Block Clock (R39). -/
theorem exec_syncFrame_valid (s : State) (t : Time) {f : List Byte} (eight : f.length = 8) (type : byteAt f 0 = 2)
    (check : checkHolds f = true) : exec (.syncFrame t f) s = .next (s.takeSync t (frameId f) (frameBlock f)) := by
  show (.next (s.stageFrame t f) : Host.Outcome State Fault Refusal) = _
  rw [State.stageFrame, if_neg (by omega), if_neg (by rw [type]; decide), if_pos type, if_pos ⟨eight, check⟩]

/-- UNFORMATTED and STOPPED count every sync frame (R27). -/
theorem State.takeSync_of_idle {s : State} (engine : s.clock.engine = .unformatted ∨ s.clock.engine = .stopped) (t : Time)
    (id : StreamId) (block : BlockNo) :
    s.takeSync t id block = s.withClock { s.clock with idleSyncs := count32 s.clock.idleSyncs } := if_pos engine

/-- In the engine states that take syncs, the id decides between the sync stream and a foreign one (R27). -/
theorem State.takeSync_of_taking {s : State}
    (engine : s.clock.engine = .armed ∨ s.clock.engine = .running ∨ s.clock.engine = .holdover) {fmt : Format}
    (format : s.clock.format = some fmt) (t : Time) (id : StreamId) (block : BlockNo) :
    s.takeSync t id block = if id = fmt.syncId then s.ownSync fmt t block
      else s.withClock { s.clock with foreignSyncs := count32 s.clock.foreignSyncs } := by
  have taking : ¬ (s.clock.engine = .unformatted ∨ s.clock.engine = .stopped) := by rcases engine with e | e | e <;> simp [e]
  rw [State.takeSync, if_neg taking, format]

/-- A sync frame of the sync stream, in an engine state that takes syncs. -/
theorem exec_syncFrame_own {s : State} (t : Time) {f : List Byte} (eight : f.length = 8) (type : byteAt f 0 = 2)
    (check : checkHolds f = true) {fmt : Format} (format : s.clock.format = some fmt) (id : frameId f = fmt.syncId)
    (engine : s.clock.engine = .armed ∨ s.clock.engine = .running ∨ s.clock.engine = .holdover) :
    exec (.syncFrame t f) s = .next (s.ownSync fmt t (frameBlock f)) := by
  rw [exec_syncFrame_valid s t eight type check, State.takeSync_of_taking engine format, if_pos id]

/-! ## The sync stream -/

theorem Clock.isEarly_iff {c : Clock} {b : Time} (boundary : c.lastBoundary = some b) (fmt : Format) (t : Time) :
    c.isEarly fmt t = true ↔ t < b + halfPeriod fmt.rate := by
  rw [Clock.isEarly, boundary]; exact decide_eq_true_iff

/-- In ARMED the first sync of the stream is the first boundary (R26). -/
theorem State.ownSync_armed {s : State} (engine : s.clock.engine = .armed) (fmt : Format) (t : Time) (block : BlockNo) :
    s.ownSync fmt t block
      = s.mixingBoundary (s.clock.afterSync fmt t (block - BitVec.ofNat 16 fmt.lag)) (block - BitVec.ofNat 16 fmt.lag) false := by
  rw [State.ownSync, engine]

/-- An early sync in RUNNING is counted (R28). -/
theorem State.ownSync_early_running {s : State} (engine : s.clock.engine = .running) {fmt : Format} {t : Time}
    (early : s.clock.isEarly fmt t = true) (block : BlockNo) :
    s.ownSync fmt t block = s.withClock { s.clock with earlySyncs := count32 s.clock.earlySyncs } := by
  rw [State.ownSync, engine]; exact if_pos early

/-- An early sync in HOLDOVER realigns (R34). -/
theorem State.ownSync_early_holdover {s : State} (engine : s.clock.engine = .holdover) {fmt : Format} {t : Time}
    (early : s.clock.isEarly fmt t = true) (block : BlockNo) : s.ownSync fmt t block = s.realign fmt block := by
  rw [State.ownSync, engine]; exact if_pos early

/-- A sync that is not early is a boundary in RUNNING and in HOLDOVER alike (R29, R30, R33). -/
theorem State.ownSync_late {s : State} (engine : s.clock.engine = .running ∨ s.clock.engine = .holdover) {fmt : Format} {t : Time}
    (late : ¬ s.clock.isEarly fmt t = true) (block : BlockNo) : s.ownSync fmt t block = s.syncBoundary fmt t block := by
  rcases engine with e | e
  · rw [State.ownSync, e]; exact if_neg late
  · rw [State.ownSync, e]; exact if_neg late

/-- Settles O14: the frame reaches the Block Clock, and its engine state and id select the counter. -/
theorem countedSyncFrames : Obligations.CountedSyncFrames := by
  unfold Obligations.CountedSyncFrames
  intro s t f eight type check
  rw [exec_syncFrame_valid s t eight type check]
  refine ⟨fun engine => ?_, fun fmt format id engine => ?_⟩
  · rw [State.takeSync_of_idle engine]; rfl
  · rw [State.takeSync_of_taking engine format, if_neg id]; rfl

/-- Settles O15: the early test is the comparison with half a period, and exactly half fails it. -/
theorem earlySync : Obligations.EarlySync := by
  unfold Obligations.EarlySync
  intro s t b f fmt eight type check format id boundary half
  have half_eq : half = halfPeriod fmt.rate := by simp only [half]; cases fmt.rate <;> rfl
  have early := Clock.isEarly_iff boundary fmt t
  have own := exec_syncFrame_own (s := s) t eight type check format id
  rw [← half_eq] at early
  refine ⟨fun engine before => ?_, fun engine exactly => ?_, fun engine before => ?_⟩
  · rw [own (.inr (.inl engine)), State.ownSync_early_running engine (early.mpr before)]; rfl
  · rw [own (.inr (.inl engine)), State.ownSync_late (.inl engine) (early.not.mpr (Nat.not_lt.mpr exactly.ge))]
  · rw [own (.inr (.inr engine)), State.ownSync_early_holdover engine (early.mpr before)]

/-! ## Realignment -/

theorem Clock.block_of_lastBlock {c : Clock} {m : BlockNo} (block : c.lastBlock = some m) : c.block = m := by
  rw [Clock.block, block]; rfl

/-- A realignment to the block that the clock stands at: only engine, timer and counter change (R34). -/
theorem State.realign_same {s : State} {m : BlockNo} {b : Time} (block : s.clock.lastBlock = some m)
    (boundary : s.clock.lastBoundary = some b) {fmt : Format} {frame : BlockNo} (same : frame = m + BitVec.ofNat 16 fmt.lag) :
    s.realign fmt frame = s.withClock { s.clock with
      engine := .running, timer := some (b + watchSpan fmt.rate), realigns := count32 s.clock.realigns } := by
  have timer : s.clock.lastBoundary.map (· + watchSpan fmt.rate) = some (b + watchSpan fmt.rate) := by rw [boundary]; rfl
  rw [← Clock.block_of_lastBlock block] at same
  rw [State.realign, Clock.afterRealign, if_pos same, if_pos same, timer]
  rfl

/-- A realignment to another block: M, the spell and the ring follow it (R34, R35, R57). -/
theorem State.realign_other {s : State} {m : BlockNo} {b : Time} (block : s.clock.lastBlock = some m)
    (boundary : s.clock.lastBoundary = some b) {fmt : Format} {frame : BlockNo} (other : frame ≠ m + BitVec.ofNat 16 fmt.lag) :
    s.realign fmt frame = (s.withClock { s.clock with
      engine := .running, timer := some (b + watchSpan fmt.rate), realigns := count32 s.clock.realigns
      lastBlock := some (frame - BitVec.ofNat 16 fmt.lag)
      spell := s.clock.spell.map (·.addJump (signedDistance (m + BitVec.ofNat 16 fmt.lag) frame)) }).withRing
        (s.ring.relock (frame - BitVec.ofNat 16 fmt.lag)) := by
  have timer : s.clock.lastBoundary.map (· + watchSpan fmt.rate) = some (b + watchSpan fmt.rate) := by rw [boundary]; rfl
  rw [← Clock.block_of_lastBlock block] at other ⊢
  rw [State.realign, Clock.afterRealign, if_neg other, if_neg other, timer]
  rfl

/-- Settles O17: the early frame realigns, and whether it names the block that the clock stands at decides which way. -/
theorem realignment : Obligations.Realignment := by
  unfold Obligations.Realignment
  intro s t b m f fmt eight type check format id engine block boundary lag period kept before
  have half : b + period / 2 = b + halfPeriod fmt.rate := rfl
  have early : s.clock.isEarly fmt t = true := (Clock.isEarly_iff boundary fmt t).mpr (half ▸ before)
  rw [exec_syncFrame_own t eight type check format id (.inr (.inr engine)), State.ownSync_early_holdover engine early]
  refine ⟨fun same => ?_, fun other => ?_⟩
  · rw [State.realign_same block boundary same]; rfl
  · rw [State.realign_other block boundary other]; rfl

/-! ## Sync frames taken as boundaries -/

/-- The expected block is mixed as a normal sync (R29, R33). -/
theorem State.syncBoundary_expected {s : State} (pending : s.clock.stopPending = false) {m : BlockNo}
    (block : s.clock.lastBlock = some m) {fmt : Format} {frame : BlockNo} (expected : frame = m + BitVec.ofNat 16 fmt.lag + 1)
    (t : Time) :
    s.syncBoundary fmt t frame
      = s.mixingBoundary (s.clock.afterSync fmt t (frame - BitVec.ofNat 16 fmt.lag)) (frame - BitVec.ofNat 16 fmt.lag) false := by
  rw [← Clock.block_of_lastBlock block] at expected
  rw [State.syncBoundary, pending]
  exact if_pos expected

/-- Another block is a relock, with the jump from the expected block (R30, R33). -/
theorem State.syncBoundary_relock {s : State} (pending : s.clock.stopPending = false) {m : BlockNo}
    (block : s.clock.lastBlock = some m) {fmt : Format} {frame : BlockNo} (other : frame ≠ m + BitVec.ofNat 16 fmt.lag + 1)
    (t : Time) :
    s.syncBoundary fmt t frame
      = s.mixingBoundary (s.clock.afterRelock fmt t (frame - BitVec.ofNat 16 fmt.lag)
          (signedDistance (m + BitVec.ofNat 16 fmt.lag + 1) frame)) (frame - BitVec.ofNat 16 fmt.lag) true := by
  rw [← Clock.block_of_lastBlock block] at other ⊢
  rw [State.syncBoundary, pending]
  exact if_neg other

/-- Settles O16: ARMED takes its first boundary at once; a frame that is not early is a boundary that expects E or relocks. -/
theorem syncBoundaries : Obligations.SyncBoundaries := by
  unfold Obligations.SyncBoundaries
  intro s t b m f fmt eight type check format id lag n period normal spell relocked
  have clock : ∀ (c : Clock) (relock : Bool), (s.mixingBoundary c n relock).clock = c :=
    fun c relock => (State.mixingBoundary_frame s c n relock).1
  have own := exec_syncFrame_own (s := s) t eight type check format id
  refine ⟨fun engine => ⟨?_, clock normal false⟩, fun engine pending block boundary after => ?_⟩
  · rw [own (.inl engine), State.ownSync_armed engine]; rfl
  · have late : ¬ s.clock.isEarly fmt t = true := by
      rw [Clock.isEarly_iff boundary]; exact Nat.not_lt.mpr after
    rw [own (.inr engine), State.ownSync_late engine late]
    refine ⟨fun expected => ⟨?_, ?_, clock normal false⟩, fun other => ⟨?_, clock relocked true⟩⟩
    · rw [show n = m + lag + 1 - lag from congrArg (· - lag) expected, add_right_comm, add_sub_cancel_right]
    · rw [State.syncBoundary_expected pending block expected]; rfl
    · rw [State.syncBoundary_relock pending block other]; rfl

/-! ## Expiries -/

/-- With no STOP pending the expiry of the running timer is a boundary that mixes the next block (R31, R32). -/
theorem State.timerExpiry_mixes {s : State} (pending : s.clock.stopPending = false) {t : Time} (timer : s.clock.timer = some t)
    {fmt : Format} (format : s.clock.format = some fmt) {m : BlockNo} (block : s.clock.lastBlock = some m) :
    s.timerExpiry s.clock.engine = s.mixingBoundary (s.clock.afterExpiry fmt t) (m + 1) false := by
  rw [State.timerExpiry, if_pos rfl, timer, format]
  simp only [State.expire, pending, Clock.block_of_lastBlock block, Bool.false_eq_true, if_false]

/-- Settles O18: both expiries are the boundary of `Clock.afterExpiry`, which counts an entry only from RUNNING. -/
theorem timerExpiries : Obligations.TimerExpiries := by
  unfold Obligations.TimerExpiries
  intro s t m fmt format timer block pending period spell held entered
  have clock : ∀ c : Clock, (s.mixingBoundary c (m + 1) false).clock = c := fun c => (State.mixingBoundary_frame s c _ _).1
  have expiry := State.timerExpiry_mixes pending timer format block
  refine ⟨fun engine => ⟨?_, clock entered⟩, fun engine => ⟨?_, clock held⟩⟩
  · have after : s.clock.afterExpiry fmt t = entered := by
      rw [Clock.afterExpiry, if_pos engine, Clock.block_of_lastBlock block]; rfl
    rw [engine, after] at expiry
    exact congrArg Host.Outcome.next expiry
  · have after : s.clock.afterExpiry fmt t = held := by
      rw [Clock.afterExpiry, if_neg (by rw [engine]; decide), Clock.block_of_lastBlock block]; rfl
    rw [engine, after] at expiry
    exact congrArg Host.Outcome.next expiry

end Sys2Proof.Machine
end

section
/-! The work of a boundary that mixes a block, block by block. -/

namespace Sys2Proof.Machine

/-! ## The end of the meter interval -/

/-- What the meter unit does after the notices of a boundary, at an interval end and before it (R199, R200). -/
theorem State.endInterval_fields (s : State) :
    s.endInterval.slots = (if s.meter.intervalEnds then clearPeaks s.slots else s.slots)
      ∧ s.endInterval.limiters = (if s.meter.intervalEnds then clearMeters s.limiters else s.limiters)
      ∧ s.endInterval.meter = if s.meter.intervalEnds then s.meter.nextInterval else s.meter := by
  rw [State.endInterval]
  split
  · exact ⟨rfl, rfl, rfl⟩
  · exact ⟨rfl, rfl, rfl⟩

/-- Notices leave slots, limiters and meter unit, so a mixed block reaches the end of the interval with these as they were. -/
theorem State.mixBlock_interval (s before : State) (n : BlockNo) :
    (s.mixBlock before n).slots = (if (s.mixed n).meter.intervalEnds then clearPeaks (s.mixed n).slots else (s.mixed n).slots)
      ∧ (s.mixBlock before n).limiters
          = (if (s.mixed n).meter.intervalEnds then clearMeters (s.mixed n).limiters else (s.mixed n).limiters)
      ∧ (s.mixBlock before n).meter
          = if (s.mixed n).meter.intervalEnds then (s.mixed n).meter.nextInterval else (s.mixed n).meter := by
  have raised := State.raiseQueues_window (s.mixed n) (s.noticesOf before n)
  rw [State.mixBlock_eq, ← raised.slots, ← raised.limiters, ← raised.meter]
  exact State.endInterval_fields _

theorem State.mixBlock_deferred (s before : State) (n : BlockNo) :
    (s.mixBlock before n).link.deferred = s.link.deferred := by
  rw [State.mixBlock_eq, (State.endInterval_frame _).1, State.raiseQueues_link]
  exact (Link.pushNotices_frame _ _).2.1

section
variable {s d : State} {c : Clock} {ring : Ring} (n : BlockNo)

/-- A slot after the boundary: assembled from the ring, with its peak cleared at an interval end (R67, R200). -/
theorem AtBoundary.mixBlock_slot (b : AtBoundary s d c ring) (i : Fin 48) :
    (d.mixBlock s n).slots.get i = { assembleSlot ring n (s.slots.get i) with
      peak := if s.meter.countdown ≤ 1 then 0 else (assembleSlot ring n (s.slots.get i)).peak } := by
  have mixed : (d.mixed n).slots.get i = assembleSlot ring n (s.slots.get i) := by
    rw [← b.ring, ← b.slots]; exact Table.get_map _ _ i
  rw [(State.mixBlock_interval d s n).1, b.ends n]
  by_cases ends : s.meter.countdown ≤ 1
  · rw [if_pos (decide_eq_true ends), if_pos ends, ← mixed]; exact Table.get_map _ _ i
  · rw [if_neg (decide_eq_true_iff.not.mpr ends), if_neg ends, mixed]

/-- A limiter after the boundary: as computed, with its meters cleared at an interval end (R102, R200). -/
theorem AtBoundary.mixBlock_limiter (b : AtBoundary s d c ring) {computed : Table Computed 16}
    (h : computed = computeMixes (d.assemble n) s.click.blockSamples) (i : Fin 16) :
    (d.mixBlock s n).limiters.get i = { (computed.get i).limiter with
      peak := if s.meter.countdown ≤ 1 then 0 else (computed.get i).limiter.peak
      lowest := if s.meter.countdown ≤ 1 then 65536 else (computed.get i).limiter.lowest } := by
  have mixed : (d.mixed n).limiters.get i = (computed.get i).limiter := by
    rw [h, ← b.click]; exact Table.get_map _ _ i
  rw [(State.mixBlock_interval d s n).2.1, b.ends n]
  by_cases ends : s.meter.countdown ≤ 1
  · rw [if_pos (decide_eq_true ends), if_pos ends, if_pos ends, ← mixed]; exact Table.get_map _ _ i
  · rw [if_neg (decide_eq_true_iff.not.mpr ends), if_neg ends, if_neg ends, mixed]

/-- The meter unit of a boundary when its notices are raised: the boundary counted, the computed mixes seen (R199). -/
theorem AtBoundary.mixed_meter (b : AtBoundary s d c ring) {computed : Table Computed 16}
    (h : computed = computeMixes (d.assemble n) s.click.blockSamples) :
    (d.mixed n).meter = s.meter.counted (computed.map fun x => x.block.isSome) := by
  rw [h, ← b.click, ← b.meter]; rfl

/-- The meter unit after the boundary (R199). -/
theorem AtBoundary.mixBlock_meter (b : AtBoundary s d c ring) {computed : Table Computed 16}
    (h : computed = computeMixes (d.assemble n) s.click.blockSamples) :
    (d.mixBlock s n).meter = if s.meter.countdown ≤ 1
      then (s.meter.counted (computed.map fun x => x.block.isSome)).nextInterval
      else s.meter.counted (computed.map fun x => x.block.isSome) := by
  rw [(State.mixBlock_interval d s n).2.2, b.ends n, b.mixed_meter n h]
  simp only [decide_eq_true_eq]

end

/-! ## The statement -/

/-- Settles O20: windows and deferred entries as `State.atBoundary` says, then the block as `State.mixBlock` leaves each part. -/
theorem boundaryWork : Obligations.BoundaryWork := by
  unfold Obligations.BoundaryWork
  intro s c n relocked ring d u computed ends next
  have b : AtBoundary s d c ring := State.atBoundary s c ring n
  have hu : u = d.mixBlock s n := State.mixingBoundary_eq s c n relocked
  have emptied : d.link.deferred = [] := State.completeDeferred_deferred _ n
  obtain ⟨clock, stage, scenes, _⟩ := State.mixingBoundary_frame s c n relocked
  obtain ⟨_, _, cues, _, consumed, click, mixes, line⟩ := State.mixBlock_fields d s n
  have rejects : ring.rejects = s.ring.rejects := by simp only [ring]; split <;> rfl
  have meter := b.mixBlock_meter n (computed := computed) rfl
  rw [b.ring] at consumed
  rw [b.click] at click mixes line
  refine ⟨clock, ?_, stage, hu ▸ cues, scenes, ?_, hu ▸ b.mixBlock_slot n, hu ▸ click, fun i => ?_,
    hu ▸ b.mixBlock_limiter n rfl, hu ▸ line, fun due => ?_, fun notDue => ?_, ?_⟩
  · rw [hu, State.mixBlock_deferred, emptied]
  · rw [hu, consumed, ← rejects]; rfl
  · rw [hu, mixes, Table.get_map]
  · rw [hu, meter, if_pos due]
    exact ⟨rfl, rfl, rfl, Table.get_fill false, rfl⟩
  · rw [hu, meter, if_neg notDue]
    exact ⟨rfl, rfl, rfl, fun i => by rw [Meter.counted, Table.get_zipWith, Table.get_map], rfl⟩
  · rw [hu, meter]; split <;> rfl

end Sys2Proof.Machine
end

section
/-! The frame ring: what the page storage reads back after a write round the circle, how the entries of the index lie in the
circle of pages, and that storing a frame keeps the ring sound and every older frame readable. -/

namespace Sys2Proof.Machine

/-! ## The page storage -/

theorem readByte_writeByte (i : Nat) (b : Byte) (j : Nat) :
    ∀ mem : List Host.Cell, storageWf mem = true → readByte (writeByte mem i b) j = if j = i then b else readByte mem j := by
  intro mem
  induction mem with
  | nil => intro _; unfold writeByte; split <;> grind [readByte]
  | cons cell rest ih =>
    obtain ⟨a, v⟩ := cell
    intro wf
    obtain ⟨_, _, above, tail⟩ := (storageWf_cons_iff a v rest).mp wf
    have kept := ih tail
    rw [writeByte]
    split
    · rename_i below
      have unlisted := readByte_below i ((a, v) :: rest) wf (by simpa using below)
      split <;> grind [readByte]
    · split
      · rename_i here
        have unlisted := readByte_below i rest tail (here ▸ above)
        split <;> grind [readByte]
      · grind [readByte]

theorem ringAddress_succ (start i : Nat) : ringAddress (start + 1) i = ringAddress start (i + 1) := by
  simp only [ringAddress, Nat.add_assoc, Nat.add_comm 1 i]

/-- Within one turn of the circle every address is another one. -/
theorem ringAddress_inj {start i j : Nat} (hi : i < 24576) (hj : j < 24576) (h : ringAddress start i = ringAddress start j) :
    i = j := by
  simp only [ringAddress, Config.ringBytes, Config.ringPages, Config.pageBytes] at h
  omega

/-- A write leaves every address that it does not reach. -/
theorem readByte_writeBytes_ne {x : Nat} (bytes : List Byte) :
    ∀ (mem : List Host.Cell) (start : Nat), storageWf mem = true → (∀ k, k < bytes.length → x ≠ ringAddress start k) →
      readByte (writeBytes mem start bytes) x = readByte mem x := by
  induction bytes with
  | nil => intro mem start _ _; rfl
  | cons b rest ih =>
    intro mem start wf away
    have others : ∀ k, k < rest.length → x ≠ ringAddress (start + 1) k := fun k hk => by
      rw [ringAddress_succ]; exact away (k + 1) (Nat.succ_lt_succ hk)
    rw [writeBytes, ih _ _ (writeByte_wf _ _ (ringAddress_lt start 0) mem wf) others, readByte_writeByte _ _ _ _ wf,
      if_neg (away 0 (Nat.zero_lt_succ _))]

/-- A write of no more bytes than the storage holds reads back, byte by byte. -/
theorem readByte_writeBytes (bytes : List Byte) :
    ∀ (mem : List Host.Cell) (start : Nat), storageWf mem = true → bytes.length ≤ 24576 →
      ∀ k (hk : k < bytes.length), readByte (writeBytes mem start bytes) (ringAddress start k) = bytes[k] := by
  induction bytes with
  | nil => intro _ _ _ _ k hk; exact absurd hk (Nat.not_lt_zero k)
  | cons b rest ih =>
    intro mem start wf fits k hk
    simp only [List.length_cons] at fits hk
    have wf' := writeByte_wf (ringAddress start 0) b (ringAddress_lt start 0) mem wf
    rw [writeBytes]
    cases k with
    | zero =>
      have away : ∀ k, k < rest.length → ringAddress start 0 ≠ ringAddress (start + 1) k := fun k hk same => by
        rw [ringAddress_succ] at same
        exact absurd (ringAddress_inj (by omega) (by omega) same) (Nat.succ_ne_zero k).symm
      rw [readByte_writeBytes_ne rest _ _ wf' away, readByte_writeByte _ _ _ _ wf, if_pos rfl]; rfl
    | succ k =>
      rw [← ringAddress_succ]
      exact ih _ _ wf' (by omega) k (by omega)

/-! ## The entries in the circle of pages -/

/-- An entry is chained to what follows it: the next entry, or the head. -/
theorem Ring.chained_cons_iff (head : Nat) (e : RingEntry) (es : List RingEntry) :
    Ring.chained head (e :: es) = true ↔
      (es.head?.map RingEntry.first).getD head = (e.first + e.pages) % 384 ∧ Ring.chained head es = true := by
  cases es with
  | nil => simp [Ring.chained]
  | cons e' rest => simp [Ring.chained]

/-- From the first entry of a chain, the pages of the chain lead to the head. -/
theorem Ring.chained_reaches {head : Nat} :
    ∀ (es : List RingEntry) (e : RingEntry), Ring.chained head (e :: es) = true →
      (e.first + ((e :: es).map RingEntry.pages).sum) % 384 = head % 384 := by
  intro es
  induction es with
  | nil => intro e h; have next := ((Ring.chained_cons_iff head e []).mp h).1; simp at next ⊢; omega
  | cons e' rest ih =>
    intro e h
    obtain ⟨next, chain⟩ := (Ring.chained_cons_iff head e (e' :: rest)).mp h
    have reaches := ih e' chain
    simp only [List.head?_cons, Option.map_some, Option.getD_some] at next
    simp only [List.map_cons, List.sum_cons] at reaches ⊢
    omega

theorem Ring.chained_suffix {head : Nat} {part : List RingEntry} :
    ∀ {es : List RingEntry}, part <:+ es → Ring.chained head es = true → Ring.chained head part = true := by
  intro es
  induction es with
  | nil => intro h _; rw [List.suffix_nil.mp h]; rfl
  | cons e es ih =>
    intro h chain
    rcases List.suffix_cons_iff.mp h with rfl | h
    · exact chain
    · exact ih h ((Ring.chained_cons_iff head e es).mp chain).2

/-- An entry that begins at the head continues the chain. -/
theorem Ring.chained_concat {head : Nat} {e : RingEntry} (first : e.first = head) :
    ∀ {es : List RingEntry}, Ring.chained head es = true → Ring.chained ((head + e.pages) % 384) (es ++ [e]) = true := by
  intro es
  induction es with
  | nil => intro _; exact (Ring.chained_cons_iff _ e []).mpr ⟨by rw [first]; rfl, rfl⟩
  | cons a es ih =>
    intro chain
    obtain ⟨next, rest⟩ := (Ring.chained_cons_iff head a es).mp chain
    refine (Ring.chained_cons_iff _ a (es ++ [e])).mpr ⟨?_, ih rest⟩
    cases es with
    | nil => rw [← next]; exact first
    | cons => exact next

/-- The place of an entry in a sound ring: the pages of it and of the entries after it lead to the head. -/
theorem Ring.Sound.entry_place {r : Ring} (h : r.Sound) {e : RingEntry} (mem : e ∈ r.entries) :
    ∃ span, e.pages ≤ span ∧ span ≤ r.pagesUsed ∧ (e.first + span) % 384 = r.head := by
  obtain ⟨_, _, _, head, _, chain, _⟩ := h
  obtain ⟨before, after, split⟩ := List.append_of_mem mem
  have suffix : (e :: after) <:+ r.entries := ⟨before, split.symm⟩
  have reaches := Ring.chained_reaches after e (Ring.chained_suffix suffix chain)
  refine ⟨((e :: after).map RingEntry.pages).sum, ?_, ?_, ?_⟩
  · rw [List.map_cons, List.sum_cons]; exact Nat.le_add_right _ _
  · rw [Ring.pagesUsed, split, List.map_append, List.sum_append]; exact Nat.le_add_left _ _
  · rw [reaches]; exact Nat.mod_eq_of_lt head

/-- Bytes on the pages that lead to the head, and bytes from the head on, within one turn of the circle. -/
theorem ringAddress_ne_of_pages {first span head i k : Nat} (place : (first + span) % 384 = head) (hi : i < span * 64)
    (hk : span * 64 + k < 24576) : ringAddress (first * 64) i ≠ ringAddress (head * 64) k := by
  have onward : ringAddress (head * 64) k = ringAddress (first * 64) (span * 64 + k) := by
    simp only [ringAddress, Config.ringBytes, Config.ringPages, Config.pageBytes]
    omega
  rw [onward]
  intro same
  exact absurd (ringAddress_inj (by omega) hk same) (by omega)

/-! ## Storing a frame -/

theorem pagesFor_bounds {channels : Nat} (high : channels ≤ 8) :
    1 ≤ pagesFor channels ∧ pagesFor channels ≤ 7 ∧ 8 + 48 * channels ≤ pagesFor channels * 64 := by
  simp only [pagesFor, keptBytes, Config.pageBytes]
  omega

/-- The index entry of a frame that is stored at the head (R53, R55). -/
def Ring.newEntry (r : Ring) (stream : Fin 8) (block : BlockNo) (channels : Nat) (damaged : Bool) : RingEntry :=
  { stream := stream, block := block, channels := channels, damaged := damaged, consumed := false, first := r.head,
    pages := pagesFor channels }

theorem Ring.store_entries (r : Ring) (stream : Fin 8) (block : BlockNo) (channels : Nat) (damaged : Bool) (f : List Byte) :
    (r.store stream block channels damaged f).entries = r.entries ++ [r.newEntry stream block channels damaged] := rfl

/-- A frame for which there is room goes into the ring (R52 to R55). -/
theorem Ring.Sound.store {r : Ring} (h : r.Sound) (stream : Fin 8) (block : BlockNo) {channels : Nat} (low : 1 ≤ channels)
    (high : channels ≤ 8) (pages : r.pagesUsed + pagesFor channels ≤ 384) (room : r.entries.length < 64) (damaged : Bool)
    (f : List Byte) : (r.store stream block channels damaged f).Sound := by
  obtain ⟨wf, _, _, head, entries, chain, tail⟩ := h
  have chained := Ring.chained_concat (e := r.newEntry stream block channels damaged) rfl chain
  refine ⟨writeBytes_wf _ _ _ wf, ?_, ?_, Nat.mod_lt _ (by decide), ?_, chained, ?_⟩
  · simpa [Ring.store, Ring.pagesUsed] using pages
  · simpa [Ring.store] using room
  · intro e mem
    rcases List.mem_append.mp mem with old | new
    · exact entries e old
    · rw [List.mem_singleton.mp new]; exact ⟨head, low, high, rfl⟩
  · show ∀ e ∈ (r.entries ++ _).head?.toList, e.consumed = false
    cases none : r.entries with
    | nil => simp
    | cons e rest => rw [none] at tail; exact tail

/-- The bytes of a stored frame are those that a channel's samples are read from. -/
theorem Ring.samples_congr {r r' : Ring} {e : RingEntry} (same : ∀ i, i < 8 + 48 * e.channels → r'.frameByte e i = r.frameByte e i)
    {c : Nat} (hc : c < e.channels) : r'.samples e c = r.samples e c := by
  refine Table.ext_get fun k => ?_
  have row : k.val * e.channels ≤ 15 * e.channels := Nat.mul_le_mul_right _ (by omega)
  simp only [Ring.samples, Table.get_tabulate]
  rw [same _ (by omega), same _ (by omega), same _ (by omega)]

/-- A byte of an older frame stays where it is: the new frame begins at the head, and the pages from the older entry on lead
there within one turn of the circle. -/
theorem Ring.Sound.store_keeps {r : Ring} (h : r.Sound) (stream : Fin 8) (block : BlockNo) {channels : Nat} (high : channels ≤ 8)
    (pages : r.pagesUsed + pagesFor channels ≤ 384) (damaged : Bool) (f : List Byte) {e : RingEntry} (mem : e ∈ r.entries)
    {i : Nat} (hi : i < 8 + 48 * e.channels) :
    (r.store stream block channels damaged f).frameByte e i = r.frameByte e i := by
  obtain ⟨span, within, used, place⟩ := h.entry_place mem
  obtain ⟨wf, _, _, head, entries, _, _⟩ := h
  obtain ⟨_, _, old, count⟩ := entries e mem
  obtain ⟨_, _, fits⟩ := pagesFor_bounds old
  obtain ⟨_, _, new⟩ := pagesFor_bounds high
  refine readByte_writeBytes_ne _ _ _ wf fun k hk => ?_
  have hk : k < 8 + 48 * channels := lt_of_lt_of_le hk (List.length_take_le _ _)
  exact ringAddress_ne_of_pages place (by omega) (by omega)

/-- The new frame reads back. -/
theorem Ring.Sound.store_reads {r : Ring} (h : r.Sound) (stream : Fin 8) (block : BlockNo) {channels : Nat} (high : channels ≤ 8)
    (damaged : Bool) {f : List Byte} (long : 8 + 48 * channels ≤ f.length) {e : RingEntry} (first : e.first = r.head) {i : Nat}
    (hi : i < 8 + 48 * channels) : (r.store stream block channels damaged f).frameByte e i = byteAt f i := by
  obtain ⟨wf, _⟩ := h
  have length : (f.take (keptBytes channels)).length = 8 + 48 * channels := by
    rw [List.length_take]; exact Nat.min_eq_left long
  have read := readByte_writeBytes (f.take (keptBytes channels)) r.pages (r.head * 64) wf (by omega) i (by omega)
  rw [Ring.frameByte, first]
  refine read.trans ?_
  rw [List.getElem_take, byteAt, List.getD_eq_getElem _ _ (by omega)]

/-- Settles O23: the pages of the new frame lie outside those of every older entry, and hold the frame's bytes in order. -/
theorem storedAudioReadsBack : Obligations.StoredAudioReadsBack := by
  unfold Obligations.StoredAudioReadsBack
  intro r stream block channels damaged f sound low high length pages room stored
  refine ⟨sound.store stream block low high pages room damaged f, fun e mem c hc => ?_, fun e last => ?_⟩
  · exact Ring.samples_congr (fun i hi => sound.store_keeps stream block high pages damaged f mem hi) hc
  · simp only [stored, Ring.store_entries, List.getLast?_append, List.getLast?_singleton, Option.some_or, Option.some.injEq] at last
    subst last
    refine ⟨rfl, rfl, rfl, fun c hc k => ?_⟩
    have row : k.val * channels ≤ 15 * channels := Nat.mul_le_mul_right _ (by omega)
    have read := fun i (hi : i < 8 + 48 * channels) =>
      sound.store_reads stream block high damaged (f := f) (by omega)
        (e := r.newEntry stream block channels damaged) rfl hi
    simp only [Ring.samples, Table.get_tabulate, Ring.newEntry] at read ⊢
    rw [read _ (by omega), read _ (by omega), read _ (by omega)]

end Sys2Proof.Machine
end

section
/-! What every step keeps of the stream table, the frame ring and the slots: the relations themselves, what marking entries
CONSUMED does to the ring, and what a boundary makes of a slot. -/

namespace Sys2Proof.Machine

/-! ## Marking entries CONSUMED (R56 to R58) -/

/-- The WAITING entries, oldest first. -/
def Ring.waiting (r : Ring) : List RingEntry := r.entries.filter fun e => !e.consumed

theorem Ring.mem_waiting {r : Ring} {e : RingEntry} : e ∈ r.waiting ↔ e ∈ r.entries ∧ e.consumed = false := by
  simp [Ring.waiting]

/-- Reclaim takes no WAITING entry. -/
theorem Ring.reclaim_waiting (r : Ring) : r.reclaim.waiting = r.waiting := by
  have key : ∀ es : List RingEntry,
      (es.dropWhile RingEntry.consumed).filter (fun e => !e.consumed) = es.filter fun e => !e.consumed := by
    intro es
    induction es with
    | nil => rfl
    | cons e es ih => cases h : e.consumed <;> simp [h, ih]
  exact key r.entries

/-- An entry that a marking may have made CONSUMED. -/
def RingEntry.marked (p : RingEntry → Bool) (e : RingEntry) : RingEntry := { e with consumed := e.consumed || p e }

theorem Ring.consume_entries (r : Ring) (p : RingEntry → Bool) :
    (r.consume p).entries = (r.entries.map (RingEntry.marked p)).dropWhile RingEntry.consumed := rfl

theorem Ring.consume_waiting (r : Ring) (p : RingEntry → Bool) : (r.consume p).waiting = r.waiting.filter fun e => !p e := by
  have key : ∀ es : List RingEntry,
      (es.map (RingEntry.marked p)).filter (fun e => !e.consumed)
        = (es.filter fun e => !e.consumed).filter fun e => !p e := by
    intro es
    induction es with
    | nil => rfl
    | cons e es ih =>
      obtain ⟨stream, block, channels, damaged, consumed, first, pages⟩ := e
      cases consumed <;> simp_all [RingEntry.marked, List.filter_cons]
  rw [Ring.consume, Ring.reclaim_waiting]
  exact key r.entries

theorem Ring.chained_map {head : Nat} {f : RingEntry → RingEntry} (same : ∀ e, (f e).first = e.first ∧ (f e).pages = e.pages) :
    ∀ {es : List RingEntry}, Ring.chained head es = true → Ring.chained head (es.map f) = true := by
  intro es
  induction es with
  | nil => exact id
  | cons e es ih =>
    intro chain
    obtain ⟨next, rest⟩ := (Ring.chained_cons_iff head e es).mp chain
    refine (Ring.chained_cons_iff head (f e) (es.map f)).mpr ⟨?_, ih rest⟩
    rw [(same e).1, (same e).2, ← next]
    cases es with
    | nil => rfl
    | cons e' => exact (same e').1

/-- Marking entries and reclaiming the tail keep the layout of the rest. -/
theorem Ring.Sound.consume {r : Ring} (h : r.Sound) (p : RingEntry → Bool) : (r.consume p).Sound := by
  obtain ⟨wf, pages, length, head, entries, chain, _⟩ := h
  have left := r.consume_entries p
  generalize marked : r.entries.map (RingEntry.marked p) = es at left
  have suffix : (r.consume p).entries <:+ es := by rw [left]; exact List.dropWhile_suffix _
  have used : (es.map RingEntry.pages).sum = r.pagesUsed := by
    rw [← marked, List.map_map]; rfl
  refine ⟨wf, ?_, ?_, head, fun e mem => ?_, ?_, ?_⟩
  · exact ((suffix.sublist.map RingEntry.pages).sum_le_sum fun _ _ => Nat.zero_le _).trans (used.trans_le pages)
  · exact suffix.length_le.trans (by rw [← marked, List.length_map]; exact length)
  · obtain ⟨old, held, rfl⟩ := List.mem_map.mp (marked ▸ suffix.subset mem)
    exact entries old held
  · exact Ring.chained_suffix suffix (by rw [← marked]; exact Ring.chained_map (f := .marked p) (fun _ => ⟨rfl, rfl⟩) chain)
  · have first := List.head?_dropWhile_not RingEntry.consumed es
    rw [left]
    cases none : (es.dropWhile RingEntry.consumed).head? with
    | none => simp
    | some e => rw [none] at first; simpa using first

/-! ## The relations -/

/-- The records of a table and their indices. -/
theorem Table.forall_iff {α : Type} {n : Nat} (t : Table α n) (P : α → Prop) : (∀ x ∈ t.list, P x) ↔ ∀ i, P (t.get i) := by
  simp only [Table.mem_iff, forall_exists_index, forall_apply_eq_imp_iff]

/-- The stream table by its indices: ranges, distinct BOUND ids, and none the sync id. -/
structure StreamsFit (t : Table Stream 8) (format : Option Format) : Prop where
  sound : ∀ i, (t.get i).Sound
  distinct : ∀ i j, (t.get i).bound = true → (t.get j).bound = true → (t.get i).id = (t.get j).id → i = j
  notSync : ∀ f ∈ format.toList, ∀ i, (t.get i).bound = true → (t.get i).id ≠ f.syncId

theorem State.streamsSound_iff {s : State} : s.StreamsSound ↔ StreamsFit s.stage.streams s.clock.format := by
  have ids : ((s.stage.streams.list.filter Stream.bound).map Stream.id).Nodup ↔
      ∀ i j, (s.stage.streams.get i).bound = true → (s.stage.streams.get j).bound = true →
        (s.stage.streams.get i).id = (s.stage.streams.get j).id → i = j := by
    rw [Table.list_eq_map, List.filter_map, List.map_map, List.nodup_map_iff_inj_on ((List.nodup_finRange 8).filter _)]
    simp only [List.mem_filter, List.mem_finRange, true_and, Function.comp_apply]
    exact ⟨fun h i j bi bj e => h i bi j bj e, fun h i bi j bj e => h i j bi bj e⟩
  rw [State.StreamsSound, Table.forall_iff, ids]
  simp only [Table.forall_iff _ fun r : Stream => r.bound = true → r.id ≠ _]
  exact ⟨fun ⟨sound, distinct, sync⟩ => ⟨sound, distinct, sync⟩, fun ⟨sound, distinct, sync⟩ => ⟨sound, distinct, sync⟩⟩

/-- The WAITING entries against the stream table and the last mixed block. -/
structure Ring.Fits (r : Ring) (t : Table Stream 8) (m : BlockNo) : Prop where
  entries : ∀ e ∈ r.waiting, (t.get e.stream).bound = true ∧ (t.get e.stream).channels = e.channels
    ∧ inWindow m e.block = true
  keys : (r.waiting.map fun e => (e.stream, e.block)).Nodup

/-- Outside the mixing states the ring holds nothing. -/
def Ring.Idle (r : Ring) : Prop := r.entries = [] ∧ r.rejects = 0 ∧ r.condition = false

theorem State.ringSound_iff {s : State} :
    s.RingSound ↔ s.ring.Sound ∧ s.ring.Fits s.stage.streams s.clock.block ∧ (s.clock.mixing = false → s.ring.Idle) := by
  constructor
  · rintro ⟨sound, entries, keys, idle⟩
    exact ⟨sound, ⟨fun e mem => entries e (Ring.mem_waiting.mp mem).1 (Ring.mem_waiting.mp mem).2, keys⟩, idle⟩
  · rintro ⟨sound, fits, idle⟩
    exact ⟨sound, fun e mem waits => fits.entries e (Ring.mem_waiting.mpr ⟨mem, waits⟩), fits.keys, idle⟩

theorem Ring.fits_of_empty {r : Ring} (empty : r.entries = []) (t : Table Stream 8) (m : BlockNo) : r.Fits t m := by
  have none : r.waiting = [] := by rw [Ring.waiting, empty]; rfl
  exact ⟨by rw [none]; exact nofun, by rw [none]; exact List.nodup_nil⟩

/-- Entries that stay WAITING must fit the table and the block that they are left to. -/
theorem Ring.Fits.consume {r : Ring} {t t' : Table Stream 8} {m m' : BlockNo} (h : r.Fits t m) {p : RingEntry → Bool}
    (kept : ∀ e ∈ r.waiting, p e = false → (t'.get e.stream).bound = true ∧ (t'.get e.stream).channels = e.channels
      ∧ inWindow m' e.block = true) : (r.consume p).Fits t' m' := by
  have waiting := r.consume_waiting p
  refine ⟨fun e mem => ?_, ?_⟩
  · rw [waiting, List.mem_filter] at mem
    exact kept e mem.1 (by simpa using mem.2)
  · rw [waiting]
    exact h.keys.sublist (List.filter_sublist.map _)

/-- A slot record against the stream table. -/
def Slot.Fits (k : Slot) (t : Table Stream 8) : Prop :=
  k.Sound ∧ (k.bound = true → (t.get k.stream).bound = true ∧ k.channel < (t.get k.stream).channels)

theorem State.slotsSound_iff {s : State} : s.SlotsSound ↔ ∀ i, (s.slots.get i).Fits s.stage.streams :=
  Table.forall_iff s.slots fun k => k.Fits s.stage.streams

/-- An UNBOUND slot record fits every table. -/
theorem Slot.fits_unbound (condition : Bool) (t : Table Stream 8) : ({ Slot.unbound with condition := condition } : Slot).Fits t := by
  refine ⟨⟨Nat.zero_le _, Nat.zero_le _, ?_, ?_, fun _ => rfl⟩, nofun⟩
  all_goals
    intro x mem
    rw [List.eq_of_mem_replicate mem]
    decide

/-- The part of a sound state that the stream table, the frame ring and the slots make up. -/
structure State.StageSound (s : State) : Prop where
  streams : StreamsFit s.stage.streams s.clock.format
  ring : s.ring.Sound
  fits : s.ring.Fits s.stage.streams s.clock.block
  idle : s.clock.mixing = false → s.ring.Idle
  slots : ∀ i, (s.slots.get i).Fits s.stage.streams

theorem State.stageSound_iff {s : State} : s.StageSound ↔ s.StreamsSound ∧ s.RingSound ∧ s.SlotsSound := by
  rw [State.streamsSound_iff, State.ringSound_iff, State.slotsSound_iff]
  constructor
  · rintro ⟨streams, ring, fits, idle, slots⟩
    exact ⟨streams, ⟨ring, fits, idle⟩, slots⟩
  · rintro ⟨streams, ⟨ring, fits, idle⟩, slots⟩
    exact ⟨streams, ring, fits, idle, slots⟩

/-! ## Commands that leave bindings and ring -/

/-- Two stream records that bind the same id with the same channels; counters and settings may differ. -/
structure SameBinding (r r' : Stream) : Prop where
  bound : r'.bound = r.bound
  id : r'.id = r.id
  channels : r'.channels = r.channels
  sound : r.Sound → r'.Sound

/-- Two stream tables that bind the same, record by record. -/
def SameBindings (t t' : Table Stream 8) : Prop := ∀ i, SameBinding (t.get i) (t'.get i)

theorem SameBinding.refl (r : Stream) : SameBinding r r := ⟨rfl, rfl, rfl, fun h => h⟩

theorem SameBindings.refl (t : Table Stream 8) : SameBindings t t := fun i => .refl (t.get i)

/-- One record replaced by one that binds the same. -/
theorem SameBindings.modify {t : Table Stream 8} {i : Fin 8} {f : Stream → Stream} (h : SameBinding (t.get i) (f (t.get i))) :
    SameBindings t (t.modify i f) := by
  intro j
  rw [Table.get_modify]
  split
  · rename_i same; rw [same]; exact h
  · exact .refl _

theorem Slot.Fits.rebound {k : Slot} {t t' : Table Stream 8} (h : k.Fits t) (same : SameBindings t t') : k.Fits t' :=
  ⟨h.1, fun bound => by rw [(same _).bound, (same _).channels]; exact h.2 bound⟩

/-- What leaves the ring, the bindings and the block, and each slot within its relations. -/
structure StageKept (s t : State) : Prop where
  bindings : SameBindings s.stage.streams t.stage.streams
  ring : t.ring = s.ring
  slots : ∀ i, (s.slots.get i).Fits s.stage.streams → (t.slots.get i).Fits s.stage.streams
  format : t.clock.format = s.clock.format
  block : t.clock.block = s.clock.block
  mixing : t.clock.mixing = s.clock.mixing

theorem StageKept.of_eqs {s t : State} (clock : t.clock = s.clock) (stage : t.stage = s.stage) (ring : t.ring = s.ring)
    (slots : t.slots = s.slots) : StageKept s t :=
  ⟨by rw [stage]; exact SameBindings.refl _, ring, fun i h => by rw [slots]; exact h, by rw [clock], by rw [clock], by rw [clock]⟩

/-- Slots alone. -/
theorem StageKept.withSlots {s : State} {slots : Table Slot 48}
    (h : ∀ i, (s.slots.get i).Fits s.stage.streams → (slots.get i).Fits s.stage.streams) : StageKept s (s.withSlots slots) :=
  ⟨SameBindings.refl _, rfl, h, rfl, rfl, rfl⟩

/-- A clock that differs in timer, times, counters and pending STOP. -/
theorem StageKept.withClock {s : State} {c : Clock} (format : c.format = s.clock.format) (block : c.lastBlock = s.clock.lastBlock)
    (mixing : c.mixing = s.clock.mixing) : StageKept s (s.withClock c) :=
  ⟨SameBindings.refl _, rfl, fun _ => id, format, congrArg (Option.getD · 0) block, mixing⟩

theorem StageKept.withStage {s : State} {g : Stage} (h : SameBindings s.stage.streams g.streams) : StageKept s (s.withStage g) :=
  ⟨h, rfl, fun _ => id, rfl, rfl, rfl⟩

theorem StageKept.modifyStream {s : State} {i : Fin 8} {f : Stream → Stream}
    (h : SameBinding (s.stage.streams.get i) (f (s.stage.streams.get i))) :
    StageKept s (s.withStage { s.stage with streams := s.stage.streams.modify i f }) := .withStage (.modify h)

theorem StreamsFit.rebound {t t' : Table Stream 8} {format : Option Format} (h : StreamsFit t format) (same : SameBindings t t') :
    StreamsFit t' format := by
  refine ⟨fun i => (same i).sound (h.sound i), fun i j => ?_, fun f hf i => ?_⟩
  · rw [(same i).bound, (same j).bound, (same i).id, (same j).id]; exact h.distinct i j
  · rw [(same i).bound, (same i).id]; exact h.notSync f hf i

theorem Ring.Fits.rebound {r : Ring} {t t' : Table Stream 8} {m : BlockNo} (h : r.Fits t m) (same : SameBindings t t') :
    r.Fits t' m :=
  ⟨fun e mem => by rw [(same _).bound, (same _).channels]; exact h.entries e mem, h.keys⟩

theorem State.StageSound.kept {s t : State} (h : s.StageSound) (k : StageKept s t) : t.StageSound := by
  refine ⟨?_, ?_, ?_, ?_, fun i => ?_⟩
  · rw [k.format]; exact h.streams.rebound k.bindings
  · rw [k.ring]; exact h.ring
  · rw [k.ring, k.block]; exact h.fits.rebound k.bindings
  · rw [k.ring, k.mixing]; exact h.idle
  · exact (k.slots i (h.slots i)).rebound k.bindings

/-! ## Slots at a boundary (R67 to R73) -/

theorem SampleInRange.sample24 (a b c : Byte) : SampleInRange (sample24 a b c) := by
  have low := BitVec.le_toInt (BitVec.ofNat 24 (nat24 a b c))
  have high := BitVec.toInt_lt (x := BitVec.ofNat 24 (nat24 a b c))
  simp only [Nat.reduceSub, Int.reducePow, Int.reduceNeg] at low high
  exact ⟨low, Int.le_sub_one_of_lt high⟩

theorem SampleInRange.invert {x : Int} (h : SampleInRange x) : SampleInRange (invertSample x) := by
  have low : -8388608 ≤ x := h.1
  have high : x ≤ 8388607 := h.2
  unfold invertSample
  split
  · decide
  · rename_i least
    have least : x ≠ -8388608 := least
    have range : -8388608 ≤ -x ∧ -x ≤ 8388607 := by omega
    exact range

theorem silence_inRange : ∀ x ∈ silence.list, SampleInRange x := by
  intro x mem
  rw [List.eq_of_mem_replicate mem]
  decide

theorem Ring.samples_inRange (r : Ring) (e : RingEntry) (c : Nat) : ∀ x ∈ (r.samples e c).list, SampleInRange x := by
  rw [Table.forall_iff]
  intro k
  rw [Ring.samples, Table.get_tabulate]
  exact SampleInRange.sample24 _ _ _

theorem polarised_inRange {b : Block} (h : ∀ x ∈ b.list, SampleInRange x) (invert : Bool) :
    ∀ x ∈ (polarised invert b).list, SampleInRange x := by
  cases invert with
  | false => exact h
  | true =>
    intro x mem
    obtain ⟨y, hy, rfl⟩ := List.mem_map.mp mem
    exact (h y hy).invert

theorem blockPeak_le {b : Block} (h : ∀ x ∈ b.list, SampleInRange x) : blockPeak b ≤ 8388608 := by
  have key : ∀ (l : List Int) (p : Nat), (∀ x ∈ l, SampleInRange x) → p ≤ 8388608 →
      l.foldl (fun p x => max p x.natAbs) p ≤ 8388608 := by
    intro l
    induction l with
    | nil => intro p _ hp; exact hp
    | cons x l ih =>
      intro p range hp
      have low : -8388608 ≤ x := (range x (List.mem_cons_self ..)).1
      have high : x ≤ 8388607 := (range x (List.mem_cons_self ..)).2
      exact ih _ (fun y hy => range y (List.mem_cons_of_mem _ hy)) (max_le hp (by omega))
  exact key b.list 0 h (Nat.zero_le _)

theorem slotTaking_inRange {k : Slot} (h : ∀ x ∈ k.history.list, SampleInRange x) (r : Ring) (n : BlockNo) :
    ∀ x ∈ (slotTaking r n k).1.list, SampleInRange x := by
  unfold slotTaking
  split
  · exact r.samples_inRange _ _
  · split
    · exact h
    · exact silence_inRange

/-- A slot at a boundary keeps its ranges and its stream (R67, R70 to R72). -/
theorem Slot.Fits.assemble {k : Slot} {t : Table Stream 8} (h : k.Fits t) (r : Ring) (n : BlockNo) : (assembleSlot r n k).Fits t := by
  obtain ⟨⟨misses, peak, history, _, unbound⟩, attached⟩ := h
  unfold assembleSlot
  split
  · rename_i bound
    have taken := slotTaking_inRange history r n
    have assembled := polarised_inRange taken k.invert
    refine ⟨⟨?_, ?_, taken, assembled, fun none => ?_⟩, attached⟩
    · dsimp only
      split
      · exact Nat.min_le_right _ _
      · exact misses
    · exact max_le peak (blockPeak_le assembled)
    · exact absurd (bound.symm.trans none) nofun
  · rename_i none
    rw [unbound (by simpa using none)]
    exact Slot.fits_unbound false t

/-- A slot with its peak lowered. -/
theorem Slot.Fits.withPeak {k : Slot} {t : Table Stream 8} (h : k.Fits t) {p : Nat} (low : p = 0 ∨ p = k.peak) :
    ({ k with peak := p } : Slot).Fits t := by
  obtain ⟨⟨misses, peak, history, assembled, unbound⟩, attached⟩ := h
  rcases low with rfl | rfl
  · exact ⟨⟨misses, Nat.zero_le _, history, assembled, fun none => by rw [unbound none]; rfl⟩, attached⟩
  · exact ⟨⟨misses, peak, history, assembled, unbound⟩, attached⟩

/-- A slot on entry into STOPPED (R75). -/
theorem Slot.Fits.stopped {k : Slot} {t : Table Stream 8} (h : k.Fits t) : k.stopped.Fits t := by
  obtain ⟨⟨misses, peak, _, _, unbound⟩, attached⟩ := h
  exact ⟨⟨misses, peak, silence_inRange, silence_inRange, fun none => by rw [unbound none]; rfl⟩, attached⟩

end Sys2Proof.Machine
end

section
/-! BIND_STREAM, UNBIND_STREAM, FLUSH_STREAM and SET_STREAM: their tests in order. -/

namespace Sys2Proof.Machine

/-! ## The record that BIND_STREAM takes (R41) -/

/-- The lowest index whose record satisfies a test. -/
theorem Table.find?_eq_some {α : Type} {n : Nat} {t : Table α n} {p : α → Bool} {i : Fin n} (here : p (t.get i) = true)
    (below : ∀ j, j < i → p (t.get j) = false) : t.find? p = some i := by
  rw [Table.find?, Table.where?, List.head?_filter, List.find?_eq_some_iff_getElem]
  refine ⟨here, i.val, by simp, by simp, fun j hj => ?_⟩
  rw [List.getElem_finRange, below _ hj]
  rfl

theorem Table.find?_eq_none {α : Type} {n : Nat} {t : Table α n} {p : α → Bool} (h : ∀ i, p (t.get i) = false) :
    t.find? p = none := by
  rw [← Option.not_isSome_iff_eq_none, Table.find?_isSome]
  rintro ⟨i, hi⟩
  exact absurd ((h i).symm.trans hi) nofun

theorem ne_any_of_index {index : Byte} {i : Fin 8} (h : index.toNat = i.val) : index ≠ 0xFF := by
  rintro rfl
  exact absurd h (Nat.ne_of_gt (i.isLt.trans (by decide)))

/-- A named record that is BOUND is refused. -/
theorem bindTarget_bound {g : Stage} {index : Byte} {i : Fin 8} (h : index.toNat = i.val)
    (bound : (g.streams.get i).bound = true) : bindTarget g index = .error .wrongState := by
  rw [bindTarget, if_neg (ne_any_of_index h), index?_of_lt h]
  exact if_pos bound

/-- ANY finds no record when all are BOUND. -/
theorem bindTarget_full {g : Stage} (full : ∀ j, (g.streams.get j).bound = true) : bindTarget g 0xFF = .error .tableFull := by
  rw [bindTarget, if_pos rfl, Table.find?_eq_none fun j => by rw [full j]; rfl]

/-- An UNBOUND record, named or the lowest for ANY. -/
theorem bindTarget_free {g : Stage} {index : Byte} {i : Fin 8} (free : (g.streams.get i).bound = false)
    (h : index.toNat = i.val ∨ (index = 0xFF ∧ ∀ j, j < i → (g.streams.get j).bound = true)) : bindTarget g index = .ok i := by
  rcases h with named | ⟨rfl, below⟩
  · rw [bindTarget, if_neg (ne_any_of_index named), index?_of_lt named]
    exact if_neg (by rw [free]; exact nofun)
  · rw [bindTarget, if_pos rfl, Table.find?_eq_some (by rw [free]; rfl) fun j hj => by rw [below j hj]; rfl]

/-! ## BIND_STREAM (R41) -/

/-- The index names a record, or is ANY. -/
def NamesRecord (index : Byte) : Prop := index.toNat < 8 ∨ index = 0xFF

theorem namesRecord_iff {index : Byte} : NamesRecord index ↔ ¬ (index ≠ 0xFF ∧ (index? 8 index).isNone = true) := by
  have none : (index? 8 index).isNone = true ↔ ¬ index.toNat < 8 := by
    rw [index?]; split <;> simp_all
  rw [NamesRecord, none, not_and_or, not_not, not_not, or_comm]

/-- The values that BIND_STREAM takes. -/
def BindValues (id : StreamId) (channels accept : Byte) : Prop :=
  id ≠ noStream ∧ 1 ≤ channels.toNat ∧ channels.toNat ≤ 8 ∧ accept.toNat ≤ 1

/-- No BOUND record and not the sync stream has the id. -/
def State.Unused (s : State) (id : StreamId) : Prop :=
  (∀ j, (s.stage.streams.get j).bound = true → (s.stage.streams.get j).id ≠ id) ∧ s.clock.format.map Format.syncId ≠ some id

theorem State.unused_iff {s : State} {id : StreamId} :
    s.Unused id ↔ ¬ ((s.stage.recordOf id).isSome = true ∨ s.clock.format.map Format.syncId = some id) := by
  rw [State.Unused, not_or, Stage.recordOf_isSome, not_exists]
  simp only [not_and, ne_eq]

section
variable {s : State} {index a b c channels accept : Byte}

theorem bindStream_badIndex (bad : ¬ NamesRecord index) :
    bindStream index a b c channels accept s = (s, .fail .badIndex) := if_pos (not_not.mp (namesRecord_iff.not.mp bad))

variable (named : NamesRecord index)
include named

theorem bindStream_badValue (bad : ¬ BindValues (BitVec.ofNat 24 (nat24 a b c)) channels accept) :
    bindStream index a b c channels accept s = (s, .fail .badValue) := by
  simp only [bindStream]
  rw [if_neg (namesRecord_iff.mp named)]
  by_cases flag : accept.toNat ≤ 1
  · rw [flag?_of_le flag]
    refine if_pos ?_
    by_contra good
    simp only [not_or, Nat.not_lt] at good
    exact bad ⟨good.1, good.2.1, good.2.2, flag⟩
  · rw [flag?_of_ge (by omega)]

variable (values : BindValues (BitVec.ofNat 24 (nat24 a b c)) channels accept)
include values

theorem bindStream_noTarget {e : ErrorCode} (target : bindTarget s.stage index = .error e) :
    bindStream index a b c channels accept s = (s, .fail e) := by
  obtain ⟨id, low, high, flag⟩ := values
  simp only [bindStream]
  rw [if_neg (namesRecord_iff.mp named), flag?_of_le flag, target]
  exact if_neg (by rw [not_or, not_or]; exact ⟨id, Nat.not_lt.mpr low, Nat.not_lt.mpr high⟩)

theorem bindStream_target {i : Fin 8} (target : bindTarget s.stage index = .ok i) :
    bindStream index a b c channels accept s =
      if (s.stage.recordOf (BitVec.ofNat 24 (nat24 a b c))).isSome
          ∨ s.clock.format.map Format.syncId = some (BitVec.ofNat 24 (nat24 a b c)) then (s, .fail .streamInUse)
      else (s.withStage { s.stage with
        streams := s.stage.streams.set i
          { bound := true, id := BitVec.ofNat 24 (nat24 a b c), channels := channels.toNat,
            acceptDamaged := decide (accept = 1), lastBlock := none, counters := StreamCounters.zero } },
        .done (be1 i.val)) := by
  obtain ⟨id, low, high, flag⟩ := values
  simp only [bindStream]
  rw [if_neg (namesRecord_iff.mp named), flag?_of_le flag, target]
  exact if_neg (by rw [not_or, not_or]; exact ⟨id, Nat.not_lt.mpr low, Nat.not_lt.mpr high⟩)

end

/-! ## Requests that name a BOUND record (R42 to R44) -/

theorem withBoundStream_badIndex {index : Byte} (h : 8 ≤ index.toNat) (f : Fin 8 → Owner) (s : State) :
    withBoundStream index f s = (s, .fail .badIndex) := by
  rw [withBoundStream, index?_of_ge h]

theorem withBoundStream_notBound {index : Byte} {i : Fin 8} (h : index.toNat = i.val) {s : State}
    (free : (s.stage.streams.get i).bound = false) (f : Fin 8 → Owner) :
    withBoundStream index f s = (s, .fail .notBound) := by
  rw [withBoundStream, index?_of_lt h]
  exact if_neg (by rw [free]; exact nofun)

theorem withBoundStream_bound {index : Byte} {i : Fin 8} (h : index.toNat = i.val) {s : State}
    (bound : (s.stage.streams.get i).bound = true) (f : Fin 8 → Owner) : withBoundStream index f s = f i s := by
  rw [withBoundStream, index?_of_lt h]
  exact if_pos bound

section
variable {s : State} {index accept : Byte} {i : Fin 8} (h : index.toNat = i.val) (bound : (s.stage.streams.get i).bound = true)
include h bound

theorem setStream_badValue (bad : flag? accept = none) : setStream index accept s = (s, .fail .badValue) := by
  rw [setStream, withBoundStream_bound h bound, bad]

theorem setStream_flag {on : Bool} (flag : flag? accept = some on) :
    setStream index accept s = (s.withStage { s.stage with
      streams := s.stage.streams.set i { s.stage.streams.get i with acceptDamaged := on } }, .done []) := by
  rw [setStream, withBoundStream_bound h bound, flag]
  rfl

end

theorem slotsAttached_iff {s : State} {i : Fin 8} :
    (s.slots.list.any fun k => k.bound && k.stream == i) = true ↔ ∃ k ∈ s.slots.list, k.bound = true ∧ k.stream = i := by
  simp [List.any_eq_true]

theorem flag?_of_bool (on : Bool) : flag? (if on then 1 else 0) = some on := by
  cases on <;> rfl

/-! ## The statement -/

/-- BIND_STREAM by its tests: the index, the values, the record, the id (R41). -/
theorem exec_bindStream (s : State) (tag index a b c channels accept : Byte) (admits : s.Admits tag) :
    let id : StreamId := BitVec.ofNat 24 (nat24 a b c)
    let command : Instr := .bindStream tag [index, a, b, c, channels, accept]
    (¬ NamesRecord index → exec command s = .next (s.replyFail 0x20 tag .badIndex))
      ∧ (NamesRecord index → ¬ BindValues id channels accept → exec command s = .next (s.replyFail 0x20 tag .badValue))
      ∧ (NamesRecord index → BindValues id channels accept → ∀ e, bindTarget s.stage index = .error e →
          exec command s = .next (s.replyFail 0x20 tag e))
      ∧ (NamesRecord index → BindValues id channels accept → ∀ i, bindTarget s.stage index = .ok i →
          (¬ s.Unused id → exec command s = .next (s.replyFail 0x20 tag .streamInUse))
            ∧ (s.Unused id → exec command s = .next ((s.withStage { s.stage with
                streams := s.stage.streams.set i
                  { bound := true, id := id, channels := channels.toNat, acceptDamaged := decide (accept = 1),
                    lastBlock := none, counters := StreamCounters.zero } }).reply .done 0x20 tag (be1 i.val)))) := by
  intro id command
  have answered : ∀ {t r}, bindStream index a b c channels accept s = (t, r) → exec command s = .next (t.answer 0x20 tag r) :=
    exec_answer rfl rfl rfl admits
  refine ⟨fun bad => ?_, fun named bad => ?_, fun named values e target => ?_, fun named values i target =>
    ⟨fun used => ?_, fun unused => ?_⟩⟩
  · exact answered (bindStream_badIndex bad)
  · exact answered (bindStream_badValue named bad)
  · exact answered (bindStream_noTarget named values target)
  · exact answered ((bindStream_target named values target).trans (if_pos (not_not.mp (State.unused_iff.not.mp used))))
  · exact answered ((bindStream_target named values target).trans (if_neg (State.unused_iff.mp unused)))

/-- Settles O24: the tests of BIND_STREAM as `exec_bindStream` gives them, and those of a request that names a BOUND record. -/
theorem streamTableRequests : Obligations.StreamTableRequests := by
  unfold Obligations.StreamTableRequests
  constructor
  · intro s tag index a b c channels accept admits id command values unused bound
    obtain ⟨badIndex, badValue, noTarget, target⟩ := exec_bindStream s tag index a b c channels accept admits
    refine ⟨fun high other => ?_, fun named bad => ?_, fun i named fit taken => ?_, fun any fit full => ?_,
      fun i free chosen fit => ?_⟩
    · exact badIndex (not_or.mpr ⟨Nat.not_lt.mpr high, other⟩)
    · exact badValue named bad
    · exact noTarget (.inl (named.trans_lt i.isLt)) fit _ (bindTarget_bound named taken)
    · exact noTarget (.inr any) fit _ (any ▸ bindTarget_full full)
    · exact target (chosen.imp (fun named => named.trans_lt i.isLt) And.left) fit i (bindTarget_free free chosen)
  · intro s tag index admits
    have unbinds : ∀ {t r}, unbindStream index s = (t, r) → exec (.unbindStream tag [index]) s = .next (t.answer 0x21 tag r) :=
      exec_answer rfl rfl rfl admits
    have flushes : ∀ {t r}, flushStream index s = (t, r) → exec (.flushStream tag [index]) s = .next (t.answer 0x22 tag r) :=
      exec_answer rfl rfl rfl admits
    have sets : ∀ {v t r}, setStream index v s = (t, r) → exec (.setStream tag [index, v]) s = .next (t.answer 0x23 tag r) :=
      exec_answer rfl rfl rfl admits
    refine ⟨fun high => ⟨?_, ?_, fun v => ?_⟩, fun i named => ⟨fun free => ⟨?_, ?_, fun v => ?_⟩, fun bound attached => ?_,
      fun bound none => ?_, fun bound => ?_, fun bound v high => ?_, fun bound on => ?_⟩⟩
    · exact unbinds (withBoundStream_badIndex high _ s)
    · exact flushes (withBoundStream_badIndex high _ s)
    · exact sets (withBoundStream_badIndex high _ s)
    · exact unbinds (withBoundStream_notBound named free _)
    · exact flushes (withBoundStream_notBound named free _)
    · exact sets (withBoundStream_notBound named free _)
    · exact unbinds ((withBoundStream_bound named bound _).trans (if_pos (slotsAttached_iff.mpr attached)))
    · have detached : ¬ (s.slots.list.any fun k => k.bound && k.stream == i) = true := by
        rw [slotsAttached_iff]; rintro ⟨k, mem, held, same⟩; exact none k mem held same
      exact unbinds ((withBoundStream_bound named bound _).trans (if_neg detached))
    · exact flushes (withBoundStream_bound named bound _)
    · exact sets (setStream_badValue named bound (flag?_of_ge high))
    · exact sets (setStream_flag named bound (flag?_of_bool on))

end Sys2Proof.Machine
end

section
/-! The owners of the requests: which leave stream bindings, ring and slots alone, and what the others do to them. -/

namespace Sys2Proof.Machine

/-! ## Owners that leave clock, stream table, ring and slots alone -/

/-- An owner that keeps the relations of stream table, ring and slots. -/
def Owner.KeepsStage (take : Owner) : Prop := ∀ s : State, s.StageSound → (take s).1.StageSound

/-- What an owner answers that touches neither the clock nor the stream table, the ring and the slots. -/
structure StageApart (s : State) (p : State × Answer) : Prop where
  clock : p.1.clock = s.clock
  stage : p.1.stage = s.stage
  ring : p.1.ring = s.ring
  slots : p.1.slots = s.slots

theorem keepsStage_of_apart {take : Owner} (h : ∀ s, StageApart s (take s)) : take.KeepsStage :=
  fun s sound => sound.kept (StageKept.of_eqs (h s).clock (h s).stage (h s).ring (h s).slots)

theorem StageApart.of_state {s t : State} {a : Answer} (clock : t.clock = s.clock) (stage : t.stage = s.stage)
    (ring : t.ring = s.ring) (slots : t.slots = s.slots) : StageApart s (t, a) := ⟨clock, stage, ring, slots⟩

/-- A refusal, and any answer that leaves the state. -/
theorem StageApart.same (s : State) (a : Answer) : StageApart s (s, a) := ⟨rfl, rfl, rfl, rfl⟩

theorem StageApart.withCues (s : State) (c : Cues) (a : Answer) : StageApart s (s.withCues c, a) := ⟨rfl, rfl, rfl, rfl⟩

theorem apart_queryStream (index : Byte) (s : State) : StageApart s (queryStream index s) := by
  unfold queryStream
  split <;> exact .same _ _

theorem apart_querySlot (slot : Byte) (s : State) : StageApart s (querySlot slot s) := by
  unfold querySlot
  split <;> exact .same _ _

theorem apart_noticeSet (cls setting : Byte) (s : State) : StageApart s (noticeSet cls setting s) := by
  unfold noticeSet
  split
  · exact .same _ _
  · exact .of_state rfl rfl rfl rfl

theorem apart_mixSetLive (mix state kind master ceiling rel1 rel2 click : Byte) (s : State) :
    StageApart s (mixSetLive mix state kind master ceiling rel1 rel2 click s) := by
  unfold mixSetLive
  dsimp only
  repeat' split
  all_goals exact .of_state rfl rfl rfl rfl

theorem apart_addSendLive (mix slot level balance self mute : Byte) (s : State) :
    StageApart s (addSendLive mix slot level balance self mute s) := by
  unfold addSendLive
  dsimp only
  repeat' split
  all_goals exact .of_state rfl rfl rfl rfl

theorem apart_setSendLive (mix slot flags level balance self mute : Byte) (s : State) :
    StageApart s (setSendLive mix slot flags level balance self mute s) := by
  unfold setSendLive
  dsimp only
  repeat' split
  all_goals exact .of_state rfl rfl rfl rfl

theorem apart_removeSendLive (mix slot : Byte) (s : State) : StageApart s (removeSendLive mix slot s) := by
  unfold removeSendLive
  dsimp only
  repeat' split
  all_goals exact .of_state rfl rfl rfl rfl

theorem apart_setTrim (mix volume self others dim : Byte) (s : State) : StageApart s (setTrim mix volume self others dim s) := by
  unfold setTrim
  repeat' split
  all_goals exact .of_state rfl rfl rfl rfl

theorem apart_queryMix (mix start : Byte) (s : State) : StageApart s (queryMix mix start s) := by
  unfold queryMix
  split <;> exact .same _ _

theorem apart_assignPack (address mix role : Byte) (s : State) : StageApart s (assignPack address mix role s) := by
  unfold assignPack
  dsimp only
  repeat' split
  all_goals exact .of_state rfl rfl rfl rfl

theorem apart_removePack (address : Byte) (s : State) : StageApart s (removePack address s) := by
  unfold removePack
  dsimp only
  repeat' split
  all_goals exact .of_state rfl rfl rfl rfl

theorem apart_packText (address : Byte) (chars : List Byte) (s : State) : StageApart s (packText address chars s) := by
  unfold packText
  dsimp only
  repeat' split
  all_goals exact .of_state rfl rfl rfl rfl

theorem apart_queryPack (address : Byte) (s : State) : StageApart s (queryPack address s) := by
  unfold queryPack
  repeat' split
  all_goals exact .same _ _

theorem apart_clickRequest (f : Click → Click) (s : State) : StageApart s (clickRequest f s) := .of_state rfl rfl rfl rfl

/-! ## Owners of the Cue Controller -/

theorem apart_withOpenCue {b : Fin 4} {f : CueWork → Owner} {s : State} (h : ∀ w, StageApart s (f w s)) :
    StageApart s (withOpenCue b f s) := by
  unfold withOpenCue
  split
  · exact .same _ _
  · split
    · exact .same _ _
    · exact h _

theorem apart_withBank {bank : Byte} {f : Fin 4 → Owner} {s : State} (h : ∀ b, StageApart s (f b s)) :
    StageApart s (withBank bank f s) := by
  unfold withBank
  split
  · exact .same _ _
  · exact h _

theorem apart_editTarget {target bank : Byte} {live : Owner} {cue : Fin 4 → Owner} (hl : ∀ s, StageApart s (live s))
    (hc : ∀ b s, StageApart s (cue b s)) (s : State) : StageApart s (editTarget target bank live cue s) := by
  unfold editTarget
  split
  · exact hl s
  · split
    · cases index? 4 bank with
      | none => exact .same _ _
      | some b => exact hc b s
    · exact .same _ _

theorem apart_mixSetCue (b : Fin 4) (mix state kind master ceiling rel1 rel2 : Byte) (s : State) :
    StageApart s (mixSetCue b mix state kind master ceiling rel1 rel2 s) := by
  unfold mixSetCue
  split
  · exact .same _ _
  · split
    · exact apart_withOpenCue fun _ => .withCues _ _ _
    · exact .same _ _

theorem apart_addSendCue (b : Fin 4) (mix slot level balance self mute : Byte) (s : State) :
    StageApart s (addSendCue b mix slot level balance self mute s) := by
  unfold addSendCue
  split
  · split
    · refine apart_withOpenCue fun w => ?_
      dsimp only
      repeat' split
      all_goals exact .of_state rfl rfl rfl rfl
    · exact .same _ _
  · exact .same _ _

theorem apart_setSendCue (b : Fin 4) (mix slot flags level balance self mute : Byte) (s : State) :
    StageApart s (setSendCue b mix slot flags level balance self mute s) := by
  unfold setSendCue
  split
  · split
    · exact .same _ _
    · refine apart_withOpenCue fun w => ?_
      dsimp only
      split <;> exact .of_state rfl rfl rfl rfl
  · exact .same _ _

theorem apart_removeSendCue (b : Fin 4) (mix slot : Byte) (s : State) : StageApart s (removeSendCue b mix slot s) := by
  unfold removeSendCue
  split
  · refine apart_withOpenCue fun w => ?_
    dsimp only
    split <;> exact .of_state rfl rfl rfl rfl
  · exact .same _ _

theorem apart_takeLive (bank m1 m2 : Byte) (s : State) : StageApart s (takeLive bank m1 m2 s) :=
  apart_withBank fun _ => apart_withOpenCue fun _ => .withCues _ _ _

theorem apart_openCue (bank row : Byte) (s : State) : StageApart s (openCue bank row s) := by
  unfold openCue
  repeat' split
  all_goals exact .of_state rfl rfl rfl rfl

theorem apart_storeCue (bank : Byte) (s : State) : StageApart s (storeCue bank s) :=
  apart_withBank fun _ => apart_withOpenCue fun _ => .withCues _ _ _

theorem apart_closeCue (bank writeback : Byte) (s : State) : StageApart s (closeCue bank writeback s) := by
  refine apart_withBank fun b => ?_
  dsimp only
  split
  · exact .same _ _
  · refine apart_withOpenCue fun w => ?_
    split <;> exact .withCues _ _ _

theorem apart_applyCueRequest (bank mode m1 m2 : Byte) (s : State) : StageApart s (applyCueRequest bank mode m1 m2 s) := by
  refine apart_withBank fun b => ?_
  dsimp only
  split
  · exact .same _ _
  · refine apart_withOpenCue fun w => ?_
    split
    · exact .same _ _
    · have frame := State.applyCue_frame s b w .cut (mixMask m1 m2) .immediate
      exact .of_state frame.clock frame.stage frame.ring frame.slots

theorem apart_queryCue (bank mix start : Byte) (s : State) : StageApart s (queryCue bank mix start s) := by
  unfold queryCue
  split <;> exact .same _ _

theorem apart_queryScene (scene mix start : Byte) (s : State) : StageApart s (queryScene scene mix start s) := by
  unfold queryScene
  split <;> exact .same _ _

end Sys2Proof.Machine
end

section
/-! The owners that act on stream table, ring or slots, or on the clock: the stream and slot requests, RESET, FORMAT, START, STOP,
METER_SET and QUERY_COUNTERS; and the requests of every row. -/

namespace Sys2Proof.Machine

/-! ## Engine -/

theorem Ring.emptied_sound {r : Ring} (wf : storageWf r.pages = true) : r.emptied.Sound :=
  ⟨wf, Nat.zero_le _, Nat.zero_le _, Nat.zero_lt_succ _, nofun, rfl, nofun⟩

/-- Entry into STOPPED: the ring is emptied, and every slot is silent (R25, R61, R75). -/
theorem State.enterStopped_stage {s : State} (streams : StreamsFit s.stage.streams s.clock.format)
    (wf : storageWf s.ring.pages = true) (slots : ∀ i, (s.slots.get i).Fits s.stage.streams) : s.enterStopped.StageSound := by
  refine ⟨streams, Ring.emptied_sound wf, Ring.fits_of_empty rfl _ _, fun _ => ⟨rfl, rfl, rfl⟩, fun i => ?_⟩
  show ((s.slots.map Slot.stopped).get i).Fits s.stage.streams
  rw [Table.get_map]
  exact (slots i).stopped

theorem State.StageSound.enterStopped {s : State} (h : s.StageSound) : s.enterStopped.StageSound :=
  State.enterStopped_stage h.streams h.ring.1 h.slots

theorem streamSound_unbound : Stream.unbound.Sound := rfl

theorem keepsStage_resetPart : Owner.KeepsStage resetPart := by
  intro s h
  have none : ∀ i, ((Table.fill Stream.unbound : Table Stream 8).get i) = Stream.unbound := Table.get_fill _
  refine ⟨⟨fun i => ?_, fun i j bound => ?_, fun f _ i bound => ?_⟩, Ring.emptied_sound h.ring.1, Ring.fits_of_empty rfl _ _,
    fun _ => ⟨rfl, rfl, rfl⟩, fun i => ?_⟩
  · show ((Table.fill Stream.unbound : Table Stream 8).get i).Sound
    rw [none]; exact streamSound_unbound
  · exact absurd ((congrArg Stream.bound (none i)).symm.trans bound) nofun
  · exact absurd ((congrArg Stream.bound (none i)).symm.trans bound) nofun
  · show ((Table.fill Slot.unbound : Table Slot 48).get i).Fits _
    rw [Table.get_fill]; exact Slot.fits_unbound false _

theorem keepsStage_setFormat (r1 r2 r3 r4 lag i1 i2 i3 : Byte) : Owner.KeepsStage (setFormat r1 r2 r3 r4 lag i1 i2 i3) := by
  intro s h
  by_cases fit : FormatFits s (nat32 r1 r2 r3 r4) lag (BitVec.ofNat 24 (nat24 i1 i2 i3))
  · rw [setFormat_fit fit]
    split
    · exact h
    · split
      · exact h
      · obtain ⟨_, _, _, _, fresh⟩ := fit
        refine State.enterStopped_stage ⟨h.streams.sound, h.streams.distinct, ?_⟩ h.ring.1 h.slots
        simpa using fresh
  · rw [setFormat_unfit fit]; exact h

theorem keepsStage_startEngine : Owner.KeepsStage startEngine := by
  intro s h
  unfold startEngine
  split
  case h_2 engine =>
    have rest : s.clock.mixing = false := Clock.mixing_eq_false (by simp [engine]) (by simp [engine])
    exact h.kept (StageKept.withClock rfl rfl rest.symm)
  all_goals exact h

theorem keepsStage_stopEngine : Owner.KeepsStage stopEngine := by
  intro s h
  unfold stopEngine
  split
  case h_3 => exact h.enterStopped
  all_goals exact h

/-! ## Streams (R41 to R44) -/

theorem Stream.Sound.of_bound {r : Stream} (h : r.Sound) (bound : r.bound = true) :
    r.id ≠ noStream ∧ 1 ≤ r.channels ∧ r.channels ≤ 8 := by
  rw [Stream.Sound, if_pos bound] at h
  exact h

theorem Stream.Sound.bound_intro {r : Stream} (bound : r.bound = true) (id : r.id ≠ noStream) (low : 1 ≤ r.channels)
    (high : r.channels ≤ 8) : r.Sound := by
  rw [Stream.Sound, if_pos bound]
  exact ⟨id, low, high⟩

/-- A record replaced: its id is no other record's, nor the sync id. -/
theorem StreamsFit.set {t : Table Stream 8} {format : Option Format} (h : StreamsFit t format) {i : Fin 8} {v : Stream}
    (sound : v.Sound) (fresh : v.bound = true → ∀ j, j ≠ i → (t.get j).bound = true → (t.get j).id ≠ v.id)
    (notSync : v.bound = true → ∀ f ∈ format.toList, v.id ≠ f.syncId) : StreamsFit (t.set i v) format := by
  refine ⟨fun j => ?_, fun j k => ?_, fun f hf j => ?_⟩
  · rw [Table.get_set]; split
    · exact sound
    · exact h.sound j
  · rw [Table.get_set, Table.get_set]
    split
    · split
      · rename_i hj hk; intro _ _ _; rw [hj, hk]
      · rename_i hk; intro bj bk same; exact absurd same.symm (fresh bj k hk bk)
    · split
      · rename_i hj _; intro bj bk same; exact absurd same (fresh bk j hj bj)
      · exact h.distinct j k
  · rw [Table.get_set]; split
    · exact fun bound => notSync bound f hf
    · exact h.notSync f hf j

/-- A record to which nothing is attached may be replaced. -/
theorem State.StageSound.setStream {s : State} (h : s.StageSound) {i : Fin 8} {v : Stream} {r : Ring} (ring : r.Sound)
    (streams : StreamsFit (s.stage.streams.set i v) s.clock.format)
    (waiting : ∀ e ∈ r.waiting, e.stream ≠ i) (fits : r.Fits s.stage.streams s.clock.block)
    (idle : s.clock.mixing = false → r.Idle) (slots : ∀ j, (s.slots.get j).bound = true → (s.slots.get j).stream ≠ i) :
    ((s.withRing r).withStage { s.stage with streams := s.stage.streams.set i v }).StageSound := by
  refine ⟨streams, ring, ⟨fun e mem => ?_, fits.keys⟩, idle, fun j => ⟨(h.slots j).1, fun bound => ?_⟩⟩
  · show ((s.stage.streams.set i v).get e.stream).bound = true ∧ ((s.stage.streams.set i v).get e.stream).channels = _ ∧ _
    rw [Table.get_set_ne _ _ (waiting e mem)]
    exact fits.entries e mem
  · show ((s.stage.streams.set i v).get (s.slots.get j).stream).bound = true
      ∧ (s.slots.get j).channel < ((s.stage.streams.set i v).get (s.slots.get j).stream).channels
    rw [Table.get_set_ne _ _ (slots j bound)]
    exact (h.slots j).2 bound

/-- The record that BIND_STREAM takes is UNBOUND. -/
theorem bindTarget_unbound {g : Stage} {index : Byte} {i : Fin 8} (h : bindTarget g index = .ok i) :
    (g.streams.get i).bound = false := by
  unfold bindTarget at h
  split at h
  · split at h
    · cases h
    · rename_i found
      cases h
      have first := List.mem_of_mem_head? found
      simpa [Table.where?] using first
  · split at h
    · cases h
    · split at h
      · cases h
      · rename_i free
        cases h
        simpa using free

theorem keepsStage_bindStream (index a b c channels accept : Byte) : Owner.KeepsStage (bindStream index a b c channels accept) := by
  intro s h
  by_cases named : NamesRecord index
  swap
  · rw [bindStream_badIndex named]; exact h
  by_cases values : BindValues (BitVec.ofNat 24 (nat24 a b c)) channels accept
  swap
  · rw [bindStream_badValue named values]; exact h
  cases target : bindTarget s.stage index with
  | error e => rw [bindStream_noTarget named values target]; exact h
  | ok i =>
    have free := bindTarget_unbound target
    rw [bindStream_target named values target]
    split
    · exact h
    · rename_i unused
      obtain ⟨fresh, sync⟩ := State.unused_iff.mpr unused
      obtain ⟨id, low, high, _⟩ := values
      refine h.setStream h.ring (h.streams.set (Stream.Sound.bound_intro rfl id low high) (fun _ j _ bound => fresh j bound)
        (fun _ f hf same => ?_)) (fun e mem same => ?_) h.fits h.idle (fun j bound same => ?_)
      · exact sync (by rw [Option.mem_toList.mp hf]; exact congrArg some same.symm)
      · rw [← same] at free; exact absurd (free.symm.trans (h.fits.entries e mem).1) nofun
      · rw [← same] at free; exact absurd (free.symm.trans ((h.slots j).2 bound).1) nofun

theorem keepsStage_withBoundStream {index : Byte} {f : Fin 8 → Owner}
    (h : ∀ i (s : State), s.StageSound → (s.stage.streams.get i).bound = true → (f i s).1.StageSound) :
    Owner.KeepsStage (withBoundStream index f) := by
  intro s sound
  unfold withBoundStream
  split
  · exact sound
  · split
    · rename_i bound; exact h _ s sound bound
    · exact sound

/-- The entries that a stream had WAITING are CONSUMED. -/
theorem Ring.consume_stream_waiting {r : Ring} {i : Fin 8} {e : RingEntry} (h : e ∈ (r.consume fun e => e.stream == i).waiting) :
    e ∈ r.waiting ∧ e.stream ≠ i := by
  rw [Ring.consume_waiting, List.mem_filter] at h
  exact ⟨h.1, by simpa using h.2⟩

theorem Ring.consume_idle {r : Ring} (h : r.Idle) (p : RingEntry → Bool) : (r.consume p).Idle := by
  obtain ⟨empty, rejects, condition⟩ := h
  exact ⟨by rw [Ring.consume_entries, empty]; rfl, rejects, condition⟩

theorem keepsStage_unbindStream (index : Byte) : Owner.KeepsStage (unbindStream index) := by
  refine keepsStage_withBoundStream fun i s h _ => ?_
  split
  · exact h
  · rename_i attached
    refine h.setStream (h.ring.consume _) (h.streams.set streamSound_unbound nofun nofun)
      (fun e mem => (Ring.consume_stream_waiting mem).2) (h.fits.consume fun e mem _ => h.fits.entries e mem)
      (fun rest => Ring.consume_idle (h.idle rest) _) (fun j bound same => attached ?_)
    exact (Table.any_iff _ _).mpr ⟨j, by simp [bound, same]⟩

theorem keepsStage_flushStream (index : Byte) : Owner.KeepsStage (flushStream index) :=
  keepsStage_withBoundStream fun _ _ h _ =>
    ⟨h.streams, h.ring.consume _, h.fits.consume fun e mem _ => h.fits.entries e mem,
      fun rest => Ring.consume_idle (h.idle rest) _, h.slots⟩

theorem keepsStage_setStream (index accept : Byte) : Owner.KeepsStage (setStream index accept) := by
  refine keepsStage_withBoundStream fun i s h bound => ?_
  dsimp only
  split
  · exact h
  · refine h.kept (StageKept.modifyStream ⟨rfl, rfl, rfl, fun sound => ?_⟩)
    obtain ⟨id, low, high⟩ := sound.of_bound bound
    exact Stream.Sound.bound_intro bound id low high

/-! ## Slots (R63 to R65, R198, R208) -/

theorem keepsStage_bindSlot (slot stream channel polarity hold : Byte) :
    Owner.KeepsStage (bindSlot slot stream channel polarity hold) := by
  intro s h
  unfold bindSlot
  split
  case h_2 => exact h
  split
  case h_2 => exact h
  split
  · exact h
  split
  · exact h
  split
  · exact h
  · rename_i bound within
    refine h.kept (StageKept.withSlots fun j fits => ?_)
    rw [Table.get_modify]
    split
    · obtain ⟨⟨misses, peak, history, assembled, _⟩, _⟩ := Slot.fits_unbound false s.stage.streams
      exact ⟨⟨misses, peak, history, assembled, nofun⟩, fun _ => ⟨by simpa using bound, by simpa using within⟩⟩
    · exact fits

theorem keepsStage_setSlot (slot polarity hold : Byte) : Owner.KeepsStage (setSlot slot polarity hold) := by
  intro s h
  unfold setSlot
  split
  · exact h
  split
  case h_2 => exact h
  split
  case isFalse => exact h
  · rename_i bound
    refine h.kept (StageKept.withSlots fun j fits => ?_)
    rw [Table.get_modify]
    split
    · rename_i same
      subst same
      obtain ⟨⟨misses, peak, history, assembled, _⟩, attached⟩ := fits
      exact ⟨⟨misses, peak, history, assembled, fun none => absurd (bound.symm.trans none) nofun⟩, attached⟩
    · exact fits

theorem keepsStage_unbindSlot (slot : Byte) : Owner.KeepsStage (unbindSlot slot) := by
  intro s h
  unfold unbindSlot
  split
  · exact h
  split
  case isFalse => exact h
  · refine h.kept (StageKept.withSlots fun j fits => ?_)
    rw [Table.get_modify]
    split
    · exact Slot.fits_unbound _ _
    · exact fits

theorem clearPeaks_fits {slots : Table Slot 48} {t : Table Stream 8} {i : Fin 48} (h : (slots.get i).Fits t) :
    ((clearPeaks slots).get i).Fits t := by
  rw [clearPeaks, Table.get_map]
  exact h.withPeak (.inl rfl)

theorem keepsStage_meterSet (meters a b : Byte) : Owner.KeepsStage (meterSet meters a b) := by
  intro s h
  unfold meterSet
  dsimp only
  repeat' split
  · exact h
  · exact h.kept (StageKept.of_eqs rfl rfl rfl rfl)
  · exact h.kept ⟨SameBindings.refl _, rfl, fun i => clearPeaks_fits, rfl, rfl, rfl⟩

/-- The counters of a record are not what it binds. -/
theorem Stream.Sound.recount {r : Stream} (h : r.Sound) (c : StreamCounters) : ({ r with counters := c } : Stream).Sound := by
  by_cases bound : r.bound = true
  · obtain ⟨id, low, high⟩ := h.of_bound bound
    exact Stream.Sound.bound_intro (r := { r with counters := c }) bound id low high
  · rw [Stream.Sound, if_neg bound] at h ⊢
    exact congrArg (fun x : Stream => { x with counters := c }) h

theorem clearGroup_kept (s : State) (g : Group) : StageKept s (clearGroup s g) := by
  cases g with
  | link | queue | line | pack => exact .of_eqs rfl rfl rfl rfl
  | clock => exact .withClock rfl rfl rfl
  | stage => exact .withStage (SameBindings.refl _)
  | stream i => exact .modifyStream ⟨rfl, rfl, rfl, fun sound => sound.recount _⟩
  | slotMiss =>
    refine .withSlots fun i fits => ?_
    obtain ⟨⟨_, peak, history, assembled, unbound⟩, attached⟩ := fits
    rw [Table.get_map]
    exact ⟨⟨Nat.zero_le _, peak, history, assembled, fun none => by rw [unbound none]; rfl⟩, attached⟩

theorem keepsStage_queryCounters (group index clear : Byte) : Owner.KeepsStage (queryCounters group index clear) := by
  intro s h
  unfold queryCounters
  repeat' split
  case h_4.isTrue => exact h.kept (clearGroup_kept s _)
  all_goals exact h

/-! ## Every request row -/

theorem keepsStage_zeroField {o : Owner} {f : List Byte} {take : Owner} (keeps : o.KeepsStage) (h : zeroField o f = some take) :
    take.KeepsStage := by
  rw [zeroField_eq] at h
  refine withFields_all 1 (fun z => ?_) h
  show Owner.KeepsStage (if z = 0 then o else refuse .badValue)
  split
  · exact keeps
  · exact fun _ sound => sound

theorem keepsStage_packText {f : List Byte} {take : Owner} (h : packTextOwner f = some take) : take.KeepsStage := by
  rcases f with _ | ⟨address, _ | ⟨c, rest⟩⟩
  · cases h
  · cases h
  · simp only [packTextOwner, Option.ite_none_right_eq_some, Option.some.injEq] at h
    obtain ⟨_, rfl⟩ := h
    exact keepsStage_of_apart (apart_packText _ _)

/-- The owner of every request row keeps the relations. -/
theorem requestOwner_keepsStage {i : Instr} {take : Owner} (h : requestOwner i = some take) : take.KeepsStage := by
  cases i with
  | ident | status => exact keepsStage_zeroField (fun _ sound => sound) h
  | reset => exact keepsStage_zeroField keepsStage_resetPart h
  | noticeSet => exact withFields_all 2 (fun a b => keepsStage_of_apart (apart_noticeSet a b)) h
  | format => exact withFields_all 8 (fun a b c d e f g h => keepsStage_setFormat a b c d e f g h) h
  | start => exact keepsStage_zeroField keepsStage_startEngine h
  | stop => exact keepsStage_zeroField keepsStage_stopEngine h
  | bindStream => exact withFields_all 6 (fun a b c d e f => keepsStage_bindStream a b c d e f) h
  | unbindStream => exact withFields_all 1 (fun a => keepsStage_unbindStream a) h
  | flushStream => exact withFields_all 1 (fun a => keepsStage_flushStream a) h
  | setStream => exact withFields_all 2 (fun a b => keepsStage_setStream a b) h
  | queryStream => exact withFields_all 1 (fun a => keepsStage_of_apart (apart_queryStream a)) h
  | bindSlot => exact withFields_all 5 (fun a b c d e => keepsStage_bindSlot a b c d e) h
  | setSlot => exact withFields_all 3 (fun a b c => keepsStage_setSlot a b c) h
  | unbindSlot => exact withFields_all 1 (fun a => keepsStage_unbindSlot a) h
  | querySlot => exact withFields_all 1 (fun a => keepsStage_of_apart (apart_querySlot a)) h
  | mixSetLive | mixSetCue =>
    exact withFields_all 10 (fun _ _ c d e f g h i j => keepsStage_of_apart
      (apart_editTarget (apart_mixSetLive c d e f g h i j) fun k => apart_mixSetCue k c d e f g h i)) h
  | addSendLive | addSendCue =>
    exact withFields_all 8 (fun _ _ c d e f g h => keepsStage_of_apart
      (apart_editTarget (apart_addSendLive c d e f g h) fun k => apart_addSendCue k c d e f g h)) h
  | setSendLive | setSendCue =>
    exact withFields_all 9 (fun _ _ c d e f g h i => keepsStage_of_apart
      (apart_editTarget (apart_setSendLive c d e f g h i) fun k => apart_setSendCue k c d e f g h i)) h
  | removeSendLive | removeSendCue =>
    exact withFields_all 4 (fun _ _ c d => keepsStage_of_apart
      (apart_editTarget (apart_removeSendLive c d) fun k => apart_removeSendCue k c d)) h
  | setTrim => exact withFields_all 5 (fun a b c d e => keepsStage_of_apart (apart_setTrim a b c d e)) h
  | queryMix => exact withFields_all 2 (fun a b => keepsStage_of_apart (apart_queryMix a b)) h
  | openCue => exact withFields_all 2 (fun a b => keepsStage_of_apart (apart_openCue a b)) h
  | takeLive => exact withFields_all 3 (fun a b c => keepsStage_of_apart (apart_takeLive a b c)) h
  | storeCue => exact withFields_all 1 (fun a => keepsStage_of_apart (apart_storeCue a)) h
  | closeCue => exact withFields_all 2 (fun a b => keepsStage_of_apart (apart_closeCue a b)) h
  | applyCue => exact withFields_all 4 (fun a b c d => keepsStage_of_apart (apart_applyCueRequest a b c d)) h
  | queryCue => exact withFields_all 3 (fun a b c => keepsStage_of_apart (apart_queryCue a b c)) h
  | queryScene => exact withFields_all 3 (fun a b c => keepsStage_of_apart (apart_queryScene a b c)) h
  | assignPack => exact withFields_all 3 (fun a b c => keepsStage_of_apart (apart_assignPack a b c)) h
  | removePack => exact withFields_all 1 (fun a => keepsStage_of_apart (apart_removePack a)) h
  | packText => exact keepsStage_packText h
  | queryPack => exact withFields_all 1 (fun a => keepsStage_of_apart (apart_queryPack a)) h
  | clickSet => exact withFields_all 6 (fun _ _ _ _ _ _ => keepsStage_of_apart (apart_clickRequest _)) h
  | clickStart | clickStop => exact keepsStage_zeroField (keepsStage_of_apart (apart_clickRequest _)) h
  | meterSet => exact withFields_all 3 (fun a b c => keepsStage_meterSet a b c) h
  | queryCounters => exact withFields_all 3 (fun a b c => keepsStage_queryCounters a b c) h
  | powerOn | linkByteReceived | interByteGapExpiry | unknownKindRequest | transmitEnd | syncFrame | audioFrame
  | malformedStageFrame | syncWatchExpiry | holdoverTimerExpiry | announceWindowClose | grantedWindowClose
  | upstreamSignalAfterIdle => cases h

end Sys2Proof.Machine
end

section
/-! Stage frames: the tests of the stage port and of an audio frame in their order, and what each outcome does. -/

namespace Sys2Proof.Machine

/-! ## The stage port (R38, R39) -/

theorem State.stageFrame_malformed (s : State) (t : Time) {f : List Byte}
    (bad : f.length < 8 ∨ (byteAt f 0 ≠ 1 ∧ byteAt f 0 ≠ 2)) :
    s.stageFrame t f = s.withStage { s.stage with malformed := count32 s.stage.malformed } := by
  unfold State.stageFrame
  by_cases short : f.length < 8
  · rw [if_pos short]
  · obtain ⟨audio, sync⟩ := bad.resolve_left short
    rw [if_neg short, if_neg audio, if_neg sync]

theorem State.stageFrame_syncRejected (s : State) (t : Time) {f : List Byte} (long : 8 ≤ f.length) (type : byteAt f 0 = 2)
    (bad : f.length ≠ 8 ∨ checkHolds f = false) :
    s.stageFrame t f = s.withStage { s.stage with syncRejected := count32 s.stage.syncRejected } := by
  have rejected : ¬ (f.length = 8 ∧ checkHolds f = true) := by
    rintro ⟨eight, check⟩
    rcases bad with bad | bad
    · exact bad eight
    · exact absurd (bad.symm.trans check) nofun
  rw [State.stageFrame, if_neg (Nat.not_lt.mpr long), if_neg (by rw [type]; decide), if_pos type, if_neg rejected]

theorem State.stageFrame_audio (s : State) (t : Time) {f : List Byte} (long : 8 ≤ f.length) (type : byteAt f 0 = 1) :
    s.stageFrame t f = s.takeAudio f := by
  rw [State.stageFrame, if_neg (Nat.not_lt.mpr long), if_pos type]

/-! ## The tests of an audio frame (R46 to R49) -/

theorem formatFits_iff {c : Clock} {r : Stream} {f : List Byte} :
    formatFits c r f = true ↔ frameRate f ≠ none ∧ frameRate f = c.format.map Format.rate ∧ frameChannels f = r.channels
      ∧ f.length = 8 + 48 * r.channels + 2 := by
  simp only [formatFits, keptBytes, Bool.and_eq_true, bne_iff_ne, beq_iff_eq, and_assoc, ne_eq]

theorem Stage.recordOf_eq_none {g : Stage} {id : StreamId} (h : ∀ i, (g.streams.get i).bound = true → (g.streams.get i).id ≠ id) :
    g.recordOf id = none := by
  rw [← Option.not_isSome_iff_eq_none, Stage.recordOf_isSome]
  rintro ⟨i, bound, same⟩
  exact h i bound same

theorem Stage.bound_of_recordOf {g : Stage} {id : StreamId} {i : Fin 8} (h : g.recordOf id = some i) :
    (g.streams.get i).bound = true := by
  have first := List.mem_of_mem_head? h
  simp only [Table.where?, List.mem_filter, Bool.and_eq_true] at first
  exact first.2.1

theorem State.takeAudio_unmatched {s : State} {f : List Byte} (record : s.stage.recordOf (frameId f) = none) :
    s.takeAudio f = s.withStage { s.stage with unmatched := count32 s.stage.unmatched } := by
  simp only [State.takeAudio, record]

section
variable {s : State} {f : List Byte} {i : Fin 8} (record : s.stage.recordOf (frameId f) = some i)
include record

theorem State.takeAudio_idle (rest : ¬ s.clock.mixing = true) :
    s.takeAudio f = s.withStage (s.stage.countIn i fun c => { c with idleDiscarded := count32 c.idleDiscarded }) := by
  simp only [State.takeAudio, record]
  exact if_pos rest

theorem State.takeAudio_unfit (mixing : s.clock.mixing = true) (unfit : ¬ formatFits s.clock (s.stage.streams.get i) f = true) :
    s.takeAudio f = s.withStage (s.stage.countIn i fun c => { c with formatRejected := count32 c.formatRejected }) := by
  simp only [State.takeAudio, record]
  rw [if_neg (not_not.mpr mixing), if_pos unfit]

theorem State.takeAudio_damaged (mixing : s.clock.mixing = true) (fits : formatFits s.clock (s.stage.streams.get i) f = true)
    (fails : ¬ (checkHolds f = true ∨ (s.stage.streams.get i).acceptDamaged = true)) :
    s.takeAudio f = s.withStage (s.stage.countIn i fun c => { c with damagedDropped := count32 c.damagedDropped }) := by
  simp only [State.takeAudio, record]
  rw [if_neg (not_not.mpr mixing), if_neg (not_not.mpr fits), if_pos (not_or.mp fails)]

theorem State.takeAudio_passes (mixing : s.clock.mixing = true) (fits : formatFits s.clock (s.stage.streams.get i) f = true)
    (passes : checkHolds f = true ∨ (s.stage.streams.get i).acceptDamaged = true) :
    s.takeAudio f = s.windowAndStore i (s.stage.streams.get i) (!checkHolds f) f := by
  simp only [State.takeAudio, record]
  rw [if_neg (not_not.mpr mixing), if_neg (not_not.mpr fits), if_neg (fun h => not_or.mpr h passes)]

end

/-! ## The window and the room in the ring (R50 to R53) -/

theorem Ring.present_isSome {r : Ring} {n : BlockNo} {i : Fin 8} :
    (r.present n i).isSome = true ↔ ∃ e ∈ r.entries, e.stream = i ∧ e.consumed = false ∧ e.block = n := by
  simp [Ring.present, Ring.waitingOf, List.find?_isSome, and_assoc]

/-- The ring has no page or no index entry left for a frame (R52). -/
def Ring.Full (r : Ring) (channels : Nat) : Prop := 384 < r.pagesUsed + pagesFor channels ∨ 64 ≤ r.entries.length

section
variable {s : State} {i : Fin 8} {r : Stream} {damaged : Bool} {f : List Byte}

theorem State.windowAndStore_late
    (late : distance s.clock.block (frameBlock f) = 0 ∨ 32768 ≤ distance s.clock.block (frameBlock f)) :
    s.windowAndStore i r damaged f = s.withStage (s.stage.countIn i fun c => { c with late := count32 c.late }) := if_pos late

theorem State.windowAndStore_ahead (low : 9 ≤ distance s.clock.block (frameBlock f))
    (high : distance s.clock.block (frameBlock f) ≤ 32767) :
    s.windowAndStore i r damaged f = s.withStage (s.stage.countIn i fun c => { c with ahead := count32 c.ahead }) := by
  simp only [State.windowAndStore]
  rw [if_neg (by omega), if_pos low]

variable (low : 1 ≤ distance s.clock.block (frameBlock f)) (high : distance s.clock.block (frameBlock f) ≤ 8)
include low high

theorem State.windowAndStore_duplicate (present : (s.ring.present (frameBlock f) i).isSome = true) :
    s.windowAndStore i r damaged f
      = s.withStage (s.stage.countIn i fun c => { c with duplicate := count32 c.duplicate }) := by
  simp only [State.windowAndStore]
  rw [if_neg (by omega), if_neg (by omega), if_pos present]

theorem State.windowAndStore_full (absent : ¬ (s.ring.present (frameBlock f) i).isSome = true) (full : s.ring.Full r.channels) :
    s.windowAndStore i r damaged f
      = (s.withStage (s.stage.countIn i fun c => { c with fullRejected := count32 c.fullRejected })).withRing
        { s.ring with rejects := s.ring.rejects + 1 } := by
  simp only [State.windowAndStore]
  rw [if_neg (by omega), if_neg (by omega), if_neg absent]
  exact if_pos full

end

/-- A record that counts a stored frame of a block (R60). -/
def Stream.stored (r : Stream) (block : BlockNo) (damaged : Bool) : Stream :=
  { r with
    lastBlock := some block
    counters := { r.counters with
      stored := count32 r.counters.stored
      damagedKept := if damaged then count32 r.counters.damagedKept else r.counters.damagedKept } }

theorem State.windowAndStore_stored {s : State} {i : Fin 8} {r : Stream} {damaged : Bool} {f : List Byte}
    (low : 1 ≤ distance s.clock.block (frameBlock f)) (high : distance s.clock.block (frameBlock f) ≤ 8)
    (absent : ¬ (s.ring.present (frameBlock f) i).isSome = true) (room : ¬ s.ring.Full r.channels) :
    s.windowAndStore i r damaged f
      = (s.withStage { s.stage with streams := s.stage.streams.modify i fun r => r.stored (frameBlock f) damaged }).withRing
        (s.ring.store i (frameBlock f) r.channels damaged f) := by
  simp only [State.windowAndStore]
  rw [if_neg (by omega), if_neg (by omega), if_neg absent]
  exact if_neg room

/-! ## The statements -/

/-- Settles O21: the tests of the stage port, then those of an audio frame, each with its counter. -/
theorem rejectedFrames : Obligations.RejectedFrames := by
  unfold Obligations.RejectedFrames
  refine ⟨fun s t f => ⟨fun bad => ?_, fun long type bad => ?_⟩, ?_⟩
  · exact congrArg _ (s.stageFrame_malformed t bad)
  · exact congrArg _ (s.stageFrame_syncRejected t long type bad)
  intro s t f long type counted
  constructor
  · intro none
    exact congrArg _ ((s.stageFrame_audio t long type).trans (State.takeAudio_unmatched (Stage.recordOf_eq_none none)))
  · intro i record r mixing fits passes d full
    have taken : exec (.audioFrame t f) s = .next (s.takeAudio f) := congrArg _ (s.stageFrame_audio t long type)
    have runs : mixing ↔ s.clock.mixing = true := Clock.mixing_iff.symm
    have fit : fits ↔ formatFits s.clock r f = true := formatFits_iff.symm
    have window : mixing → fits → passes → s.takeAudio f = s.windowAndStore i r (!checkHolds f) f :=
      fun m k p => State.takeAudio_passes record (runs.mp m) (fit.mp k) p
    rw [taken]
    refine ⟨fun rest => ?_, fun m unfit => ?_, fun m k fails => ?_, fun m k p late => ?_, fun m k p low high => ?_,
      fun m k p low high ⟨e, held, stream, waits, block⟩ => ?_, fun m k p low high absent none => ?_⟩
    · exact congrArg _ (State.takeAudio_idle record (runs.not.mp rest))
    · exact congrArg _ (State.takeAudio_unfit record (runs.mp m) (fit.not.mp unfit))
    · exact congrArg _ (State.takeAudio_damaged record (runs.mp m) (fit.mp k) fails)
    · exact congrArg _ ((window m k p).trans (State.windowAndStore_late late))
    · exact congrArg _ ((window m k p).trans (State.windowAndStore_ahead low high))
    · have present := Ring.present_isSome.mpr ⟨e, held, stream, waits, block⟩
      exact congrArg _ ((window m k p).trans (State.windowAndStore_duplicate low high present))
    · have missing : ¬ (s.ring.present (frameBlock f) i).isSome = true := by
        rw [Ring.present_isSome]; rintro ⟨e, held, stream, waits, block⟩; exact absent e held stream waits block
      exact congrArg _ ((window m k p).trans (State.windowAndStore_full low high missing none))

/-- Settles O22: no test of R46 to R52 discards the frame, so that it is stored. -/
theorem storedAudio : Obligations.StoredAudio := by
  unfold Obligations.StoredAudio
  intro s t f i long type record r d damaged p mixing rate rates channels length passes low high absent pages room
  have missing : ¬ (s.ring.present (frameBlock f) i).isSome = true := by
    rw [Ring.present_isSome]; rintro ⟨e, held, stream, waits, block⟩; exact absent e held stream waits block
  have fits : ¬ s.ring.Full r.channels := by
    rintro (more | many)
    · exact absurd pages (Nat.not_le.mpr more)
    · exact absurd room (Nat.not_lt.mpr many)
  refine congrArg Host.Outcome.next ((s.stageFrame_audio t long type).trans ?_)
  rw [State.takeAudio_passes record (Clock.mixing_iff.mpr mixing) (formatFits_iff.mpr ⟨rate, rates, channels, length⟩) passes,
    State.windowAndStore_stored low high missing fits]
  rfl

end Sys2Proof.Machine
end

section
/-! What every step keeps of the stream table, the frame ring and the slots: requests, stage frames, windows and boundaries. -/

namespace Sys2Proof.Machine

/-! ## Requests -/

theorem State.StageSound.withLink {s : State} (h : s.StageSound) (l : Link) : (s.withLink l).StageSound :=
  h.kept (StageKept.of_eqs rfl rfl rfl rfl)

/-- A deferral marks a pending STOP or an APPLYING cue slot. -/
theorem State.deferRequest_kept (s : State) (kind tag : Byte) (job : DeferredJob) : StageKept s (s.deferRequest kind tag job) := by
  unfold State.deferRequest
  split
  · exact .of_eqs rfl rfl rfl rfl
  · split
    · exact .of_eqs rfl rfl rfl rfl
    · split
      · exact .of_eqs rfl rfl rfl rfl
      · cases job with
        | stop => exact ⟨SameBindings.refl _, rfl, fun _ fits => fits, rfl, rfl, rfl⟩
        | apply => exact .of_eqs rfl rfl rfl rfl

theorem State.answer_kept (s : State) (kind tag : Byte) (a : Answer) : StageKept s (s.answer kind tag a) := by
  cases a with
  | done | data | retry | fail => exact .of_eqs rfl rfl rfl rfl
  | wouldDefer job => exact s.deferRequest_kept kind tag job

/-- The taking of a request keeps the relations if its owner does. -/
theorem State.StageSound.takeRequest {s : State} {o : Option Owner} (h : s.StageSound)
    (keeps : ∀ take, o = some take → take.KeepsStage) (kind tag : Byte) : (takeRequest kind tag o s).StageSound := by
  rcases takeRequest_cases kind tag o s with full | ⟨e, refused⟩ | ⟨take, owner, _, decided⟩
  · rw [full]; exact h.withLink _
  · rw [refused]; exact h.withLink _
  · rw [decided]; exact (keeps take owner s h).kept (State.answer_kept _ _ _ _)

/-- A row with a kind byte carries a tag and fields. -/
theorem tagAndFields_of_kindOf {i : Instr} {kind : Byte} (hk : kindOf i = some kind) :
    ∃ tag fields, tagAndFields i = some (tag, fields) := by
  cases i with
  | powerOn | linkByteReceived | interByteGapExpiry | transmitEnd | syncFrame | audioFrame | malformedStageFrame
  | syncWatchExpiry | holdoverTimerExpiry | announceWindowClose | grantedWindowClose | upstreamSignalAfterIdle => cases hk
  | _ => exact ⟨_, _, rfl⟩

/-- The effect of a request row: the taking of an unknown kind, or of a request by its owner (R3). -/
theorem exec_request_cases {i : Instr} {kind : Byte} (hk : kindOf i = some kind) (s : State) :
    ∃ tag, exec i s = .next (takeUnknownKind kind tag s) ∨ exec i s = .next (takeRequest kind tag (requestOwner i) s) := by
  obtain ⟨tag, fields, ht⟩ := tagAndFields_of_kindOf hk
  by_cases row : ∃ k t f, i = .unknownKindRequest k t f
  · obtain ⟨k, t, f, rfl⟩ := row
    cases hk
    exact ⟨t, .inl rfl⟩
  · exact ⟨tag, .inr (exec_known (fun k t f e => row ⟨k, t, f, e⟩) hk ht s)⟩

/-- A request row, of a known or an unknown kind, keeps the relations. -/
theorem State.StageSound.request {s t : State} (h : s.StageSound) {i : Instr} {kind : Byte} (hk : kindOf i = some kind)
    (run : exec i s = .next t) : t.StageSound := by
  obtain ⟨tag, unknown | known⟩ := exec_request_cases hk s
  · cases unknown.symm.trans run
    unfold takeUnknownKind
    split
    · exact h.withLink _
    · exact h.withLink _
  · cases known.symm.trans run
    exact h.takeRequest (fun take own => requestOwner_keepsStage own) kind tag

/-- A received byte is taken, discarded, or completes a request. -/
theorem State.StageSound.byte {s t : State} (h : s.StageSound) {time : Time} {b : Byte}
    (run : exec (.linkByteReceived time b) s = .next t) : t.StageSound := by
  cases event : (s.link.settleGap time).rx.receive time b with
  | mk rx e =>
    cases e with
    | taken => cases (exec_byte_taken event).symm.trans run; exact h.withLink _
    | discarded => cases (exec_byte_discarded event).symm.trans run; exact h.withLink _
    | complete body =>
      have body' := (exec_byte_complete event).symm.trans run
      rcases State.takeBody_eq (s.withLink { s.link.settleGap time with rx := rx }) body with ⟨i, kind, hk, eq⟩ | eq
      · exact (h.withLink _).request hk (eq.symm.trans body')
      · cases eq.symm.trans body'; exact h.withLink _

/-! ## Stage frames -/

theorem State.countIn_kept (s : State) (i : Fin 8) (f : StreamCounters → StreamCounters) :
    StageKept s (s.withStage (s.stage.countIn i f)) := .modifyStream ⟨rfl, rfl, rfl, fun sound => sound.recount _⟩

theorem Ring.store_waiting (r : Ring) (stream : Fin 8) (block : BlockNo) (channels : Nat) (damaged : Bool) (f : List Byte) :
    (r.store stream block channels damaged f).waiting = r.waiting ++ [r.newEntry stream block channels damaged] := by
  rw [Ring.waiting, Ring.store_entries, List.filter_append]
  rfl

theorem inWindow_iff {a b : BlockNo} : inWindow a b = true ↔ 1 ≤ distance a b ∧ distance a b ≤ 8 := by
  simp [inWindow]

/-- A frame of a BOUND stream, in the window, of a block that the stream has not WAITING, and for which there is room (R46 to
R53). -/
theorem State.StageSound.store {s : State} (h : s.StageSound) {i : Fin 8} (bound : (s.stage.streams.get i).bound = true)
    (mixing : s.clock.mixing = true) {block : BlockNo} (window : inWindow s.clock.block block = true)
    (absent : ¬ (s.ring.present block i).isSome = true) (room : ¬ s.ring.Full (s.stage.streams.get i).channels) (damaged : Bool)
    (f : List Byte) :
    (s.withRing (s.ring.store i block (s.stage.streams.get i).channels damaged f)).StageSound := by
  obtain ⟨_, low, high⟩ := (h.streams.sound i).of_bound bound
  obtain ⟨pages, entries⟩ := not_or.mp room
  have waiting := s.ring.store_waiting i block (s.stage.streams.get i).channels damaged f
  refine ⟨h.streams, h.ring.store i block low high (Nat.not_lt.mp pages) (Nat.not_le.mp entries) damaged f, ⟨fun e mem => ?_, ?_⟩,
    fun rest => absurd (rest.symm.trans mixing) nofun, h.slots⟩
  · rw [State.withRing_ring, waiting, List.mem_append, List.mem_singleton] at mem
    rcases mem with old | rfl
    · exact h.fits.entries e old
    · exact ⟨bound, rfl, window⟩
  · rw [State.withRing_ring, waiting, List.map_append]
    refine List.Nodup.append h.fits.keys (List.nodup_singleton _) ?_
    simp only [List.map_cons, List.map_nil, List.disjoint_singleton, List.mem_map, not_exists, not_and]
    intro e mem same
    obtain ⟨held, waits⟩ := Ring.mem_waiting.mp mem
    obtain ⟨stream, number⟩ := Prod.mk.inj same
    exact absent (Ring.present_isSome.mpr ⟨e, held, stream, waits, number⟩)

/-- The tests of the window and of the room keep the relations, and so does the storage (R50 to R53). -/
theorem State.StageSound.windowAndStore {s : State} (h : s.StageSound) {i : Fin 8}
    (bound : (s.stage.streams.get i).bound = true) (mixing : s.clock.mixing = true) (damaged : Bool) (f : List Byte) :
    (s.windowAndStore i (s.stage.streams.get i) damaged f).StageSound := by
  by_cases late : distance s.clock.block (frameBlock f) = 0 ∨ 32768 ≤ distance s.clock.block (frameBlock f)
  · rw [State.windowAndStore_late late]; exact h.kept (State.countIn_kept _ _ _)
  by_cases ahead : 9 ≤ distance s.clock.block (frameBlock f)
  · rw [State.windowAndStore_ahead ahead (by omega)]; exact h.kept (State.countIn_kept _ _ _)
  have low : 1 ≤ distance s.clock.block (frameBlock f) := by omega
  have high : distance s.clock.block (frameBlock f) ≤ 8 := by omega
  by_cases present : (s.ring.present (frameBlock f) i).isSome = true
  · rw [State.windowAndStore_duplicate low high present]; exact h.kept (State.countIn_kept _ _ _)
  by_cases full : s.ring.Full (s.stage.streams.get i).channels
  · rw [State.windowAndStore_full low high present full]
    have counted := h.kept (State.countIn_kept s i fun c => { c with fullRejected := count32 c.fullRejected })
    exact ⟨counted.streams, counted.ring, ⟨counted.fits.entries, counted.fits.keys⟩,
      fun rest => absurd (rest.symm.trans mixing) nofun, counted.slots⟩
  · rw [State.windowAndStore_stored low high present full]
    have stored := h.store bound mixing (inWindow_iff.mpr ⟨low, high⟩) present full damaged f
    refine stored.kept (.modifyStream (f := fun r => r.stored (frameBlock f) damaged) ⟨rfl, rfl, rfl, fun sound => ?_⟩)
    obtain ⟨id, fewest, most⟩ := sound.of_bound bound
    exact Stream.Sound.bound_intro bound id fewest most

theorem State.StageSound.takeAudio {s : State} (h : s.StageSound) (f : List Byte) : (s.takeAudio f).StageSound := by
  cases record : s.stage.recordOf (frameId f) with
  | none => rw [State.takeAudio_unmatched record]; exact h.kept (.withStage (SameBindings.refl _))
  | some i =>
    by_cases mixing : s.clock.mixing = true
    · by_cases fits : formatFits s.clock (s.stage.streams.get i) f = true
      · by_cases passes : checkHolds f = true ∨ (s.stage.streams.get i).acceptDamaged = true
        · rw [State.takeAudio_passes record mixing fits passes]
          exact h.windowAndStore (Stage.bound_of_recordOf record) mixing _ f
        · rw [State.takeAudio_damaged record mixing fits passes]; exact h.kept (State.countIn_kept _ _ _)
      · rw [State.takeAudio_unfit record mixing fits]; exact h.kept (State.countIn_kept _ _ _)
    · rw [State.takeAudio_idle record mixing]; exact h.kept (State.countIn_kept _ _ _)

/-! ## Boundaries -/

theorem WindowFrame.stageKept {s t : State} (h : WindowFrame s t) : StageKept s t := .of_eqs h.clock h.stage h.ring h.slots

theorem ApplyFrame.stageKept {s t : State} (h : ApplyFrame s t) : StageKept s t := .of_eqs h.clock h.stage h.ring h.slots

/-- A block that is not after n and lies in the window of the block before n, lies in the window of n. -/
theorem inWindow_next {n b : BlockNo} (window : inWindow (n - 1) b = true) (after : notAfter n b = false) : inWindow n b = true := by
  rw [inWindow_iff] at window ⊢
  simp only [notAfter, distance, Bool.or_eq_false_iff, beq_eq_false_iff_ne] at *
  bv_omega

/-- After the boundary that mixes n, what is left WAITING fits n, if it fitted the block before (R56). -/
theorem Ring.Fits.afterBlock {r : Ring} {t : Table Stream 8} {n : BlockNo} (h : r.Fits t (n - 1)) : (r.afterBlock n).Fits t n := by
  have consumed : (r.consume fun e => notAfter n e.block).Fits t n := h.consume fun e mem after => by
    obtain ⟨bound, channels, window⟩ := h.entries e mem
    exact ⟨bound, channels, inWindow_next window after⟩
  exact ⟨consumed.entries, consumed.keys⟩

/-- A new M leaves WAITING what fits it (R57). -/
theorem Ring.Fits.relock {r : Ring} {t : Table Stream 8} {m : BlockNo} (h : r.Fits t m) (m' : BlockNo) : (r.relock m').Fits t m' :=
  h.consume fun e mem kept => by
    obtain ⟨bound, channels, _⟩ := h.entries e mem
    exact ⟨bound, channels, by simpa using kept⟩

/-- A boundary that mixes n keeps the relations, if the ring fits the block before n, or is fitted to it by a relock. -/
theorem State.StageSound.mixingBoundary {s : State} (h : s.StageSound) {c : Clock} {n : BlockNo} {relocked : Bool}
    (format : c.format = s.clock.format) (block : c.block = n) (mixing : c.mixing = true)
    (fits : relocked = true ∨ s.ring.Fits s.stage.streams (n - 1)) : (s.mixingBoundary c n relocked).StageSound := by
  obtain ⟨clock, stage, _, _⟩ := State.mixingBoundary_frame s c n relocked
  rw [State.mixingBoundary_eq] at clock stage ⊢
  generalize given : (if relocked = true then s.ring.consume fun e => !inWindow (n - 1) e.block else s.ring) = ring at clock stage ⊢
  have before : ring.Sound ∧ ring.Fits s.stage.streams (n - 1) := by
    rw [← given]
    cases relocked with
    | true => exact ⟨h.ring.consume _, h.fits.relock (n - 1)⟩
    | false => exact ⟨h.ring, fits.resolve_left nofun⟩
  have b := State.atBoundary s c ring n
  generalize ((s.closeWindows.withClock c).withRing ring).completeDeferred n = d at *
  have after : (d.mixBlock s n).ring = ring.afterBlock n := by rw [(State.mixBlock_fields d s n).2.2.2.2.1, b.ring]
  refine ⟨?_, ?_, ?_, ?_, fun i => ?_⟩
  · rw [stage, clock, format]; exact h.streams
  · rw [after]; exact before.1.consume _
  · rw [after, stage, clock, block]; exact before.2.afterBlock
  · rw [clock]; exact fun rest => absurd (rest.symm.trans mixing) nofun
  · rw [b.mixBlock_slot n i, stage]
    refine ((h.slots i).assemble ring n).withPeak ?_
    split
    · exact .inl rfl
    · exact .inr rfl

theorem State.StageSound.stoppingBoundary {s : State} (h : s.StageSound) (t : Time) (bySync : Bool) :
    (s.stoppingBoundary t bySync).StageSound := by
  have closed := h.kept (State.closeWindows_window s).stageKept
  refine State.StageSound.enterStopped ((closed.kept ?_).kept (State.completeDeferred_frame _ _).stageKept)
  exact .withClock rfl rfl rfl

theorem State.StageSound.syncBoundary {s : State} (h : s.StageSound) (f : Format) (t : Time) (block : BlockNo) :
    (s.syncBoundary f t block).StageSound := by
  unfold State.syncBoundary
  dsimp only
  split
  · exact h.stoppingBoundary t true
  · split
    · rename_i expected
      refine h.mixingBoundary rfl rfl rfl (.inr ?_)
      have last : block - BitVec.ofNat 16 f.lag - 1 = s.clock.block := by
        rw [expected, Clock.expected, add_right_comm, add_sub_cancel_right, add_sub_cancel_right]
      rw [last]; exact h.fits
    · exact h.mixingBoundary rfl rfl rfl (.inl rfl)

theorem State.StageSound.realign {s : State} (h : s.StageSound) {f : Format} (engine : s.clock.engine = .holdover)
    (block : BlockNo) : (s.realign f block).StageSound := by
  have mixing : s.clock.mixing = true := Clock.mixing_iff.mpr (.inr engine)
  have running : (s.clock.afterRealign f block).mixing = true := by
    unfold Clock.afterRealign; dsimp only; split <;> rfl
  have format : (s.clock.afterRealign f block).format = s.clock.format := by
    unfold Clock.afterRealign; dsimp only; split <;> rfl
  unfold State.realign
  dsimp only
  split
  · rename_i same
    have last : (s.clock.afterRealign f block).lastBlock = s.clock.lastBlock := by
      rw [Clock.afterRealign, if_pos same]
    exact h.kept (.withClock format last (running.trans mixing.symm))
  · refine ⟨?_, h.ring.consume _, h.fits.relock _, fun rest => absurd (rest.symm.trans running) nofun, h.slots⟩
    rw [State.withRing_clock, State.withClock_clock, format]; exact h.streams

theorem State.StageSound.ownSync {s : State} (h : s.StageSound) (f : Format) (t : Time) (block : BlockNo) :
    (s.ownSync f t block).StageSound := by
  unfold State.ownSync
  split
  case h_1 engine =>
    obtain ⟨empty, _⟩ := h.idle (Clock.mixing_eq_false (by simp [engine]) (by simp [engine]))
    exact h.mixingBoundary rfl rfl rfl (.inr (Ring.fits_of_empty empty _ _))
  case h_2 =>
    split
    · exact h.kept (.withClock rfl rfl rfl)
    · exact h.syncBoundary f t block
  case h_3 engine =>
    split
    · exact h.realign engine block
    · exact h.syncBoundary f t block
  case h_4 => exact h
  case h_5 => exact h

theorem State.StageSound.takeSync {s : State} (h : s.StageSound) (t : Time) (id : StreamId) (block : BlockNo) :
    (s.takeSync t id block).StageSound := by
  unfold State.takeSync
  split
  · exact h.kept (.withClock rfl rfl rfl)
  · split
    · exact h.kept (.withClock rfl rfl rfl)
    · split
      · exact h.ownSync _ t block
      · exact h.kept (.withClock rfl rfl rfl)

theorem State.StageSound.stageFrame {s : State} (h : s.StageSound) (t : Time) (f : List Byte) : (s.stageFrame t f).StageSound := by
  unfold State.stageFrame
  split
  · exact h.kept (.withStage (SameBindings.refl _))
  · split
    · exact h.takeAudio f
    · split
      · split
        · exact h.takeSync _ _ _
        · exact h.kept (.withStage (SameBindings.refl _))
      · exact h.kept (.withStage (SameBindings.refl _))

theorem State.StageSound.timerExpiry {s : State} (h : s.StageSound) (e : EngineState) : (s.timerExpiry e).StageSound := by
  unfold State.timerExpiry
  split
  · split
    · unfold State.expire
      split
      · exact h.stoppingBoundary _ false
      · refine h.mixingBoundary rfl rfl rfl (.inr ?_)
        rw [add_sub_cancel_right]; exact h.fits
    · exact h
  · exact h

/-! ## Every command -/

/-- Every command keeps the relations of stream table, ring and slots. -/
theorem exec_keeps_stage {c : Instr} {s t : State} (h : s.StageSound) (run : exec c s = .next t) : t.StageSound := by
  cases kind : kindOf c with
  | some k => exact h.request kind run
  | none =>
    cases c
    case powerOn =>
      cases run
      obtain ⟨_, _, _, _, streams, ring, slots, _⟩ := resetIsSound
      exact (State.stageSound_iff.mpr ⟨streams, ring, slots⟩).kept (.of_eqs rfl rfl rfl rfl)
    case linkByteReceived => exact h.byte run
    case interByteGapExpiry | transmitEnd => cases run; exact h.withLink _
    case syncFrame | audioFrame | malformedStageFrame => cases run; exact h.stageFrame _ _
    case syncWatchExpiry | holdoverTimerExpiry => cases run; exact h.timerExpiry _
    case announceWindowClose heard => cases run; exact h.kept (State.closeAnnounce_window s heard).stageKept
    case grantedWindowClose heard => cases run; exact h.kept (State.closeGrantedWindow_window s heard).stageKept
    case upstreamSignalAfterIdle =>
      change execUpstreamSignalAfterIdle s = .next t at run
      unfold execUpstreamSignalAfterIdle at run
      cases run
      split
      · exact h.kept (.of_eqs rfl rfl rfl rfl)
      · exact h
    all_goals cases kind

/-- Settles O56: a step idles or carries out the command at the front, and every command keeps the relations. -/
theorem stepKeepsRingAndSlots : Obligations.StepKeepsRingAndSlots := by
  unfold Obligations.StepKeepsRingAndSlots
  intro s t sound run
  have before : s.StageSound := State.stageSound_iff.mpr ⟨sound.streams, sound.ring, sound.slots⟩
  refine State.stageSound_iff.mp ?_
  unfold step at run
  split at run
  · cases run; exact before
  · rename_i rest _
    exact exec_keeps_stage (s := s.withPending rest) (before.kept (.of_eqs rfl rfl rfl rfl)) run

end Sys2Proof.Machine
end

section
/-! BIND_SLOT, SET_SLOT and UNBIND_SLOT: their tests in order, and the record each leaves (R63 to R65). -/

namespace Sys2Proof.Machine

/-- Two flag fields are values when both are 0 or 1 (R63, R64). -/
theorem flags_refused {polarity hold : Byte} (bad : ¬ (polarity.toNat ≤ 1 ∧ hold.toNat ≤ 1)) :
    flag? polarity = none ∨ flag? hold = none :=
  (not_and_or.mp bad).imp (fun h => flag?_of_ge (Nat.not_le.mp h)) (fun h => flag?_of_ge (Nat.not_le.mp h))

/-! ## BIND_SLOT (R63) -/

section
variable {s : State} {slot stream channel polarity hold : Byte}

theorem bindSlot_badIndex (bad : 48 ≤ slot.toNat ∨ 8 ≤ stream.toNat ∨ 8 ≤ channel.toNat) :
    bindSlot slot stream channel polarity hold s = (s, .fail .badIndex) := by
  rcases bad with high | high | high
  · rw [bindSlot, index?_of_ge high]
  · rw [bindSlot, index?_of_ge high]; cases index? 48 slot <;> rfl
  · rw [bindSlot, index?_of_ge high]; cases index? 48 slot <;> cases index? 8 stream <;> rfl

variable {i : Fin 48} {g : Fin 8} (slotNamed : slot.toNat = i.val) (streamNamed : stream.toNat = g.val)
  (channelNamed : channel.toNat < 8)
include slotNamed streamNamed channelNamed

theorem bindSlot_badValue (bad : ¬ (polarity.toNat ≤ 1 ∧ hold.toNat ≤ 1)) :
    bindSlot slot stream channel polarity hold s = (s, .fail .badValue) := by
  rw [bindSlot, index?_of_lt slotNamed, index?_of_lt streamNamed, index?_of_lt (i := ⟨_, channelNamed⟩) rfl]
  rcases flags_refused bad with none | none
  · rw [none]
  · rw [none]; cases flag? polarity <;> rfl

/-- With indices and values in order, the slot, the stream and the channel are tested in turn. -/
theorem bindSlot_values (values : polarity.toNat ≤ 1 ∧ hold.toNat ≤ 1) :
    bindSlot slot stream channel polarity hold s =
      if (s.slots.get i).bound then (s, .fail .slotInUse)
      else if ¬ (s.stage.streams.get g).bound then (s, .fail .notBound)
      else if (s.stage.streams.get g).channels ≤ channel.toNat then (s, .fail .channelRange)
      else (s.withSlots (s.slots.set i
        { bound := true, stream := g, channel := channel.toNat, invert := decide (polarity = 1),
          repeatOnce := decide (hold = 1), status := .none, misses := 0, history := silence, assembled := silence,
          peak := 0, condition := (s.slots.get i).condition }), .done []) := by
  rw [bindSlot, index?_of_lt slotNamed, index?_of_lt streamNamed, index?_of_lt (i := ⟨_, channelNamed⟩) rfl,
    flag?_of_le values.1, flag?_of_le values.2]
  rfl

end

/-! ## SET_SLOT (R64) and UNBIND_SLOT (R65) -/

section
variable {s : State} {slot polarity hold : Byte}

theorem setSlot_badIndex (high : 48 ≤ slot.toNat) : setSlot slot polarity hold s = (s, .fail .badIndex) := by
  rw [setSlot, index?_of_ge high]

theorem unbindSlot_badIndex (high : 48 ≤ slot.toNat) : unbindSlot slot s = (s, .fail .badIndex) := by
  rw [unbindSlot, index?_of_ge high]

variable {i : Fin 48} (named : slot.toNat = i.val)
include named

theorem setSlot_badValue (bad : ¬ (polarity.toNat ≤ 1 ∧ hold.toNat ≤ 1)) :
    setSlot slot polarity hold s = (s, .fail .badValue) := by
  rw [setSlot, index?_of_lt named]
  rcases flags_refused bad with none | none
  · rw [none]
  · rw [none]; cases flag? polarity <;> rfl

theorem setSlot_values (values : polarity.toNat ≤ 1 ∧ hold.toNat ≤ 1) :
    setSlot slot polarity hold s =
      if (s.slots.get i).bound then
        (s.withSlots (s.slots.set i
          { s.slots.get i with invert := decide (polarity = 1), repeatOnce := decide (hold = 1) }), .done [])
      else (s, .fail .notBound) := by
  rw [setSlot, index?_of_lt named, flag?_of_le values.1, flag?_of_le values.2]
  rfl

theorem unbindSlot_named :
    unbindSlot slot s =
      if (s.slots.get i).bound then
        (s.withSlots (s.slots.set i { Slot.unbound with condition := (s.slots.get i).condition }), .done [])
      else (s, .fail .notBound) := by
  rw [unbindSlot, index?_of_lt named]
  rfl

end

/-! ## The statement -/

/-- Settles O25: each request is answered as its owner decides, test by test. -/
theorem slotRequests : Obligations.SlotRequests := by
  unfold Obligations.SlotRequests
  intro s tag slot stream channel polarity hold admits bind set unbind
  have binds : ∀ {t r}, bindSlot slot stream channel polarity hold s = (t, r) → exec bind s = .next (t.answer 0x28 tag r) :=
    exec_answer rfl rfl rfl admits
  have sets : ∀ {t r}, setSlot slot polarity hold s = (t, r) → exec set s = .next (t.answer 0x29 tag r) :=
    exec_answer rfl rfl rfl admits
  have unbinds : ∀ {t r}, unbindSlot slot s = (t, r) → exec unbind s = .next (t.answer 0x2A tag r) :=
    exec_answer rfl rfl rfl admits
  refine ⟨fun bad => binds (bindSlot_badIndex bad),
    fun high => ⟨sets (setSlot_badIndex high), unbinds (unbindSlot_badIndex high)⟩, ?_⟩
  intro i g named streamNamed channelNamed k r values
  have bindTests := fun fit : values => bindSlot_values (s := s) named streamNamed channelNamed fit
  have setTests := fun fit : values => setSlot_values (s := s) named fit
  have unbindTests := unbindSlot_named (s := s) named
  refine ⟨fun bad => ⟨?_, ?_⟩, fun fit bound => ?_, fun fit free unbound => ?_, fun fit free bound range => ?_,
    fun fit free bound range => ?_, fun fit free => ?_, fun fit bound => ?_, fun free => ?_, fun bound => ?_⟩
  · exact binds (bindSlot_badValue named streamNamed channelNamed bad)
  · exact sets (setSlot_badValue named bad)
  · exact binds ((bindTests fit).trans (if_pos bound))
  · exact binds (by rw [bindTests fit, if_neg (Bool.eq_false_iff.mp free), if_pos (Bool.eq_false_iff.mp unbound)])
  · exact binds (by rw [bindTests fit, if_neg (Bool.eq_false_iff.mp free), if_neg (not_not.mpr bound), if_pos range])
  · exact binds (by rw [bindTests fit, if_neg (Bool.eq_false_iff.mp free), if_neg (not_not.mpr bound),
      if_neg (Nat.not_le.mpr range)])
  · exact sets ((setTests fit).trans (if_neg (Bool.eq_false_iff.mp free)))
  · exact sets ((setTests fit).trans (if_pos bound))
  · exact unbinds (unbindTests.trans (if_neg (Bool.eq_false_iff.mp free)))
  · exact unbinds (unbindTests.trans (if_pos bound))

end Sys2Proof.Machine
end

section
/-! Slot assembly at a boundary: what a BOUND slot takes, the polarity and peak of a block, and the record after it (R67 to
R73). -/

namespace Sys2Proof.Machine

/-! ## Polarity and peak of a block (R70, R72) -/

theorem polarised_get (invert : Bool) (b : Block) (j : Fin 16) :
    (polarised invert b).get j = if invert then invertSample (b.get j) else b.get j := by
  cases invert with
  | false => rfl
  | true => exact Table.get_map invertSample b j

/-- The peak of a block is the magnitude of one of its samples, and no sample's is larger. -/
theorem blockPeak_isGreatest (b : Block) : IsGreatest (Set.range fun j => (b.get j).natAbs) (blockPeak b) := by
  have peak : blockPeak b = ((b.list.map Int.natAbs).max?).getD 0 := by
    rw [blockPeak, ← Nat.zero_max ((b.list.map Int.natAbs).max?.getD 0), ← List.foldl_max, List.foldl_map]
  obtain ⟨m, largest⟩ : ∃ m, (b.list.map Int.natAbs).max? = some m := by
    rw [← Option.isSome_iff_exists, List.isSome_max?_iff, ← List.length_pos_iff, List.length_map, b.len]
    exact Nat.zero_lt_succ 15
  rw [peak, largest, Option.getD_some]
  obtain ⟨here, top⟩ := List.max?_eq_some_iff.mp largest
  constructor
  · obtain ⟨x, mem, rfl⟩ := List.mem_map.mp here
    obtain ⟨j, rfl⟩ := (b.mem_iff x).mp mem
    exact ⟨j, rfl⟩
  · rintro _ ⟨j, rfl⟩
    exact top _ (List.mem_map_of_mem ((b.mem_iff _).mpr ⟨j, rfl⟩))

/-! ## What a BOUND slot takes (R67, R68) -/

section
variable {r : Ring} {n : BlockNo} {k : Slot}

theorem slotTaking_heard {e : RingEntry} (heard : r.present n k.stream = some e) :
    slotTaking r n k = (r.samples e k.channel, if e.damaged then .damaged else .fresh) := by
  rw [slotTaking, heard]

theorem slotTaking_repeats (absent : r.present n k.stream = none)
    (repeats : k.repeatOnce = true ∧ (k.status = .fresh ∨ k.status = .damaged)) :
    slotTaking r n k = (k.history, .repeated) := by
  rw [slotTaking, absent]; exact if_pos repeats

theorem slotTaking_missing (absent : r.present n k.stream = none)
    (once : ¬ (k.repeatOnce = true ∧ (k.status = .fresh ∨ k.status = .damaged))) :
    slotTaking r n k = (silence, .missing) := by
  rw [slotTaking, absent]; exact if_neg once

/-! ## The record after the boundary (R69 to R73) -/

/-- A BOUND slot after a boundary, by the samples and the status that it takes. -/
theorem assembleSlot_of_taking (bound : k.bound = true) {taken : Block} {status : SlotStatus}
    (h : slotTaking r n k = (taken, status)) :
    assembleSlot r n k = { k with
      status := status
      misses := if status == .repeated || status == .missing then min (k.misses + 1) 65535 else k.misses
      history := taken
      assembled := polarised k.invert taken
      peak := max k.peak (blockPeak (polarised k.invert taken))
      condition := status == .repeated || status == .missing } := by
  rw [assembleSlot, if_pos bound, h]
  rfl

/-- A block in the ring is heard: it counts no miss and clears the condition. -/
theorem assembleSlot_heard (bound : k.bound = true) {e : RingEntry} (heard : r.present n k.stream = some e) :
    (assembleSlot r n k).history = r.samples e k.channel
      ∧ (assembleSlot r n k).status = (if e.damaged then .damaged else .fresh)
      ∧ (assembleSlot r n k).misses = k.misses ∧ (assembleSlot r n k).condition = false := by
  rw [assembleSlot_of_taking bound (slotTaking_heard heard)]
  cases e.damaged <;> exact ⟨rfl, rfl, rfl, rfl⟩

theorem assembleSlot_repeats (bound : k.bound = true) (absent : r.present n k.stream = none)
    (repeats : k.repeatOnce = true ∧ (k.status = .fresh ∨ k.status = .damaged)) :
    (assembleSlot r n k).history = k.history ∧ (assembleSlot r n k).status = .repeated
      ∧ (assembleSlot r n k).misses = min (k.misses + 1) 65535 ∧ (assembleSlot r n k).condition = true := by
  rw [assembleSlot_of_taking bound (slotTaking_repeats absent repeats)]
  exact ⟨rfl, rfl, rfl, rfl⟩

theorem assembleSlot_missing (bound : k.bound = true) (absent : r.present n k.stream = none)
    (once : ¬ (k.repeatOnce = true ∧ (k.status = .fresh ∨ k.status = .damaged))) :
    (assembleSlot r n k).history = silence ∧ (assembleSlot r n k).status = .missing
      ∧ (assembleSlot r n k).misses = min (k.misses + 1) 65535 ∧ (assembleSlot r n k).condition = true := by
  rw [assembleSlot_of_taking bound (slotTaking_missing absent once)]
  exact ⟨rfl, rfl, rfl, rfl⟩

/-- The assembled block is the history through the polarity, and the peak takes it in. -/
theorem assembleSlot_output (bound : k.bound = true) :
    (assembleSlot r n k).assembled = polarised k.invert (assembleSlot r n k).history
      ∧ (assembleSlot r n k).peak = max k.peak (blockPeak (assembleSlot r n k).assembled) := by
  rw [assembleSlot_of_taking bound rfl]
  exact ⟨rfl, rfl⟩

/-- A boundary leaves a BOUND slot's settings. -/
theorem assembleSlot_settings (bound : k.bound = true) :
    (assembleSlot r n k).bound = true ∧ (assembleSlot r n k).stream = k.stream ∧ (assembleSlot r n k).channel = k.channel
      ∧ (assembleSlot r n k).invert = k.invert ∧ (assembleSlot r n k).repeatOnce = k.repeatOnce := by
  rw [assembleSlot_of_taking bound rfl]
  exact ⟨bound, rfl, rfl, rfl, rfl⟩

/-- A sound UNBOUND slot is the UNBOUND record after a boundary. -/
theorem assembleSlot_unbound (free : k.bound = false) (sound : k.Sound) : assembleSlot r n k = Slot.unbound := by
  obtain ⟨_, _, _, _, cleared⟩ := sound
  rw [assembleSlot, if_neg (Bool.eq_false_iff.mp free), cleared free]
  rfl

end

/-! ## The statement -/

/-- Settles O26: by what the slot takes, with polarity and peak of the block that it assembles. -/
theorem slotAssembly : Obligations.SlotAssembly := by
  unfold Obligations.SlotAssembly
  refine ⟨fun r n k bound => ?_, fun r n k free sound => assembleSlot_unbound free sound⟩
  obtain ⟨assembled, peak⟩ := assembleSlot_output (r := r) (n := n) bound
  obtain ⟨attained, largest⟩ := blockPeak_isGreatest (assembleSlot r n k).assembled
  refine ⟨fun e heard => assembleSlot_heard bound heard, assembleSlot_repeats bound, assembleSlot_missing bound,
    fun j => ?_, ?_, fun j => ?_, ?_, assembleSlot_settings bound⟩
  · rw [assembled, polarised_get]; rfl
  · rw [peak]; exact le_max_left _ _
  · rw [peak]; exact (largest ⟨j, rfl⟩).trans (le_max_right _ _)
  · rw [peak]
    obtain ⟨j, same⟩ := attained
    exact (max_choice k.peak _).imp id fun larger => ⟨j, larger.trans same.symm⟩

end Sys2Proof.Machine
end

section
/-! Gains of level codes, effective codes and targets (R79 to R82). -/

namespace Sys2Proof.Machine

/-! ## Gains (R79) -/

theorem mantissa_eq {k : Nat} (h : k < 8) :
    Config.mantissa k = [65536, 71468, 77935, 84990, 92682, 101070, 110218, 120194].getD k 0 := by
  have all : ∀ k : Fin 8, Config.mantissa k.val = [65536, 71468, 77935, 84990, 92682, 101070, 110218, 120194].getD k.val 0 := by
    decide
  exact all ⟨k, h⟩

theorem mantissa_le (k : Nat) : Config.mantissa k ≤ 120194 := by
  unfold Config.mantissa
  split <;> decide

theorem gainOf_of_pos {code : Nat} (h : 1 ≤ code) : gainOf code = Config.mantissa (code % 8) * 2 ^ (code / 8) / 16384 :=
  if_neg (by omega)

/-- The gain of level code 127 is the largest. -/
theorem gainOf_le {code : Nat} (h : code ≤ 127) : gainOf code ≤ topGain := by
  unfold gainOf
  split
  · exact Nat.zero_le _
  · calc Config.mantissa (code % 8) * 2 ^ (code / 8) / 16384
        ≤ 120194 * 2 ^ 15 / 16384 :=
          Nat.div_le_div_right (Nat.mul_le_mul (mantissa_le _) (Nat.pow_le_pow_right (by decide) (by omega)))
      _ = topGain := by norm_num

/-! ## Effective codes (R80, R82) -/

theorem soundingCode_eq (code : Int) : (soundingCode code : Int) = min 127 (max 1 code) := by
  unfold soundingCode clampInt; omega

theorem soundingCode_le (code : Int) : soundingCode code ≤ 127 := by
  have := soundingCode_eq code; omega

theorem effectiveCode_silent {m : Mix} {d : Send} (h : d.level = 0 ∨ d.mute = true) : effectiveCode m d = 0 := if_pos h

theorem effectiveCode_sounding {m : Mix} {d : Send} (level : d.level ≠ 0) (mute : d.mute = false) :
    effectiveCode m d = soundingCode (d.level + if d.self then m.self else m.others) :=
  if_neg (by simp [level, mute])

theorem effectiveCode_le (m : Mix) (d : Send) : effectiveCode m d ≤ 127 := by
  unfold effectiveCode
  split
  · exact Nat.zero_le _
  · exact soundingCode_le _

theorem effectiveMaster_le (m : Mix) : effectiveMaster m ≤ 127 := by
  unfold effectiveMaster
  split
  · exact Nat.zero_le _
  · exact soundingCode_le _

/-! ## Targets (R81, R82) -/

theorem weighted_le (gain : Nat) {weight : Int} (h : weight ≤ 16) : weighted gain weight ≤ gain := by
  have : gain * weight.toNat ≤ gain * 16 := Nat.mul_le_mul_left _ (by omega)
  unfold weighted; omega

theorem weighted_eq (gain : Nat) {weight : Int} (h : 0 ≤ weight) : (weighted gain weight : Int) = gain * weight / 16 := by
  unfold weighted; push_cast; rw [Int.toNat_of_nonneg h]

theorem sendTargets_removing {m : Mix} {d : Send} (h : d.removing = true) : sendTargets m d = (0, 0) := if_pos h

theorem sendTargets_mono {m : Mix} {d : Send} (active : d.removing = false) (mono : m.stereo = false) :
    sendTargets m d = (gainOf (effectiveCode m d), 0) := by simp [sendTargets, active, mono]

theorem sendTargets_stereo {m : Mix} {d : Send} (active : d.removing = false) (stereo : m.stereo = true) :
    sendTargets m d = (weighted (gainOf (effectiveCode m d)) (min 16 (16 - d.balance)),
      weighted (gainOf (effectiveCode m d)) (min 16 (16 + d.balance))) := by simp [sendTargets, active, stereo]

/-- No target is above the largest gain. -/
theorem sendTargets_le (m : Mix) (d : Send) : (sendTargets m d).1 ≤ topGain ∧ (sendTargets m d).2 ≤ topGain := by
  have top := gainOf_le (effectiveCode_le m d)
  cases removing : d.removing with
  | true => rw [sendTargets_removing removing]; exact ⟨Nat.zero_le _, Nat.zero_le _⟩
  | false =>
    cases stereo : m.stereo with
    | false => rw [sendTargets_mono removing stereo]; exact ⟨top, Nat.zero_le _⟩
    | true =>
      rw [sendTargets_stereo removing stereo]
      exact ⟨(weighted_le _ (min_le_left _ _)).trans top, (weighted_le _ (min_le_left _ _)).trans top⟩

/-- The right target of a send is 0 in MONO. -/
theorem sendTargets_mono_right {m : Mix} (mono : m.stereo = false) (d : Send) : (sendTargets m d).2 = 0 := by
  cases removing : d.removing with
  | true => rw [sendTargets_removing removing]
  | false => rw [sendTargets_mono removing mono]

/-- Of its mix a send's targets read kind and offsets only. -/
theorem sendTargets_congr {m m' : Mix} (stereo : m'.stereo = m.stereo) (self : m'.self = m.self) (others : m'.others = m.others)
    (d : Send) : sendTargets m' d = sendTargets m d := by
  unfold sendTargets effectiveCode
  rw [stereo, self, others]

theorem masterTargetOf_on {m : Mix} (h : m.state = .on) : masterTargetOf m = gainOf (effectiveMaster m) := by
  rw [masterTargetOf, h]

theorem masterTargetOf_not_on {m : Mix} (h : m.state ≠ .on) : masterTargetOf m = 0 := by
  unfold masterTargetOf
  split
  · exact absurd (by assumption) h
  · rfl
  · rfl

theorem masterTargetOf_le (m : Mix) : masterTargetOf m ≤ topGain := by
  by_cases h : m.state = .on
  · rw [masterTargetOf_on h]; exact gainOf_le (effectiveMaster_le m)
  · rw [masterTargetOf_not_on h]; exact Nat.zero_le _

/-! ## The statement -/

/-- Settles O30. -/
theorem gainsAndTargets : Obligations.GainsAndTargets := by
  unfold Obligations.GainsAndTargets
  refine ⟨rfl, rfl, rfl, rfl, fun code low high => ?_, fun code high => gainOf_le high, fun m d => ⟨effectiveCode_silent, ?_⟩,
    fun m d => ⟨sendTargets_removing, sendTargets_mono, fun active stereo balance => ?_⟩,
    fun m => ⟨masterTargetOf_not_on, fun on silent => ?_, fun on sounding => ?_⟩⟩
  · rw [gainOf_of_pos low, mantissa_eq (Nat.mod_lt _ (by decide))]
  · intro level mute
    rw [effectiveCode_sounding level mute, soundingCode_eq]
  · obtain ⟨low, high⟩ := balance
    rw [sendTargets_stereo active stereo]
    exact ⟨weighted_eq _ (by omega), weighted_eq _ (by omega)⟩
  · rw [masterTargetOf_on on, effectiveMaster, if_pos silent]; rfl
  · refine ⟨_, masterTargetOf_on on, ?_⟩
    rw [effectiveMaster, if_neg sounding, soundingCode_eq]

end Sys2Proof.Machine
end

section
/-! What makes a mix sound: the ranges of its record and of its send list, targets that are those of the rules at present, and
what OFF means for it (R76 to R83); and the edits of the send list that keep it so. -/

namespace Sys2Proof.Machine

/-! ## Records in slot order (R78, R90) -/

section
variable {α : Type} {slotOf : α → Fin 48} {v : α} {l : List α}

theorem insertBySlot_perm (slotOf : α → Fin 48) (v : α) (l : List α) : (insertBySlot slotOf v l).Perm (v :: l) := by
  obtain ⟨before, after, rfl, inserted, _, _⟩ := insertBySlot_split slotOf v l
  rw [inserted]; exact List.perm_middle

theorem insertBySlot_length (slotOf : α → Fin 48) (v : α) (l : List α) : (insertBySlot slotOf v l).length = l.length + 1 :=
  (insertBySlot_perm slotOf v l).length_eq

theorem mem_insertBySlot {x : α} : x ∈ insertBySlot slotOf v l ↔ x = v ∨ x ∈ l :=
  (insertBySlot_perm slotOf v l).mem_iff.trans List.mem_cons

/-- A record on a slot that the list does not hold keeps the list in slot order. -/
theorem insertBySlot_order (order : (l.map slotOf).Pairwise (· < ·)) (new : ∀ x ∈ l, slotOf x ≠ slotOf v) :
    ((insertBySlot slotOf v l).map slotOf).Pairwise (· < ·) := by
  rw [List.pairwise_map] at order ⊢
  induction l with
  | nil => exact List.pairwise_singleton _ _
  | cons d rest ih =>
    obtain ⟨first, others⟩ := List.pairwise_cons.mp order
    unfold insertBySlot
    split
    · rename_i low
      refine List.pairwise_cons.mpr ⟨fun x mem => ?_, order⟩
      rcases List.mem_cons.mp mem with rfl | mem
      · exact low
      · exact low.trans (first x mem)
    · rename_i high
      have after : slotOf d < slotOf v := lt_of_le_of_ne (not_lt.mp high) (new d (List.mem_cons_self))
      refine List.pairwise_cons.mpr ⟨fun x mem => ?_, ih others fun x mem => new x (List.mem_cons_of_mem _ mem)⟩
      rcases mem_insertBySlot.mp mem with rfl | mem
      · exact after
      · exact first x mem

end

/-! ## The relations -/

/-- The settings that mix records and mix entries share, in range (R76, R121). -/
structure SettingsInRange (master ceiling release : Nat) : Prop where
  master : master ≤ 127
  ceilingLow : 64 ≤ ceiling
  ceilingHigh : ceiling ≤ 112
  releaseLow : 1 ≤ release
  releaseHigh : release ≤ 4096

/-- The trims of a mix in range (R76). -/
structure TrimsInRange (v s o : Int) (dim : Option Int) : Prop where
  volume : TrimInRange v
  self : TrimInRange s
  others : TrimInRange o
  saved : ∀ t ∈ dim.toList, TrimInRange t

/-- The ranges of a send in a mix of a kind; in MONO its right current is 0. -/
structure Send.Bounded (stereo : Bool) (d : Send) : Prop where
  level : d.level ≤ 127
  balance : TrimInRange d.balance
  left : d.currentLeft ≤ topGain
  right : d.currentRight ≤ topGain
  mono : stereo = false → d.currentRight = 0

/-- The send list of a mix of a kind (R78). -/
structure SendsBounded (stereo : Bool) (l : List Send) : Prop where
  length : l.length ≤ 24
  order : (l.map Send.slot).Pairwise (· < ·)
  each : ∀ d ∈ l, d.Bounded stereo

/-- The ranges of a mix record and of its send list. -/
structure Mix.Bounded (m : Mix) : Prop where
  settings : SettingsInRange m.master m.ceiling m.release
  click : m.click ≤ 127
  trims : TrimsInRange m.volume m.self m.others m.dim
  masterCurrent : m.masterCurrent ≤ topGain
  sends : SendsBounded m.stereo m.sends

/-- The targets of a send are those that R81 gives at present. -/
def Send.Aimed (m : Mix) (d : Send) : Prop := (d.targetLeft, d.targetRight) = sendTargets m d

/-- The targets of a mix are those of the rules at present (R83). -/
structure Mix.Aimed (m : Mix) : Prop where
  master : m.masterTarget = masterTargetOf m
  sends : ∀ d ∈ m.sends, d.Aimed m

/-- What OFF means for a mix (R76). -/
def Mix.OffIsStill (m : Mix) : Prop := m.state = .off → m.masterCurrent = 0 ∧ ∀ d ∈ m.sends, d.removing = false

/-- A sound mix by its parts. -/
structure Mix.Fit (m : Mix) : Prop where
  bounded : m.Bounded
  aimed : m.Aimed
  off : m.OffIsStill

theorem Mix.sound_iff {m : Mix} : m.Sound ↔ m.Fit := by
  constructor
  · rintro ⟨master, c1, c2, r1, r2, click, volume, self, others, saved, current, target, length, order, sends, off⟩
    refine ⟨⟨⟨master, c1, c2, r1, r2⟩, click, ⟨volume, self, others, saved⟩, current, length, order, fun d mem => ?_⟩,
      ⟨target, fun d mem => ?_⟩, off⟩
    · obtain ⟨level, balance, left, right, _, mono⟩ := sends d mem
      exact ⟨level, balance, left, right, mono⟩
    · obtain ⟨_, _, _, _, aimed, _⟩ := sends d mem
      exact aimed
  · rintro ⟨⟨⟨master, c1, c2, r1, r2⟩, click, ⟨volume, self, others, saved⟩, current, length, order, each⟩, ⟨target, aimed⟩, off⟩
    refine ⟨master, c1, c2, r1, r2, click, volume, self, others, saved, current, target, length, order, fun d mem => ?_, off⟩
    obtain ⟨level, balance, left, right, mono⟩ := each d mem
    exact ⟨level, balance, left, right, aimed d mem, mono⟩

/-- A mix as an engine at rest has it: it does not fade and has no REMOVING send (R85, R93, R99). -/
structure Mix.AtRest (m : Mix) : Prop where
  state : m.state ≠ .fading
  sends : ∀ d ∈ m.sends, d.removing = false

/-! ## Send lists -/

theorem SendsBounded.sublist {stereo : Bool} {l l' : List Send} (h : SendsBounded stereo l) (sub : l'.Sublist l) :
    SendsBounded stereo l' :=
  ⟨sub.length_le.trans h.length, h.order.sublist (sub.map _), fun d mem => h.each d (sub.subset mem)⟩

/-- An edit of each send that leaves its slot. -/
theorem SendsBounded.map {stereo stereo' : Bool} {l : List Send} {f : Send → Send} (h : SendsBounded stereo l)
    (slot : ∀ d, (f d).slot = d.slot) (each : ∀ d ∈ l, d.Bounded stereo → (f d).Bounded stereo') :
    SendsBounded stereo' (l.map f) := by
  refine ⟨by rw [List.length_map]; exact h.length, ?_, fun d mem => ?_⟩
  · rw [List.map_map, show Send.slot ∘ f = Send.slot from funext slot]; exact h.order
  · obtain ⟨d, here, rfl⟩ := List.mem_map.mp mem
    exact each d here (h.each d here)

theorem SendsBounded.insert {stereo : Bool} {l : List Send} {v : Send} (h : SendsBounded stereo l) (room : l.length < 24)
    (new : ∀ x ∈ l, x.slot ≠ v.slot) (bounded : v.Bounded stereo) : SendsBounded stereo (insertBySlot Send.slot v l) := by
  refine ⟨by rw [insertBySlot_length]; exact room, insertBySlot_order h.order new, fun d mem => ?_⟩
  rcases mem_insertBySlot.mp mem with rfl | mem
  · exact bounded
  · exact h.each d mem

/-! ## Targets recomputed (R83) -/

@[simp] theorem Send.retarget_slot (m : Mix) (d : Send) : (d.retarget m).slot = d.slot := rfl
@[simp] theorem Send.retarget_removing (m : Mix) (d : Send) : (d.retarget m).removing = d.removing := rfl

theorem Send.retarget_aimed (m : Mix) (d : Send) : (d.retarget m).Aimed m := rfl

theorem Send.Bounded.retarget {stereo : Bool} {d : Send} (h : d.Bounded stereo) (m : Mix) : (d.retarget m).Bounded stereo :=
  ⟨h.level, h.balance, h.left, h.right, h.mono⟩

theorem Send.Aimed.congr {m m' : Mix} {d : Send} (h : d.Aimed m) (stereo : m'.stereo = m.stereo) (self : m'.self = m.self)
    (others : m'.others = m.others) : d.Aimed m' :=
  h.trans (sendTargets_congr stereo self others d).symm

theorem Mix.retarget_eq (m : Mix) :
    m.retarget = { m with masterTarget := masterTargetOf m, sends := m.sends.map (Send.retarget m) } := rfl

theorem Mix.Bounded.retarget {m : Mix} (h : m.Bounded) : m.retarget.Bounded :=
  ⟨h.settings, h.click, h.trims, h.masterCurrent,
   h.sends.map (fun _ => rfl) fun _ _ bounded => bounded.retarget m⟩

theorem Mix.retarget_aimed (m : Mix) : m.retarget.Aimed := by
  refine ⟨rfl, fun d mem => ?_⟩
  rw [Mix.retarget_eq] at mem
  obtain ⟨d, _, rfl⟩ := List.mem_map.mp mem
  exact (Send.retarget_aimed m d).congr rfl rfl rfl

theorem forall_map_removing {l : List Send} {f : Send → Send} (same : ∀ d, (f d).removing = d.removing)
    (h : ∀ d ∈ l, d.removing = false) : ∀ d ∈ l.map f, d.removing = false := by
  intro d mem
  obtain ⟨d, here, rfl⟩ := List.mem_map.mp mem
  rw [same]; exact h d here

theorem Mix.OffIsStill.mapSends {m : Mix} (h : m.OffIsStill) {f : Send → Send} (same : ∀ d, (f d).removing = d.removing) :
    ({ m with sends := m.sends.map f } : Mix).OffIsStill :=
  fun off => ⟨(h off).1, forall_map_removing same (h off).2⟩

theorem Mix.OffIsStill.retarget {m : Mix} (h : m.OffIsStill) : m.retarget.OffIsStill := h.mapSends fun _ => rfl

theorem Mix.Bounded.retarget_fit {m : Mix} (h : m.Bounded) (off : m.OffIsStill) : m.retarget.Fit :=
  ⟨h.retarget, m.retarget_aimed, off.retarget⟩

/-- A mix that is aimed but for its master target. -/
theorem Mix.Bounded.retargetMaster_fit {m : Mix} (h : m.Bounded) (sends : ∀ d ∈ m.sends, d.Aimed m) (off : m.OffIsStill) :
    m.retargetMaster.Fit :=
  ⟨⟨h.settings, h.click, h.trims, h.masterCurrent, h.sends⟩,
   ⟨rfl, fun d mem => (sends d mem).congr rfl rfl rfl⟩, off⟩

/-! ## Currents cut to targets (R105) -/

theorem Send.cut_bounded {m : Mix} {d : Send} (h : d.Bounded m.stereo) (aimed : d.Aimed m) : d.cut.Bounded m.stereo := by
  obtain ⟨left, right⟩ := Prod.ext_iff.mp aimed
  obtain ⟨lowLeft, lowRight⟩ := sendTargets_le m d
  exact ⟨h.level, h.balance, (le_of_eq left).trans lowLeft, (le_of_eq right).trans lowRight,
    fun mono => right.trans (sendTargets_mono_right mono d)⟩

theorem Mix.Bounded.cutSends {m : Mix} (h : m.Bounded) (aimed : m.Aimed) : m.cutSends.Bounded :=
  ⟨h.settings, h.click, h.trims, h.masterCurrent,
   h.sends.map (fun _ => rfl) fun d mem bounded => Send.cut_bounded bounded (aimed.sends d mem)⟩

theorem Mix.Aimed.cutSends {m : Mix} (h : m.Aimed) : m.cutSends.Aimed := by
  refine ⟨h.master, fun d mem => ?_⟩
  obtain ⟨d, here, rfl⟩ := List.mem_map.mp mem
  exact (h.sends d here).congr rfl rfl rfl

theorem Mix.Fit.cutSends {m : Mix} (h : m.Fit) : m.cutSends.Fit :=
  ⟨h.bounded.cutSends h.aimed, h.aimed.cutSends, h.off.mapSends fun _ => rfl⟩

/-! ## Other send lists -/

/-- A mix with another send list. -/
theorem Mix.Fit.withSends {m : Mix} (h : m.Fit) {sends : List Send} (bounded : SendsBounded m.stereo sends)
    (aimed : ∀ d ∈ sends, d.Aimed m) (off : m.state = .off → ∀ d ∈ sends, d.removing = false) :
    ({ m with sends := sends } : Mix).Fit :=
  ⟨⟨h.bounded.settings, h.bounded.click, h.bounded.trims, h.bounded.masterCurrent, bounded⟩,
   ⟨h.aimed.master, fun d mem => (aimed d mem).congr rfl rfl rfl⟩, fun is => ⟨(h.off is).1, off is⟩⟩

/-- A mix with some of its sends. -/
theorem Mix.Fit.sublistSends {m : Mix} (h : m.Fit) {sends : List Send} (sub : sends.Sublist m.sends) :
    ({ m with sends := sends } : Mix).Fit :=
  h.withSends (h.bounded.sends.sublist sub) (fun d mem => h.aimed.sends d (sub.subset mem))
    fun is d mem => (h.off is).2 d (sub.subset mem)

/-- A mix with some sends changed, each into one that is in range and aimed. -/
theorem Mix.Fit.changeSends {m : Mix} (h : m.Fit) {f : Send → Send} (slot : ∀ d, (f d).slot = d.slot)
    (bounded : ∀ d ∈ m.sends, d.Bounded m.stereo → (f d).Bounded m.stereo)
    (aimed : ∀ d ∈ m.sends, d.Aimed m → (f d).Aimed m)
    (removing : m.state = .off → ∀ d ∈ m.sends, d.removing = false → (f d).removing = false) :
    ({ m with sends := m.sends.map f } : Mix).Fit := by
  refine h.withSends (h.bounded.sends.map slot bounded) (fun d mem => ?_) fun is d mem => ?_
  · obtain ⟨d, here, rfl⟩ := List.mem_map.mp mem
    exact aimed d here (h.aimed.sends d here)
  · obtain ⟨d, here, rfl⟩ := List.mem_map.mp mem
    exact removing is d here ((h.off is).2 d here)

end Sys2Proof.Machine
end

section
/-! The edits of a live mix (R84 to R99): what MIX_SET, SET_TRIM and a change of kind make of a record, and that every edit keeps
a mix sound, and at rest where the engine is. -/

namespace Sys2Proof.Machine

/-! ## Values in range -/

theorem TrimInRange.clamp (t : Int) : TrimInRange (clampInt (-16) 16 t) := by
  unfold clampInt TrimInRange; omega

theorem levelCode_le (b : Byte) : levelCode b ≤ 127 := by rw [levelCode_eq]; exact min_le_left _ _

/-- The numbers of MIX_SET are clamped into their ranges (R84, R125). -/
theorem SettingsInRange.clamped (master ceiling : Byte) (release : Nat) :
    SettingsInRange (levelCode master) (clampNat 64 112 ceiling.toNat) (clampNat 1 4096 release) := by
  refine ⟨levelCode_le _, ?_, ?_, ?_, ?_⟩
  all_goals unfold clampNat; omega

/-! ## Edits that leave the state of a mix and which sends are REMOVING -/

/-- Two records in one state, whose sends are REMOVING alike. -/
structure Mix.SameShape (m m' : Mix) : Prop where
  state : m'.state = m.state
  removing : m'.sends.map Send.removing = m.sends.map Send.removing

theorem Mix.SameShape.length {m m' : Mix} (h : m.SameShape m') : m'.sends.length = m.sends.length := by
  simpa using congrArg List.length h.removing

theorem Mix.AtRest.sameShape {m m' : Mix} (h : m.AtRest) (same : m.SameShape m') : m'.AtRest := by
  refine ⟨same.state ▸ h.state, fun d mem => ?_⟩
  have flag := List.mem_map_of_mem (f := Send.removing) mem
  rw [same.removing] at flag
  obtain ⟨d', here, eq⟩ := List.mem_map.mp flag
  exact eq.symm.trans (h.sends d' here)

theorem Mix.SameShape.mapSends {m m' : Mix} {f : Send → Send} (state : m'.state = m.state) (sends : m'.sends = m.sends.map f)
    (same : ∀ d, (f d).removing = d.removing) : m.SameShape m' :=
  ⟨state, by rw [sends, List.map_map]; exact List.map_congr_left fun d _ => same d⟩

/-! ## MIX_SET (R84 to R86) -/

/-- What a change of kind makes of a send's currents: copied to the right into STEREO unless the mix was OFF, 0 on the right
into MONO (R86; log 11). -/
def Send.turned (m : Mix) (stereo : Bool) (d : Send) : Send :=
  if m.stereo = false ∧ stereo = true ∧ m.state ≠ .off then { d with currentRight := d.currentLeft }
  else if m.stereo = true ∧ stereo = false then { d with currentRight := 0 }
  else d

@[simp] theorem Send.turned_slot (m : Mix) (stereo : Bool) (d : Send) : (d.turned m stereo).slot = d.slot := by
  unfold Send.turned; split
  · rfl
  · split <;> rfl

@[simp] theorem Send.turned_removing (m : Mix) (stereo : Bool) (d : Send) : (d.turned m stereo).removing = d.removing := by
  unfold Send.turned; split
  · rfl
  · split <;> rfl

/-- Of a send its targets read neither currents nor targets. -/
theorem sendTargets_turned (m m' : Mix) (stereo : Bool) (d : Send) : sendTargets m' (d.turned m stereo) = sendTargets m' d := by
  unfold Send.turned; split
  · rfl
  · split <;> rfl

/-- A mix that keeps its kind, and one that is OFF on the way to STEREO, keep their currents. -/
theorem Send.turned_eq_id {m : Mix} {stereo : Bool} (h : m.stereo = stereo ∨ stereo = true ∧ m.state = .off) :
    Send.turned m stereo = id := by
  funext d
  rcases h with rfl | ⟨rfl, off⟩
  · cases before : m.stereo <;> simp [Send.turned, before]
  · simp [Send.turned, off]

theorem Mix.changeKind_eq (m : Mix) (stereo : Bool) :
    m.changeKind stereo = { m with stereo := stereo, sends := m.sends.map (Send.turned m stereo) } := by
  unfold Mix.changeKind
  congr 1
  split
  · rename_i same
    rw [Send.turned_eq_id (.inl same), List.map_id]
  · rename_i changes
    split
    · rename_i up
      split
      · rename_i off
        rw [Send.turned_eq_id (.inr ⟨up, off⟩), List.map_id]
      · rename_i on
        have mono : m.stereo = false := by simpa [up] using changes
        exact List.map_congr_left fun d _ => (if_pos ⟨mono, up, on⟩).symm
    · rename_i down
      have mono : stereo = false := by simpa using down
      have was : m.stereo = true := by simpa [mono] using changes
      exact List.map_congr_left fun d _ => by simp [Send.turned, was, mono]

theorem Send.Bounded.turned {m : Mix} {d : Send} (h : d.Bounded m.stereo) (stereo : Bool) : (d.turned m stereo).Bounded stereo := by
  unfold Send.turned
  split
  · rename_i copies
    exact ⟨h.level, h.balance, h.left, h.left, fun mono => absurd (copies.2.1.symm.trans mono) nofun⟩
  · split
    · exact ⟨h.level, h.balance, h.left, Nat.zero_le _, fun _ => rfl⟩
    · rename_i notMono
      refine ⟨h.level, h.balance, h.left, h.right, fun mono => h.mono ?_⟩
      simpa [mono] using notMono

/-- A change of kind keeps the ranges. -/
theorem Mix.Bounded.changeKind {m : Mix} (h : m.Bounded) (stereo : Bool) : (m.changeKind stereo).Bounded := by
  rw [Mix.changeKind_eq]
  exact ⟨h.settings, h.click, h.trims, h.masterCurrent,
    h.sends.map (Send.turned_slot m stereo) fun _ _ bounded => bounded.turned stereo⟩

/-- The record that MIX_SET asks for, before its sends are settled. -/
def Mix.asked (m : Mix) (next : MixState) (stereo : Bool) (master ceiling release click : Nat) : Mix :=
  { m with state := next, stereo := stereo, master := master, ceiling := ceiling, release := release, click := click }

/-- A send after a change of kind, aimed for a record. -/
def Send.turnedFor (m settled : Mix) (d : Send) : Send := (d.turned m settled.stereo).retarget settled

@[simp] theorem Send.turnedFor_removing (m settled : Mix) (d : Send) : (d.turnedFor m settled).removing = d.removing :=
  Send.turned_removing m settled.stereo d

/-- MIX_SET, by the state before the request and the state that it moves the mix to (R85). -/
theorem Mix.set_cases (m : Mix) (mixing on stereo : Bool) (master ceiling release click : Nat) :
    let next := requestedState mixing m.state on
    let settled := m.asked next stereo master ceiling release click
    (m.state = .off ∧ next = .on ∧ m.set mixing on stereo master ceiling release click =
        { settled with masterTarget := masterTargetOf settled, sends := (m.sends.map (Send.turnedFor m settled)).map Send.cut })
      ∨ (m.state = .on ∧ next = .off ∧ m.set mixing on stereo master ceiling release click =
        { settled with masterCurrent := 0, masterTarget := 0
                       sends := (m.sends.map (Send.turnedFor m settled)).filter fun d => !d.removing })
      ∨ (¬ (m.state = .off ∧ next = .on) ∧ ¬ (m.state = .on ∧ next = .off) ∧
        m.set mixing on stereo master ceiling release click =
        { settled with masterTarget := masterTargetOf settled, sends := m.sends.map (Send.turnedFor m settled) }) := by
  intro next settled
  have kind := Mix.changeKind_eq m stereo
  have list : (m.sends.map (Send.turned m stereo)).map (Send.retarget settled) = m.sends.map (Send.turnedFor m settled) := by
    rw [List.map_map]; rfl
  by_cases up : m.state = .off ∧ next = .on
  · refine .inl ⟨up.1, up.2, ?_⟩
    rw [Mix.set, if_pos up, kind, ← list]; rfl
  · by_cases down : m.state = .on ∧ next = .off
    · refine .inr (.inl ⟨down.1, down.2, ?_⟩)
      have off : settled.state = .off := down.2
      rw [Mix.set, if_neg up, if_pos down, kind, ← list, Mix.turnedOff, ← off]; rfl
    · refine .inr (.inr ⟨up, down, ?_⟩)
      rw [Mix.set, if_neg up, if_neg down, kind, ← list]; rfl

/-- A mix is moved to OFF from OFF, or from ON by an engine that does not mix. -/
theorem requestedState_eq_off {mixing on : Bool} {before : MixState} (h : requestedState mixing before on = .off) :
    before = .off ∨ before = .on := by
  cases on with
  | true => exact absurd h nofun
  | false =>
    cases before with
    | off => exact .inl rfl
    | on => exact .inr rfl
    | fading => exact absurd h nofun

theorem Mix.turnedOff_fit {m : Mix} (bounded : m.Bounded) (aimed : m.Aimed) : m.turnedOff.Fit := by
  refine ⟨⟨bounded.settings, bounded.click, bounded.trims, Nat.zero_le _, bounded.sends.sublist List.filter_sublist⟩,
    ⟨rfl, fun d mem => ?_⟩, fun _ => ⟨rfl, fun d mem => ?_⟩⟩
  · exact (aimed.sends d (List.mem_filter.mp mem).1).congr rfl rfl rfl
  · simpa using (List.mem_filter.mp mem).2

/-- MIX_SET keeps a mix sound. -/
theorem Mix.Fit.set {m : Mix} (h : m.Fit) (mixing on stereo : Bool) {master ceiling release click : Nat}
    (settings : SettingsInRange master ceiling release) (codes : click ≤ 127) :
    (m.set mixing on stereo master ceiling release click).Fit := by
  unfold Mix.set
  extract_lets next kinded m'
  have bounded : m'.Bounded :=
    have kind := h.bounded.changeKind stereo
    Mix.Bounded.retarget (m := { kinded with state := next }) ⟨settings, codes, kind.trims, kind.masterCurrent, kind.sends⟩
  have aimed : m'.Aimed := Mix.retarget_aimed _
  split
  · rename_i up
    exact Mix.Fit.cutSends ⟨bounded, aimed, fun off => absurd (up.2.symm.trans off) nofun⟩
  · split
    · exact Mix.turnedOff_fit bounded aimed
    · rename_i down
      refine ⟨bounded, aimed, Mix.OffIsStill.retarget fun off => ?_⟩
      have still := h.off ((requestedState_eq_off off).resolve_right fun on => down ⟨on, off⟩)
      have list : kinded.sends = m.sends.map (Send.turned m stereo) := congrArg Mix.sends (m.changeKind_eq stereo)
      refine ⟨still.1, ?_⟩
      rw [list]
      exact forall_map_removing (Send.turned_removing m stereo) still.2

/-- MIX_SET frees sends or keeps them; an engine at rest moves no mix to FADING. -/
theorem Mix.set_shape (m : Mix) (mixing on stereo : Bool) (master ceiling release click : Nat) :
    (m.set mixing on stereo master ceiling release click).state = requestedState mixing m.state on
      ∧ ((m.set mixing on stereo master ceiling release click).sends.map Send.removing).Sublist (m.sends.map Send.removing) := by
  have flags : ∀ settled, (m.sends.map (Send.turnedFor m settled)).map Send.removing = m.sends.map Send.removing := fun settled =>
    List.map_map.trans (List.map_congr_left fun d _ => Send.turnedFor_removing m settled d)
  rcases Mix.set_cases m mixing on stereo master ceiling release click with ⟨_, _, eq⟩ | ⟨_, _, eq⟩ | ⟨_, _, eq⟩
  · rw [eq]
    refine ⟨rfl, ?_⟩
    rw [List.map_map, show Send.removing ∘ Send.cut = Send.removing from rfl, flags]
  · rw [eq]
    refine ⟨rfl, ?_⟩
    rw [← flags]; exact List.filter_sublist.map _
  · rw [eq]
    refine ⟨rfl, ?_⟩
    rw [flags]

theorem Mix.set_length (m : Mix) (mixing on stereo : Bool) (master ceiling release click : Nat) :
    (m.set mixing on stereo master ceiling release click).sends.length ≤ m.sends.length := by
  simpa using (m.set_shape mixing on stereo master ceiling release click).2.length_le

theorem Mix.AtRest.set {m : Mix} (h : m.AtRest) (on stereo : Bool) (master ceiling release click : Nat) :
    (m.set false on stereo master ceiling release click).AtRest := by
  obtain ⟨state, sends⟩ := m.set_shape false on stereo master ceiling release click
  refine ⟨fun fading => ?_, fun d mem => ?_⟩
  · rw [state] at fading
    cases before : m.state with
    | off => rw [before] at fading; cases on <;> cases fading
    | on => rw [before] at fading; cases on <;> cases fading
    | fading => exact h.state before
  · obtain ⟨d', here, eq⟩ := List.mem_map.mp (sends.subset (List.mem_map_of_mem mem))
    exact eq.symm.trans (h.sends d' here)

/-! ## Sends of a live mix (R89 to R93) -/

/-- The record on a slot changed into one that is in range and aimed. -/
theorem Mix.Fit.updateSend {m : Mix} (h : m.Fit) (i : Fin 48) {f : Send → Send} (slot : ∀ d, (f d).slot = d.slot)
    (bounded : ∀ d, d.Bounded m.stereo → (f d).Bounded m.stereo) (aimed : ∀ d, (f d).Aimed m)
    (removing : m.state = .off → ∀ d, d.removing = false → (f d).removing = false) : (m.updateSend i f).Fit := by
  refine h.changeSends (fun d => ?_) (fun d _ in' => ?_) (fun d _ in' => ?_) fun off d _ in' => ?_
  · split
    · exact slot d
    · rfl
  · split
    · exact bounded d in'
    · exact in'
  · split
    · exact aimed d
    · exact in'
  · split
    · exact removing off d in'
    · exact in'

theorem Mix.updateSend_length (m : Mix) (i : Fin 48) (f : Send → Send) : (m.updateSend i f).sends.length = m.sends.length :=
  List.length_map _

theorem Mix.AtRest.updateSend {m : Mix} (h : m.AtRest) (i : Fin 48) {f : Send → Send}
    (removing : ∀ d, d.removing = false → (f d).removing = false) : (m.updateSend i f).AtRest := by
  refine ⟨h.state, fun d mem => ?_⟩
  obtain ⟨d, here, rfl⟩ := List.mem_map.mp mem
  split
  · exact removing d (h.sends d here)
  · exact h.sends d here

theorem Mix.Fit.reviveSend {m : Mix} (h : m.Fit) (i : Fin 48) {level : Nat} {balance : Int} (code : level ≤ 127)
    (place : TrimInRange balance) (self mute : Bool) : (m.reviveSend i level balance self mute).Fit :=
  h.updateSend i (fun _ => rfl) (fun _ old => ⟨code, place, old.left, old.right, old.mono⟩)
    (fun _ => Send.retarget_aimed m _) fun _ _ _ => rfl

theorem SendChange.apply_bounded {c : SendChange} {stereo : Bool} {d : Send} (level : ∀ v ∈ c.level, v ≤ 127)
    (balance : ∀ v ∈ c.balance, TrimInRange v) (h : d.Bounded stereo) : (c.apply d).Bounded stereo := by
  refine ⟨?_, ?_, h.left, h.right, h.mono⟩
  · show c.level.getD d.level ≤ 127
    cases selected : c.level with
    | none => exact h.level
    | some v => exact level v selected
  · show TrimInRange (c.balance.getD d.balance)
    cases selected : c.balance with
    | none => exact h.balance
    | some v => exact balance v selected

theorem Mix.Fit.setSend {m : Mix} (h : m.Fit) (i : Fin 48) {c : SendChange} (level : ∀ v ∈ c.level, v ≤ 127)
    (balance : ∀ v ∈ c.balance, TrimInRange v) : (m.updateSend i fun d => (c.apply d).retarget m).Fit :=
  h.updateSend i (fun _ => rfl) (fun _ old => (SendChange.apply_bounded level balance old).retarget m)
    (fun _ => Send.retarget_aimed m _) fun _ _ => id

theorem Mix.Fit.markRemoving {m : Mix} (h : m.Fit) (on : m.state ≠ .off) (i : Fin 48) :
    (m.updateSend i fun d => ({ d with removing := true } : Send).retarget m).Fit :=
  h.updateSend i (fun _ => rfl) (fun _ old => ⟨old.level, old.balance, old.left, old.right, old.mono⟩)
    (fun _ => Send.retarget_aimed m _) fun off => absurd off on

theorem Mix.Fit.dropSend {m : Mix} (h : m.Fit) (i : Fin 48) : (m.dropSend i).Fit := h.sublistSends List.filter_sublist

theorem Mix.AtRest.dropSend {m : Mix} (h : m.AtRest) (i : Fin 48) : (m.dropSend i).AtRest :=
  ⟨h.state, fun d mem => h.sends d (List.mem_filter.mp mem).1⟩

theorem Mix.sendOn_isSome {m : Mix} {k : Fin 48} : (m.sendOn k).isSome = true ↔ ∃ d ∈ m.sends, d.slot = k := by
  simp [Mix.sendOn, List.find?_isSome]

theorem Mix.activeOn_isSome {m : Mix} {k : Fin 48} :
    (m.activeOn k).isSome = true ↔ ∃ d ∈ m.sends, d.slot = k ∧ d.removing = false := by
  simp [Mix.activeOn, List.find?_isSome]

theorem Mix.Fit.insertSend {m : Mix} (h : m.Fit) {i : Fin 48} (free : ¬ (m.sendOn i).isSome = true) (room : m.sends.length < 24)
    {level : Nat} {balance : Int} (code : level ≤ 127) (place : TrimInRange balance) (self mute : Bool) :
    (m.insertSend i level balance self mute).Fit := by
  have new : ∀ x ∈ m.sends, x.slot ≠ i := fun x mem same => free (Mix.sendOn_isSome.mpr ⟨x, mem, same⟩)
  refine h.withSends (h.bounded.sends.insert room new ⟨code, place, Nat.zero_le _, Nat.zero_le _, fun _ => rfl⟩)
    (fun d mem => ?_) fun off d mem => ?_
  · rcases mem_insertBySlot.mp mem with rfl | here
    · exact Send.retarget_aimed m _
    · exact h.aimed.sends d here
  · rcases mem_insertBySlot.mp mem with rfl | here
    · rfl
    · exact (h.off off).2 d here

theorem Mix.insertSend_length (m : Mix) (i : Fin 48) (level : Nat) (balance : Int) (self mute : Bool) :
    (m.insertSend i level balance self mute).sends.length = m.sends.length + 1 := insertBySlot_length _ _ _

theorem Mix.AtRest.insertSend {m : Mix} (h : m.AtRest) (i : Fin 48) (level : Nat) (balance : Int) (self mute : Bool) :
    (m.insertSend i level balance self mute).AtRest := by
  refine ⟨h.state, fun d mem => ?_⟩
  rcases mem_insertBySlot.mp mem with rfl | here
  · rfl
  · exact h.sends d here

end Sys2Proof.Machine
end

section
/-! Trims, dim and entry into STOPPED (R94 to R96, R99), the requests of packs (R176 to R178), and the mix of a boundary after its
glide (R87, R88, R104): each keeps a mix sound. -/

namespace Sys2Proof.Machine

/-! ## Steps and dim (R94, R95) -/

theorem TrimInRange.stepped (trim step : Int) : TrimInRange (stepped trim step) := .clamp _

/-- Of its mix a send that is REMOVING reads nothing, one that is not self not the self offset, one that is self not the offset of
the others (R80, R81). -/
theorem sendTargets_withSelf {m : Mix} {d : Send} (h : d.self = false ∨ d.removing = true) (v : Int) :
    sendTargets { m with self := v } d = sendTargets m d := by
  rcases h with self | removing
  · simp [sendTargets, effectiveCode, self]
  · rw [sendTargets_removing removing, sendTargets_removing removing]

theorem sendTargets_withOthers {m : Mix} {d : Send} (h : d.self = true ∨ d.removing = true) (v : Int) :
    sendTargets { m with others := v } d = sendTargets m d := by
  rcases h with self | removing
  · simp [sendTargets, effectiveCode, self]
  · rw [sendTargets_removing removing, sendTargets_removing removing]

/-- A mix with trims changed: what the change aims again, and what stays aimed. -/
theorem Mix.Bounded.retargetSends_fit {m : Mix} (h : m.Bounded) {p : Send → Bool} (off : m.OffIsStill)
    (master : m.masterTarget = masterTargetOf m) (aimed : ∀ d ∈ m.sends, p d = false → d.Aimed m) : (m.retargetSends p).Fit := by
  refine ⟨⟨h.settings, h.click, h.trims, h.masterCurrent, h.sends.map (fun d => ?_) fun d _ bounded => ?_⟩,
    ⟨master, fun d mem => ?_⟩, off.mapSends fun d => ?_⟩
  · split <;> rfl
  · split
    · exact bounded.retarget m
    · exact bounded
  · obtain ⟨d, here, rfl⟩ := List.mem_map.mp mem
    refine Send.Aimed.congr (m := m) ?_ rfl rfl rfl
    cases chosen : p d with
    | true => exact Send.retarget_aimed m d
    | false => exact aimed d here chosen
  · split <;> rfl

theorem Mix.Fit.stepVolume {m : Mix} (h : m.Fit) (step : Int) : (m.stepVolume step).Fit := by
  have trims := h.bounded.trims
  unfold Mix.stepVolume
  split
  · rename_i saved dim
    refine ⟨⟨h.bounded.settings, h.bounded.click, ⟨trims.volume, trims.self, trims.others, ?_⟩, h.bounded.masterCurrent,
      h.bounded.sends⟩, ⟨h.aimed.master.trans ?_, fun d mem => (h.aimed.sends d mem).congr rfl rfl rfl⟩, h.off⟩
    · simpa using TrimInRange.stepped saved step
    · simp only [masterTargetOf, effectiveMaster, dim, Option.isSome_some]
  · exact Mix.Bounded.retargetMaster_fit ⟨h.bounded.settings, h.bounded.click,
      ⟨.stepped _ _, trims.self, trims.others, trims.saved⟩, h.bounded.masterCurrent, h.bounded.sends⟩
      (fun d mem => (h.aimed.sends d mem).congr rfl rfl rfl) h.off

theorem Mix.Fit.stepSelf {m : Mix} (h : m.Fit) (step : Int) : (m.stepSelf step).Fit := by
  have trims := h.bounded.trims
  refine Mix.Bounded.retargetSends_fit (m := { m with self := stepped m.self step }) ⟨h.bounded.settings, h.bounded.click,
    ⟨trims.volume, .stepped _ _, trims.others, trims.saved⟩, h.bounded.masterCurrent, h.bounded.sends⟩ h.off h.aimed.master
    fun d mem apart => (h.aimed.sends d mem).trans (sendTargets_withSelf ?_ _).symm
  simpa [imp_iff_not_or] using apart

theorem Mix.Fit.stepOthers {m : Mix} (h : m.Fit) (step : Int) : (m.stepOthers step).Fit := by
  have trims := h.bounded.trims
  refine Mix.Bounded.retargetSends_fit (m := { m with others := stepped m.others step }) ⟨h.bounded.settings, h.bounded.click,
    ⟨trims.volume, trims.self, .stepped _ _, trims.saved⟩, h.bounded.masterCurrent, h.bounded.sends⟩ h.off h.aimed.master
    fun d mem apart => (h.aimed.sends d mem).trans (sendTargets_withOthers ?_ _).symm
  simpa [imp_iff_not_or, or_comm] using apart

/-- Dim set ON in a mix in which it is OFF (R95). -/
theorem Mix.dimOn_of_none {m : Mix} (h : m.dim = none) :
    m.dimOn = { m with
      dim := some m.volume, masterTarget := masterTargetOf { m with dim := some m.volume }
      masterCurrent := if m.state = .on then masterTargetOf { m with dim := some m.volume } else m.masterCurrent } := by
  unfold Mix.dimOn
  rw [h]
  dsimp only [Mix.retargetMaster]
  split <;> rfl

theorem Mix.dimOn_of_some {m : Mix} {saved : Int} (h : m.dim = some saved) : m.dimOn = m := by
  unfold Mix.dimOn; rw [h]

theorem Mix.dimOff_of_none {m : Mix} (h : m.dim = none) : m.dimOff = m := by
  unfold Mix.dimOff; rw [h]

/-- Dim set OFF in a mix in which it is ON: the saved trim returns (R95). -/
theorem Mix.dimOff_of_some {m : Mix} {saved : Int} (h : m.dim = some saved) :
    m.dimOff = ({ m with volume := saved, dim := none } : Mix).retargetMaster := by
  unfold Mix.dimOff; rw [h]

theorem Mix.Fit.dimOn {m : Mix} (h : m.Fit) : m.dimOn.Fit := by
  cases dim : m.dim with
  | some saved => rw [Mix.dimOn_of_some dim]; exact h
  | none =>
    have trims := h.bounded.trims
    rw [Mix.dimOn_of_none dim]
    refine ⟨⟨h.bounded.settings, h.bounded.click, ⟨trims.volume, trims.self, trims.others, ?_⟩, ?_, h.bounded.sends⟩,
      ⟨rfl, fun d mem => (h.aimed.sends d mem).congr rfl rfl rfl⟩, fun off => ⟨?_, (h.off off).2⟩⟩
    · simpa using trims.volume
    · dsimp only; split
      · exact masterTargetOf_le _
      · exact h.bounded.masterCurrent
    · have off' : m.state = .off := off
      simp only [off', reduceCtorEq, if_false]
      exact (h.off off).1

theorem Mix.Fit.dimOff {m : Mix} (h : m.Fit) : m.dimOff.Fit := by
  cases dim : m.dim with
  | none => rw [Mix.dimOff_of_none dim]; exact h
  | some saved =>
    have trims := h.bounded.trims
    rw [Mix.dimOff_of_some dim]
    exact Mix.Bounded.retargetMaster_fit ⟨h.bounded.settings, h.bounded.click,
      ⟨trims.saved saved (by simp [dim]), trims.self, trims.others, nofun⟩, h.bounded.masterCurrent, h.bounded.sends⟩
      (fun d mem => (h.aimed.sends d mem).congr rfl rfl rfl) h.off

/-- A request of a mix's owner keeps the mix sound (R176 to R178). -/
theorem Mix.Fit.packRequest {m : Mix} (h : m.Fit) (r : PackRequest) (value : Int) : (m.packRequest r value).Fit := by
  cases r with
  | volume => exact h.stepVolume value
  | self => exact h.stepSelf value
  | others => exact h.stepOthers value
  | dim => exact h.dimOn
  | undim => exact h.dimOff
  | queryTrims => exact h

theorem Mix.retargetSends_sameShape (m : Mix) (p : Send → Bool) : m.SameShape (m.retargetSends p) :=
  .mapSends rfl rfl fun d => by split <;> rfl

theorem Mix.dimOn_sameShape (m : Mix) : m.SameShape m.dimOn := by
  cases dim : m.dim with
  | some saved => rw [Mix.dimOn_of_some dim]; exact ⟨rfl, rfl⟩
  | none => rw [Mix.dimOn_of_none dim]; exact ⟨rfl, rfl⟩

theorem Mix.dimOff_sameShape (m : Mix) : m.SameShape m.dimOff := by
  cases dim : m.dim with
  | none => rw [Mix.dimOff_of_none dim]; exact ⟨rfl, rfl⟩
  | some saved => rw [Mix.dimOff_of_some dim]; exact ⟨rfl, rfl⟩

theorem Mix.packRequest_sameShape (m : Mix) (r : PackRequest) (value : Int) : m.SameShape (m.packRequest r value) := by
  cases r with
  | volume =>
    show m.SameShape (m.stepVolume value)
    unfold Mix.stepVolume
    split <;> exact ⟨rfl, rfl⟩
  | self =>
    have same := Mix.retargetSends_sameShape { m with self := stepped m.self value } fun d => d.self && !d.removing
    exact ⟨same.state, same.removing⟩
  | others =>
    have same := Mix.retargetSends_sameShape { m with others := stepped m.others value } fun d => !d.self && !d.removing
    exact ⟨same.state, same.removing⟩
  | dim => exact m.dimOn_sameShape
  | undim => exact m.dimOff_sameShape
  | queryTrims => exact ⟨rfl, rfl⟩

/-! ## SET_TRIM (R96) -/

/-- The trims that SET_TRIM writes: the volume goes to the trim that dim leaves in use. -/
def Mix.trimmed (m : Mix) (volume self others : Int) (dim : Bool) : Mix :=
  { m with
    self := self, others := others, dim := if dim then some volume else none
    volume := if m.dim.isSome ∧ dim = true then m.volume else volume }

/-- SET_TRIM whole: the trims, the cut of the master when dim goes ON in an ON mix, the targets. -/
theorem Mix.setTrim_eq (m : Mix) (volume self others : Int) (dim : Bool) :
    m.setTrim volume self others dim = ({ m.trimmed volume self others dim with
      masterCurrent := if m.dim = none ∧ dim = true ∧ m.state = .on then masterTargetOf (m.trimmed volume self others dim)
        else m.masterCurrent } : Mix).retarget := by
  unfold Mix.setTrim
  cases before : m.dim with
  | none =>
    cases dim with
    | false => simp [Mix.trimmed, before]
    | true =>
      dsimp only
      rw [Mix.dimOn_of_none rfl]
      simp only [Mix.trimmed, before, Option.isSome_none, Bool.false_eq_true, and_true, if_false, if_true, true_and]
      rfl
  | some saved =>
    cases dim with
    | true => simp [Mix.trimmed, before]
    | false =>
      dsimp only
      rw [Mix.dimOff_of_some rfl]
      simp only [Mix.trimmed, before, Option.isSome_some, Bool.false_eq_true, and_false, if_false, reduceCtorEq, false_and]
      rfl

theorem Mix.Fit.setTrim {m : Mix} (h : m.Fit) {volume self others : Int} (v : TrimInRange volume) (s : TrimInRange self)
    (o : TrimInRange others) (dim : Bool) : (m.setTrim volume self others dim).Fit := by
  rw [Mix.setTrim_eq]
  refine Mix.Bounded.retarget_fit ⟨h.bounded.settings, h.bounded.click, ⟨?_, s, o, ?_⟩, ?_, h.bounded.sends⟩
    fun off => ⟨?_, (h.off off).2⟩
  · dsimp only [Mix.trimmed]; split
    · exact h.bounded.trims.volume
    · exact v
  · dsimp only [Mix.trimmed]; split
    · simpa using v
    · exact nofun
  · dsimp only; split
    · exact masterTargetOf_le _
    · exact h.bounded.masterCurrent
  · have off' : m.state = .off := off
    simp only [off', reduceCtorEq, and_false, if_false]
    exact (h.off off).1

theorem Mix.setTrim_sameShape (m : Mix) (volume self others : Int) (dim : Bool) :
    m.SameShape (m.setTrim volume self others dim) := by
  rw [Mix.setTrim_eq]
  exact .mapSends rfl rfl fun _ => rfl

/-! ## Entry into STOPPED (R99) -/

theorem Mix.Fit.stopped {m : Mix} (h : m.Fit) : m.stopped.Fit := by
  have list : SendsBounded m.stereo (m.sends.filter fun d => !d.removing) := h.bounded.sends.sublist List.filter_sublist
  refine ⟨⟨h.bounded.settings, h.bounded.click, h.bounded.trims, Nat.zero_le _, list.map (fun _ => rfl) fun d _ bounded => ?_⟩,
    ⟨?_, fun d mem => ?_⟩, fun _ => ⟨rfl, forall_map_removing (fun _ => rfl) fun d mem => ?_⟩⟩
  · exact ⟨bounded.level, bounded.balance, Nat.zero_le _, Nat.zero_le _, fun _ => rfl⟩
  · show (if m.state = .fading then 0 else m.masterTarget) = masterTargetOf m.stopped
    split
    · rename_i fading
      exact (masterTargetOf_not_on (by simp [Mix.stopped, fading])).symm
    · rename_i still
      rw [h.aimed.master]
      simp [masterTargetOf, effectiveMaster, Mix.stopped, Mix.dropRemoving, still]
  · obtain ⟨d, here, rfl⟩ := List.mem_map.mp mem
    exact (h.aimed.sends d (List.mem_filter.mp here).1).congr rfl rfl rfl
  · simpa using (List.mem_filter.mp mem).2

theorem Mix.stopped_atRest (m : Mix) : m.stopped.AtRest := by
  refine ⟨fun fading => ?_, forall_map_removing (fun _ => rfl) fun d mem => ?_⟩
  · change (if m.state = .fading then MixState.off else m.state) = .fading at fading
    split at fading
    · cases fading
    · contradiction
  · simpa using (List.mem_filter.mp mem).2

theorem Mix.stopped_length (m : Mix) : m.stopped.sends.length ≤ m.sends.length :=
  (List.length_map _).trans_le (List.length_filter_le _ _)

/-! ## A boundary (R87, R88, R104) -/

theorem glide_up {current target : Nat} (h : current ≤ target) :
    glide current target = if target - current < 4 then target else current + (target - current) / 4 := by
  have step : ((target : Int) - current).tdiv 4 = (((target - current) / 4 : Nat) : Int) := by
    rw [← Nat.cast_sub h]; exact (Int.ofNat_tdiv _ 4).symm
  unfold glide; dsimp only; rw [step]
  split <;> split <;> omega

theorem glide_down {current target : Nat} (h : target ≤ current) :
    glide current target = if current - target < 4 then target else current - (current - target) / 4 := by
  have step : ((target : Int) - current).tdiv 4 = -(((current - target) / 4 : Nat) : Int) := by
    rw [← neg_sub, Int.neg_tdiv, ← Nat.cast_sub h]; exact congrArg Neg.neg (Int.ofNat_tdiv _ 4).symm
  unfold glide; dsimp only; rw [step]
  split <;> split <;> omega

/-- A glide step ends between where it starts and its target (R104). -/
theorem glide_le {current target top : Nat} (low : current ≤ top) (high : target ≤ top) : glide current target ≤ top := by
  rcases Nat.le_total current target with up | down
  · rw [glide_up up]; split <;> omega
  · rw [glide_down down]; split <;> omega

theorem Send.Bounded.glided {m : Mix} {d : Send} (h : d.Bounded m.stereo) (aimed : d.Aimed m) :
    (d.glided m.stereo).Bounded m.stereo := by
  obtain ⟨left, right⟩ := Prod.ext_iff.mp aimed
  obtain ⟨lowLeft, lowRight⟩ := sendTargets_le m d
  refine ⟨h.level, h.balance, glide_le h.left ((le_of_eq left).trans lowLeft), ?_, fun mono => ?_⟩
  · dsimp only [Send.glided]; split
    · exact glide_le h.right ((le_of_eq right).trans lowRight)
    · exact h.right
  · dsimp only [Send.glided]; rw [mono, if_neg nofun]; exact h.mono mono

theorem Mix.Fit.glided {m : Mix} (h : m.Fit) (on : m.state ≠ .off) : m.glided.Fit := by
  refine ⟨⟨h.bounded.settings, h.bounded.click, h.bounded.trims, glide_le h.bounded.masterCurrent ?_,
    h.bounded.sends.map (fun _ => rfl) fun d mem bounded => bounded.glided (h.aimed.sends d mem)⟩,
    ⟨h.aimed.master, fun d mem => ?_⟩, fun off => absurd off on⟩
  · rw [h.aimed.master]; exact masterTargetOf_le m
  · obtain ⟨d, here, rfl⟩ := List.mem_map.mp mem
    exact (h.aimed.sends d here).congr rfl rfl rfl

/-- Sends freed, and a FADING mix at master 0 moved to OFF. -/
theorem Mix.Fit.settled {m : Mix} (h : m.Fit) : m.settled.Fit := by
  unfold Mix.settled
  dsimp only
  have freed := h.sublistSends (sends := m.sends.filter fun d => !(d.removing && d.currentLeft == 0 && d.currentRight == 0))
    List.filter_sublist
  split
  · rename_i ends
    have silent := freed.sublistSends (sends := (m.sends.filter fun d =>
      !(d.removing && d.currentLeft == 0 && d.currentRight == 0)).filter fun d => !d.removing) List.filter_sublist
    refine ⟨⟨silent.bounded.settings, silent.bounded.click, silent.bounded.trims, silent.bounded.masterCurrent,
      silent.bounded.sends⟩, ⟨?_, fun d mem => (silent.aimed.sends d mem).congr rfl rfl rfl⟩, fun _ => ⟨ends.2, fun d mem => ?_⟩⟩
    · show m.masterTarget = 0
      rw [h.aimed.master]; exact masterTargetOf_not_on (by simp [ends.1])
    · simpa using (List.mem_filter.mp mem).2
  · exact freed

theorem Mix.settled_sends_sublist (m : Mix) : m.settled.sends.Sublist m.sends := by
  unfold Mix.settled
  dsimp only
  split
  · exact List.filter_sublist.trans List.filter_sublist
  · exact List.filter_sublist

/-- An OFF mix is not computed (R102). -/
theorem computeMix_off {m : Mix} (off : m.state = .off) (slots : Table Slot 48) (clicks : Table (Option Sample) 16) (i : Fin 16)
    (l : Limiter) : computeMix slots clicks i m l = { mix := m, limiter := { l with condition := false }, block := none, peak := 0 } := by
  unfold computeMix; rw [off]

theorem computeMix_mix {m : Mix} (on : m.state ≠ .off) (slots : Table Slot 48) (clicks : Table (Option Sample) 16) (i : Fin 16)
    (l : Limiter) : (computeMix slots clicks i m l).mix = m.glided.settled := by
  unfold computeMix
  split
  · contradiction
  · rfl

/-- The mix of a boundary is sound, and holds no more sends. -/
theorem Mix.Fit.computed {m : Mix} (h : m.Fit) (slots : Table Slot 48) (clicks : Table (Option Sample) 16) (i : Fin 16)
    (l : Limiter) : (computeMix slots clicks i m l).mix.Fit
      ∧ (computeMix slots clicks i m l).mix.sends.length ≤ m.sends.length := by
  by_cases off : m.state = .off
  · rw [computeMix_off off]; exact ⟨h, le_refl _⟩
  · rw [computeMix_mix off]
    exact ⟨(h.glided off).settled, (m.glided.settled_sends_sublist).length_le.trans (List.length_map _).le⟩

end Sys2Proof.Machine
end

section
/-! What an apply makes of one mix (R133 to R138): the records it keeps, the send list in slot order, the record whole, and that
it stays sound. -/

namespace Sys2Proof.Machine

/-! ## Records inserted one after the other -/

section
variable {α : Type} {slotOf : α → Fin 48}

theorem foldl_insertBySlot_perm (vs : List α) : ∀ acc : List α,
    (vs.foldl (fun l v => insertBySlot slotOf v l) acc).Perm (vs ++ acc) := by
  induction vs with
  | nil => exact fun acc => .refl acc
  | cons v vs ih =>
    intro acc
    exact (ih _).trans (((insertBySlot_perm slotOf v acc).append_left vs).trans List.perm_middle)

theorem foldl_insertBySlot_order (vs : List α) : ∀ {acc : List α}, (acc.map slotOf).Pairwise (· < ·) →
    ((vs ++ acc).map slotOf).Nodup → ((vs.foldl (fun l v => insertBySlot slotOf v l) acc).map slotOf).Pairwise (· < ·) := by
  induction vs with
  | nil => exact fun order _ => order
  | cons v vs ih =>
    intro acc order distinct
    have moved : ((vs ++ insertBySlot slotOf v acc).map slotOf).Nodup :=
      ((((insertBySlot_perm slotOf v acc).append_left vs).trans List.perm_middle).map slotOf).nodup_iff.mpr distinct
    refine ih (insertBySlot_order order fun x mem same => ?_) moved
    rw [List.cons_append, List.map_cons, List.nodup_cons] at distinct
    exact distinct.1 (same ▸ List.mem_map_of_mem (List.mem_append_right vs mem))

/-- Two lists of the same records in slot order are the same list. -/
theorem eq_of_perm_of_order {l l' : List α} (perm : l.Perm l') (order : (l.map slotOf).Pairwise (· < ·))
    (order' : (l'.map slotOf).Pairwise (· < ·)) : l = l' :=
  List.Perm.eq_of_pairwise (fun _ _ _ _ low high => absurd (lt_trans low high) (lt_irrefl _)) (List.pairwise_map.mp order)
    (List.pairwise_map.mp order') perm

end

/-! ## Mix entries (R121) -/

/-- A sound mix entry by its parts. -/
structure MixEntry.Fit (e : MixEntry) : Prop where
  settings : SettingsInRange e.master e.ceiling e.release
  length : e.sends.length ≤ 24
  order : (e.sends.map SceneSend.slot).Pairwise (· < ·)
  each : ∀ d ∈ e.sends, d.level ≤ 127 ∧ TrimInRange d.balance

theorem MixEntry.sound_iff {e : MixEntry} : e.Sound ↔ e.Fit :=
  ⟨fun ⟨master, c1, c2, r1, r2, length, order, each⟩ => ⟨⟨master, c1, c2, r1, r2⟩, length, order, each⟩,
   fun ⟨⟨master, c1, c2, r1, r2⟩, length, order, each⟩ => ⟨master, c1, c2, r1, r2, length, order, each⟩⟩

/-! ## The records that an apply keeps (R133, R134) -/

theorem outgoing_sublist (m : Mix) (e : MixEntry) : (outgoing m e).Sublist m.sends := List.filter_sublist

theorem keptOutgoing_sublist (mode : ApplyMode) (m : Mix) (e : MixEntry) : (keptOutgoing mode m e).Sublist (outgoing m e) := by
  unfold keptOutgoing
  split
  · exact .refl _
  · exact List.nil_sublist _

theorem finalOutgoing_sublist (mode : ApplyMode) (fallback : Bool) (m : Mix) (e : MixEntry) :
    (finalOutgoing mode fallback m e).Sublist (outgoing m e) := by
  unfold finalOutgoing
  split
  · exact List.nil_sublist _
  · exact keptOutgoing_sublist mode m e

/-- A CUT keeps no outgoing record, nor does an apply that moves the mix to OFF. -/
theorem finalOutgoing_eq_nil {mode : ApplyMode} {m : Mix} {e : MixEntry} (h : mode = .cut ∨ appliedState mode m.state e.on = .off)
    (fallback : Bool) : finalOutgoing mode fallback m e = [] := by
  have none : keptOutgoing mode m e = [] := if_neg (by rintro ⟨rfl, on⟩; exact h.elim nofun on)
  unfold finalOutgoing
  split
  · rfl
  · exact none

/-- What is kept fits the 24 records of the mix. -/
theorem finalOutgoing_fits {e : MixEntry} (h : e.Fit) (mode : ApplyMode) (fallback : Bool) (m : Mix) :
    e.sends.length + (finalOutgoing mode fallback m e).length ≤ 24 := by
  unfold finalOutgoing
  split
  · exact h.length
  · rename_i fits
    have room : ¬ isCut mode m e = true := fun cut => fits (.inr cut)
    simpa [isCut] using room

/-! ## The send list after an apply (R136) -/

@[simp] theorem appliedSend_slot (m : Mix) (d : SceneSend) : (appliedSend m d).slot = d.slot := by
  unfold appliedSend
  split
  · rename_i live found
    simpa using List.find?_some found
  · rfl

@[simp] theorem appliedSend_removing (m : Mix) (d : SceneSend) : (appliedSend m d).removing = false := by
  unfold appliedSend
  split <;> rfl

/-- A record that stays as REMOVING. -/
def Send.marked (d : Send) : Send := { d with removing := true }

theorem appliedSends_eq (m : Mix) (e : MixEntry) (kept : List Send) :
    appliedSends m e kept = (kept.map Send.marked).foldl (fun l v => insertBySlot Send.slot v l) (e.sends.map (appliedSend m)) := by
  rw [List.foldl_map]; rfl

section
variable {m : Mix} {e : MixEntry} {kept : List Send}

theorem appliedSends_perm : (appliedSends m e kept).Perm (kept.map Send.marked ++ e.sends.map (appliedSend m)) := by
  rw [appliedSends_eq]; exact foldl_insertBySlot_perm _ _

theorem appliedSends_length : (appliedSends m e kept).length = e.sends.length + kept.length := by
  rw [appliedSends_perm.length_eq, List.length_append, List.length_map, List.length_map, Nat.add_comm]

theorem scene_slots : (e.sends.map (appliedSend m)).map Send.slot = e.sends.map SceneSend.slot := by
  rw [List.map_map]; exact List.map_congr_left fun d _ => appliedSend_slot m d

theorem marked_slots : (kept.map Send.marked).map Send.slot = kept.map Send.slot := List.map_map

variable (sound : m.Fit) (entry : e.Fit) (sub : kept.Sublist (outgoing m e))
include sound sub

theorem kept_order : ((kept.map Send.marked).map Send.slot).Pairwise (· < ·) := by
  rw [marked_slots]
  exact sound.bounded.sends.order.sublist ((sub.trans (outgoing_sublist m e)).map Send.slot)

include entry

theorem appliedSends_order : ((appliedSends m e kept).map Send.slot).Pairwise (· < ·) := by
  have scene : ((e.sends.map (appliedSend m)).map Send.slot).Pairwise (· < ·) := by rw [scene_slots]; exact entry.order
  rw [appliedSends_eq]
  refine foldl_insertBySlot_order _ scene ?_
  rw [List.map_append, List.nodup_append]
  refine ⟨(kept_order sound sub).imp ne_of_lt, scene.imp ne_of_lt, fun a out b in' same => ?_⟩
  rw [marked_slots] at out
  rw [scene_slots] at in'
  obtain ⟨d, here, rfl⟩ := List.mem_map.mp out
  obtain ⟨x, there, rfl⟩ := List.mem_map.mp in'
  have apart := (List.mem_filter.mp (sub.subset here)).2
  exact MixEntry.sendOn_isNone.mp apart ⟨x, there, same.symm⟩

/-- The REMOVING records after an apply are those kept, and the ACTIVE ones those of the scene, each in slot order. -/
theorem appliedSends_filter :
    ((appliedSends m e kept).filter fun d => d.removing) = kept.map Send.marked
      ∧ ((appliedSends m e kept).filter fun d => !d.removing) = e.sends.map (appliedSend m) := by
  have order := appliedSends_order sound entry sub
  have out : ((kept.map Send.marked).filter fun d => d.removing) = kept.map Send.marked :=
    List.filter_eq_self.mpr fun d mem => by obtain ⟨x, _, rfl⟩ := List.mem_map.mp mem; rfl
  have out' : ((kept.map Send.marked).filter fun d => !d.removing) = [] :=
    List.filter_eq_nil_iff.mpr fun d mem => by obtain ⟨x, _, rfl⟩ := List.mem_map.mp mem; exact nofun
  have scene : ((e.sends.map (appliedSend m)).filter fun d => !d.removing) = e.sends.map (appliedSend m) :=
    List.filter_eq_self.mpr fun d mem => by obtain ⟨x, _, rfl⟩ := List.mem_map.mp mem; simp
  have scene' : ((e.sends.map (appliedSend m)).filter fun d => d.removing) = [] :=
    List.filter_eq_nil_iff.mpr fun d mem => by obtain ⟨x, _, rfl⟩ := List.mem_map.mp mem; simp
  constructor
  · refine eq_of_perm_of_order (slotOf := Send.slot) ?_ (order.sublist (List.filter_sublist.map _)) (kept_order sound sub)
    have perm := (appliedSends_perm (m := m) (e := e) (kept := kept)).filter fun d => d.removing
    rwa [List.filter_append, out, scene', List.append_nil] at perm
  · refine eq_of_perm_of_order (slotOf := Send.slot) ?_ (order.sublist (List.filter_sublist.map _)) ?_
    · have perm := (appliedSends_perm (m := m) (e := e) (kept := kept)).filter fun d => !d.removing
      rwa [List.filter_append, out', scene, List.nil_append] at perm
    · rw [scene_slots]; exact entry.order

theorem appliedSends_bounded (fits : e.sends.length + kept.length ≤ 24) : SendsBounded m.stereo (appliedSends m e kept) := by
  refine ⟨appliedSends_length.trans_le fits, appliedSends_order sound entry sub, fun d mem => ?_⟩
  rcases List.mem_append.mp (appliedSends_perm.mem_iff.mp mem) with out | scene
  · obtain ⟨x, here, rfl⟩ := List.mem_map.mp out
    have old := sound.bounded.sends.each x ((sub.trans (outgoing_sublist m e)).subset here)
    exact ⟨old.level, old.balance, old.left, old.right, old.mono⟩
  · obtain ⟨x, here, rfl⟩ := List.mem_map.mp scene
    obtain ⟨level, balance⟩ := entry.each x here
    unfold appliedSend
    split
    · rename_i live found
      have old := sound.bounded.sends.each live (List.mem_of_find?_eq_some found)
      exact ⟨level, balance, old.left, old.right, old.mono⟩
    · exact ⟨level, balance, Nat.zero_le _, Nat.zero_le _, fun _ => rfl⟩

end

/-! ## The record after an apply (R135 to R138) -/

/-- The record that an apply asks for, before its sends are settled. -/
def Mix.askedBy (m : Mix) (mode : ApplyMode) (e : MixEntry) : Mix :=
  m.asked (appliedState mode m.state e.on) e.stereo e.master e.ceiling e.release m.click

/-- Whether an apply cuts the sends of a mix: a CUT, and the way from OFF to ON (R137; log 17). -/
def Mix.isCutBy (m : Mix) (mode : ApplyMode) (e : MixEntry) : Bool :=
  decide (mode = .cut ∨ (m.state = .off ∧ appliedState mode m.state e.on = .on))

/-- A send after an apply: turned by a change of kind, aimed, and cut where the apply cuts. -/
def Send.placedBy (m : Mix) (mode : ApplyMode) (e : MixEntry) (d : Send) : Send :=
  if m.isCutBy mode e then (d.turnedFor m (m.askedBy mode e)).cut else d.turnedFor m (m.askedBy mode e)

theorem Send.placedBy_of_cut {m : Mix} {mode : ApplyMode} {e : MixEntry}
    (h : mode = .cut ∨ (m.state = .off ∧ appliedState mode m.state e.on = .on)) :
    Send.placedBy m mode e = Send.cut ∘ Send.turnedFor m (m.askedBy mode e) :=
  funext fun _ => if_pos (decide_eq_true h)

theorem Send.placedBy_of_glide {m : Mix} {mode : ApplyMode} {e : MixEntry}
    (h : ¬ (mode = .cut ∨ (m.state = .off ∧ appliedState mode m.state e.on = .on))) :
    Send.placedBy m mode e = Send.turnedFor m (m.askedBy mode e) :=
  funext fun _ => if_neg (by simpa [Mix.isCutBy] using h)

theorem Send.placedBy_removing (m : Mix) (mode : ApplyMode) (e : MixEntry) (d : Send) :
    (d.placedBy m mode e).removing = d.removing := by
  unfold Send.placedBy
  split <;> exact Send.turnedFor_removing m (m.askedBy mode e) d

theorem Send.placedBy_slot (m : Mix) (mode : ApplyMode) (e : MixEntry) (d : Send) : (d.placedBy m mode e).slot = d.slot := by
  unfold Send.placedBy
  split <;> exact Send.turned_slot m (m.askedBy mode e).stereo d

theorem Mix.applied_eq (m : Mix) (mode : ApplyMode) (e : MixEntry) (kept : List Send) :
    m.applied mode e kept = { m.askedBy mode e with
      masterTarget := masterTargetOf (m.askedBy mode e)
      masterCurrent := if mode = .cut then masterTargetOf (m.askedBy mode e) else m.masterCurrent
      sends := (appliedSends m e kept).map (Send.placedBy m mode e) } := by
  have kind := Mix.changeKind_eq { m with sends := appliedSends m e kept } e.stereo
  have list : ((appliedSends m e kept).map (Send.turned m e.stereo)).map (Send.retarget (m.askedBy mode e))
      = (appliedSends m e kept).map (Send.turnedFor m (m.askedBy mode e)) := List.map_map
  cases mode with
  | cut =>
    rw [Send.placedBy_of_cut (.inl rfl), ← List.map_map, ← list, Mix.applied, kind]
    rfl
  | glide =>
    by_cases up : m.state = .off ∧ appliedState .glide m.state e.on = .on
    · rw [Send.placedBy_of_cut (.inr up), ← List.map_map, ← list, Mix.applied, kind]
      exact if_pos up
    · rw [Send.placedBy_of_glide (by simpa using up), ← list, Mix.applied, kind]
      exact if_neg up

theorem Send.turnedFor_bounded {m settled : Mix} {d : Send} (h : d.Bounded m.stereo) :
    (d.turnedFor m settled).Bounded settled.stereo := (h.turned settled.stereo).retarget settled

theorem Send.placedBy_bounded {m : Mix} {mode : ApplyMode} {e : MixEntry} {d : Send} (h : d.Bounded m.stereo) :
    (d.placedBy m mode e).Bounded e.stereo := by
  have placed : (d.turnedFor m (m.askedBy mode e)).Bounded (m.askedBy mode e).stereo := Send.turnedFor_bounded h
  unfold Send.placedBy
  split
  · exact Send.cut_bounded placed (Send.retarget_aimed _ _)
  · exact placed

theorem Send.placedBy_aimed (m : Mix) (mode : ApplyMode) (e : MixEntry) (d : Send) :
    (d.placedBy m mode e).Aimed (m.askedBy mode e) := by
  unfold Send.placedBy
  split <;> exact Send.retarget_aimed _ _

/-- An apply moves a mix to OFF by a CUT, or leaves it OFF. -/
theorem appliedState_eq_off {mode : ApplyMode} {live : MixState} {on : Bool} (h : appliedState mode live on = .off) :
    mode = .cut ∨ live = .off := by
  cases on with
  | true => exact absurd h nofun
  | false =>
    cases mode with
    | cut => exact .inl rfl
    | glide =>
      cases live with
      | off => exact .inr rfl
      | on | fading => exact absurd h nofun

/-- An apply keeps a mix sound, if what it keeps of the outgoing records fits and nothing is kept in an OFF mix. -/
theorem Mix.Fit.applied {m : Mix} (h : m.Fit) {mode : ApplyMode} {e : MixEntry} (entry : e.Fit) {kept : List Send}
    (sub : kept.Sublist (outgoing m e)) (fits : e.sends.length + kept.length ≤ 24)
    (off : appliedState mode m.state e.on = .off → kept = []) : (m.applied mode e kept).Fit := by
  rw [Mix.applied_eq]
  refine ⟨⟨entry.settings, h.bounded.click, h.bounded.trims, ?_, (appliedSends_bounded h entry sub fits).map
    (Send.placedBy_slot m mode e) fun _ _ => Send.placedBy_bounded⟩, ⟨rfl, fun d mem => ?_⟩, fun is => ⟨?_, fun d mem => ?_⟩⟩
  · dsimp only; split
    · exact masterTargetOf_le _
    · exact h.bounded.masterCurrent
  · obtain ⟨d, _, rfl⟩ := List.mem_map.mp mem
    exact (Send.placedBy_aimed m mode e d).congr rfl rfl rfl
  · have silent : masterTargetOf (m.askedBy mode e) = 0 := masterTargetOf_not_on fun on => absurd (is.symm.trans on) nofun
    dsimp only; split
    · exact silent
    · rename_i glide
      exact (h.off ((appliedState_eq_off is).resolve_left glide)).1
  · obtain ⟨d, here, rfl⟩ := List.mem_map.mp mem
    rw [Send.placedBy_removing]
    rw [off is] at here
    obtain ⟨x, _, rfl⟩ := List.mem_map.mp here
    exact appliedSend_removing m x

theorem Mix.applied_length (m : Mix) (mode : ApplyMode) (e : MixEntry) (kept : List Send) :
    (m.applied mode e kept).sends.length = e.sends.length + kept.length := by
  rw [Mix.applied_eq]; exact (List.length_map _).trans appliedSends_length

/-- A CUT leaves a mix at rest. -/
theorem Mix.applied_cut_atRest (m : Mix) (e : MixEntry) : (m.applied .cut e []).AtRest := by
  rw [Mix.applied_eq]
  refine ⟨fun fading => ?_, fun d mem => ?_⟩
  · change appliedState .cut m.state e.on = .fading at fading
    cases on : e.on <;> rw [on] at fading <;> cases fading
  · obtain ⟨d, here, rfl⟩ := List.mem_map.mp mem
    rw [Send.placedBy_removing]
    obtain ⟨x, _, rfl⟩ := List.mem_map.mp here
    exact appliedSend_removing m x

end Sys2Proof.Machine
end

section
/-! What every step keeps of the mixes, the send pool and the scenes: the relations themselves, edits of one mix, of a cue slot
and of a scene, the apply, and entry into STOPPED. -/

namespace Sys2Proof.Machine

/-! ## The relations -/

/-- Every mix entry of a scene or of a working copy is sound. -/
def SceneFit (scene : Scene) : Prop := ∀ i, (scene.get i).Fit

/-- The stored scenes and the working copies (R121, R122). -/
structure Cues.Fit (c : Cues) : Prop where
  scenes : ∀ n scene, c.scenes.get n = some scene → SceneFit scene
  slots : ∀ b w, c.slots.get b = some w → SceneFit w.copy

theorem Cues.sound_iff {c : Cues} : c.Sound ↔ c.Fit := by
  have each : ∀ scene : Scene, (∀ e ∈ scene.list, e.Sound) ↔ SceneFit scene := fun scene => by
    rw [Table.forall_iff scene MixEntry.Sound]; exact forall_congr' fun i => MixEntry.sound_iff
  constructor
  · rintro ⟨scenes, slots⟩
    refine ⟨fun n scene stored => (each scene).mp (scenes _ ((Table.mem_iff _ _).mpr ⟨n, rfl⟩) scene ?_),
      fun b w held => (each w.copy).mp (slots _ ((Table.mem_iff _ _).mpr ⟨b, rfl⟩) w ?_)⟩
    · rw [stored]; exact List.mem_singleton_self scene
    · rw [held]; exact List.mem_singleton_self w
  · rintro ⟨scenes, slots⟩
    constructor
    · intro o mem scene stored
      obtain ⟨n, rfl⟩ := (Table.mem_iff _ _).mp mem
      exact (each scene).mpr (scenes n scene (Option.mem_toList.mp stored))
    · intro o mem w held
      obtain ⟨b, rfl⟩ := (Table.mem_iff _ _).mp mem
      exact (each w.copy).mpr (slots b w (Option.mem_toList.mp held))

/-- The mixes, the send pool and the scenes, whatever the engine does. -/
structure State.MixesFit (s : State) : Prop where
  mixes : ∀ i, (s.mixes.get i).Fit
  pool : poolUsed s.mixes ≤ 256
  cues : s.cues.Fit

/-- A limiter as an engine at rest has it. -/
def Limiter.AtRest (l : Limiter) : Prop := l.gain = 65536 ∧ l.condition = false

/-- The mixes and limiters of an engine at rest. -/
structure State.Resting (s : State) : Prop where
  mixes : ∀ i, (s.mixes.get i).AtRest
  limiters : ∀ i, (s.limiters.get i).AtRest

/-- The part of a sound state that mixes, send pool, scenes and copies make up. -/
structure State.MixTableSound (s : State) : Prop where
  fit : s.MixesFit
  rest : s.clock.mixing = false → s.Resting

theorem State.mixTableSound_iff {s : State} : s.MixTableSound ↔ s.MixesSound ∧ s.MixesAtRest ∧ s.cues.Sound := by
  have mixes : (∀ m ∈ s.mixes.list, m.Sound) ↔ ∀ i, (s.mixes.get i).Fit := by
    rw [Table.forall_iff s.mixes Mix.Sound]; exact forall_congr' fun i => Mix.sound_iff
  have resting : s.Resting ↔ (∀ m ∈ s.mixes.list, m.state ≠ .fading ∧ ∀ d ∈ m.sends, d.removing = false)
      ∧ ∀ l ∈ s.limiters.list, l.gain = 65536 ∧ l.condition = false := by
    rw [Table.forall_iff s.mixes fun m => m.state ≠ .fading ∧ ∀ d ∈ m.sends, d.removing = false,
      Table.forall_iff s.limiters fun l => l.gain = 65536 ∧ l.condition = false]
    exact ⟨fun ⟨still, unity⟩ => ⟨fun i => ⟨(still i).state, (still i).sends⟩, unity⟩,
      fun ⟨still, unity⟩ => ⟨fun i => ⟨(still i).1, (still i).2⟩, unity⟩⟩
  rw [State.MixesSound, State.MixesAtRest, ← resting, mixes, Cues.sound_iff]
  exact ⟨fun ⟨⟨fit, pool, cues⟩, rest⟩ => ⟨⟨fit, pool⟩, rest, cues⟩, fun ⟨⟨fit, pool⟩, rest, cues⟩ => ⟨⟨fit, pool, cues⟩, rest⟩⟩

/-! ## The send pool (R77) -/

theorem poolUsed_eq (t : Table Mix 16) : poolUsed t = ∑ i, (t.get i).sends.length := by
  rw [poolUsed, Table.list_eq_map, List.map_map, Fin.sum_univ_def]; rfl

theorem poolUsed_le {t u : Table Mix 16} (h : ∀ i, (t.get i).sends.length ≤ (u.get i).sends.length) : poolUsed t ≤ poolUsed u := by
  rw [poolUsed_eq, poolUsed_eq]; exact Finset.sum_le_sum fun i _ => h i

/-- One mix replaced by one that holds one record more, or no more. -/
theorem poolUsed_set_le (t : Table Mix 16) (i : Fin 16) {m : Mix} {more : Nat}
    (h : m.sends.length ≤ (t.get i).sends.length + more) : poolUsed (t.set i m) ≤ poolUsed t + more := by
  rw [poolUsed_eq, poolUsed_eq, ← Finset.add_sum_erase _ _ (Finset.mem_univ i),
    ← Finset.add_sum_erase _ (fun j => (t.get j).sends.length) (Finset.mem_univ i)]
  have others : ∑ j ∈ Finset.univ.erase i, ((t.set i m).get j).sends.length
      = ∑ j ∈ Finset.univ.erase i, (t.get j).sends.length :=
    Finset.sum_congr rfl fun j mem => by rw [Table.get_set_ne t m (Finset.ne_of_mem_erase mem)]
  rw [others, Table.get_set_same]
  omega

/-! ## Steps that leave mixes, gains, scenes and copies -/

/-- What leaves the mixes, whether the engine mixes, gains and conditions, scenes and copies. -/
structure MixesKept (s t : State) : Prop where
  mixes : t.mixes = s.mixes
  mixing : t.clock.mixing = s.clock.mixing
  limiters : ∀ i, (t.limiters.get i).gain = (s.limiters.get i).gain
    ∧ (t.limiters.get i).condition = (s.limiters.get i).condition
  scenes : t.cues.scenes = s.cues.scenes
  copies : ∀ b, (t.cues.slots.get b).map CueWork.copy = (s.cues.slots.get b).map CueWork.copy

theorem MixesKept.of_eqs {s t : State} (clock : t.clock = s.clock) (mixes : t.mixes = s.mixes)
    (limiters : t.limiters = s.limiters) (cues : t.cues = s.cues) : MixesKept s t :=
  ⟨mixes, by rw [clock], fun i => by rw [limiters]; exact ⟨rfl, rfl⟩, by rw [cues], fun b => by rw [cues]⟩

theorem MixesKept.withClock {s : State} {c : Clock} (mixing : c.mixing = s.clock.mixing) : MixesKept s (s.withClock c) :=
  ⟨rfl, mixing, fun _ => ⟨rfl, rfl⟩, rfl, fun _ => rfl⟩

theorem Cues.Fit.kept {c c' : Cues} (h : c.Fit) (scenes : c'.scenes = c.scenes)
    (copies : ∀ b, (c'.slots.get b).map CueWork.copy = (c.slots.get b).map CueWork.copy) : c'.Fit := by
  refine ⟨fun n scene stored => h.scenes n scene (scenes ▸ stored), fun b w held => ?_⟩
  have same := copies b
  rw [held, Option.map_some] at same
  obtain ⟨w', held', eq⟩ := Option.map_eq_some_iff.mp same.symm
  rw [← eq]; exact h.slots b w' held'

theorem State.MixTableSound.kept {s t : State} (h : s.MixTableSound) (k : MixesKept s t) : t.MixTableSound := by
  refine ⟨⟨fun i => ?_, ?_, h.fit.cues.kept k.scenes k.copies⟩, fun still => ?_⟩
  · rw [k.mixes]; exact h.fit.mixes i
  · rw [k.mixes]; exact h.fit.pool
  · obtain ⟨mixes, limiters⟩ := h.rest (k.mixing ▸ still)
    refine ⟨fun i => ?_, fun i => ?_⟩
    · rw [k.mixes]; exact mixes i
    · obtain ⟨gain, condition⟩ := k.limiters i
      exact ⟨gain.trans (limiters i).1, condition.trans (limiters i).2⟩

theorem State.MixTableSound.withLink {s : State} (h : s.MixTableSound) (l : Link) : (s.withLink l).MixTableSound :=
  h.kept (.of_eqs rfl rfl rfl rfl)

/-! ## One mix replaced -/

theorem State.MixesFit.setMix {s : State} (h : s.MixesFit) (i : Fin 16) {m : Mix} (fit : m.Fit)
    (pool : poolUsed (s.mixes.set i m) ≤ 256) : (s.withMixes (s.mixes.set i m)).MixesFit := by
  refine ⟨fun j => ?_, pool, h.cues⟩
  rw [State.withMixes_mixes, Table.get_set]
  split
  · exact fit
  · exact h.mixes j

theorem State.MixTableSound.setMix {s : State} (h : s.MixTableSound) (i : Fin 16) {m : Mix} (fit : m.Fit)
    (pool : poolUsed (s.mixes.set i m) ≤ 256) (rest : s.clock.mixing = false → (s.mixes.get i).AtRest → m.AtRest) :
    (s.withMixes (s.mixes.set i m)).MixTableSound := by
  refine ⟨h.fit.setMix i fit pool, fun still => ⟨fun j => ?_, (h.rest still).limiters⟩⟩
  rw [State.withMixes_mixes, Table.get_set]
  split
  · exact rest still ((h.rest still).mixes i)
  · exact (h.rest still).mixes j

/-- A mix replaced by one that holds no more records. -/
theorem State.MixTableSound.editMix {s : State} (h : s.MixTableSound) (i : Fin 16) {m : Mix} (fit : m.Fit)
    (length : m.sends.length ≤ (s.mixes.get i).sends.length)
    (rest : s.clock.mixing = false → (s.mixes.get i).AtRest → m.AtRest) : (s.withMixes (s.mixes.set i m)).MixTableSound :=
  h.setMix i fit ((poolUsed_set_le (more := 0) s.mixes i length).trans h.fit.pool) rest

/-- A mix replaced by one in the same state, with the same sends REMOVING. -/
theorem State.MixTableSound.retrimMix {s : State} (h : s.MixTableSound) (i : Fin 16) {m : Mix} (fit : m.Fit)
    (same : (s.mixes.get i).SameShape m) : (s.withMixes (s.mixes.set i m)).MixTableSound :=
  h.editMix i fit same.length.le fun _ still => still.sameShape same

/-- A limiter set to unity. -/
theorem State.MixTableSound.unityLimiter {s : State} (h : s.MixTableSound) (i : Fin 16) :
    (s.withLimiters (s.limiters.modify i fun l => { l with gain := Config.unity })).MixTableSound := by
  refine ⟨⟨h.fit.mixes, h.fit.pool, h.fit.cues⟩, fun still => ⟨(h.rest still).mixes, fun j => ?_⟩⟩
  rw [State.withLimiters_limiters, Table.get_modify]
  split
  · exact ⟨rfl, ((h.rest still).limiters i).2⟩
  · exact (h.rest still).limiters j

/-! ## A cue slot or a scene replaced -/

theorem State.MixTableSound.withCues {s : State} (h : s.MixTableSound) {c : Cues} (fit : c.Fit) : (s.withCues c).MixTableSound :=
  ⟨⟨h.fit.mixes, h.fit.pool, fit⟩, fun still => ⟨(h.rest still).mixes, (h.rest still).limiters⟩⟩

theorem Cues.Fit.setSlot {c : Cues} (h : c.Fit) (b : Fin 4) {o : Option CueWork} (fit : ∀ w, o = some w → SceneFit w.copy) :
    (c.setSlot b o).Fit := by
  refine ⟨h.scenes, fun b' w held => ?_⟩
  rw [Cues.setSlot, Table.get_set] at held
  split at held
  · exact fit w held
  · exact h.slots b' w held

theorem Cues.Fit.openSlot {c : Cues} (h : c.Fit) (b : Fin 4) {w : CueWork} (fit : SceneFit w.copy) : (c.setSlot b (some w)).Fit :=
  h.setSlot b fun _ e => Option.some.inj e ▸ fit

theorem Cues.Fit.closeSlot {c : Cues} (h : c.Fit) (b : Fin 4) : (c.setSlot b none).Fit := h.setSlot b nofun

theorem Cues.Fit.writeBack {c : Cues} (h : c.Fit) (b : Fin 4) {w : CueWork} (fit : SceneFit w.copy) : (c.writeBack b w).Fit := by
  refine ⟨fun n scene stored => ?_, h.slots⟩
  rw [Cues.writeBack, Table.get_set] at stored
  split at stored
  · exact Option.some.inj stored ▸ fit
  · exact h.scenes n scene stored

theorem SceneFit.set {scene : Scene} (h : SceneFit scene) (i : Fin 16) {e : MixEntry} (fit : e.Fit) : SceneFit (scene.set i e) := by
  intro j
  rw [Table.get_set]
  split
  · exact fit
  · exact h j

theorem MixEntry.default_fit : MixEntry.default.Fit :=
  ⟨⟨by decide, by decide, by decide, by decide, by decide⟩, Nat.zero_le _, List.Pairwise.nil, nofun⟩

theorem SceneFit.orDefault {o : Option Scene} (h : ∀ scene, o = some scene → SceneFit scene) : SceneFit (sceneOrDefault o) := by
  cases o with
  | none => intro i; rw [sceneOrDefault, Table.get_fill]; exact MixEntry.default_fit
  | some scene => exact h scene rfl

/-- The mix entry that a live record gives is sound (R127). -/
theorem takenEntry_fit {m : Mix} (h : m.Fit) : (takenEntry m).Fit := by
  have active : (m.sends.filter fun d => !d.removing).Sublist m.sends := List.filter_sublist
  refine ⟨h.bounded.settings, ?_, ?_, fun x mem => ?_⟩
  · exact (List.length_map _).trans_le (active.length_le.trans h.bounded.sends.length)
  · show List.Pairwise _ (List.map _ (List.map _ _))
    rw [List.map_map]
    exact h.bounded.sends.order.sublist (active.map Send.slot)
  · obtain ⟨d, here, rfl⟩ := List.mem_map.mp mem
    have old := h.bounded.sends.each d (active.subset here)
    exact ⟨old.level, old.balance⟩

/-! ## The apply -/

theorem appliedMixes_get (mixes : Table Mix 16) (copy : Scene) (mask : MixMask) (mode : ApplyMode) (fallback : Bool) (i : Fin 16) :
    (appliedMixes mixes copy mask mode fallback).get i = if inMask mask i then
      (mixes.get i).applied mode (copy.get i) (finalOutgoing mode fallback (mixes.get i) (copy.get i)) else mixes.get i :=
  Table.get_tabulate _ i

/-- The pool after an apply holds the records that its decision counted (R134). -/
theorem poolUsed_appliedMixes (mixes : Table Mix 16) (copy : Scene) (mask : MixMask) (mode : ApplyMode) (fallback : Bool) :
    poolUsed (appliedMixes mixes copy mask mode fallback) = recordsAfter mixes copy mask mode fallback := by
  rw [poolUsed_eq, recordsAfter, ← Fin.sum_univ_def]
  refine Finset.sum_congr rfl fun i _ => ?_
  rw [appliedMixes_get]
  split
  · exact Mix.applied_length _ _ _ _
  · rfl

theorem poolDecision_fits {mixes : Table Mix 16} {copy : Scene} {mask : MixMask} {mode : ApplyMode} {fallback : Bool}
    (h : poolDecision mixes copy mask mode = some fallback) : recordsAfter mixes copy mask mode fallback ≤ 256 := by
  unfold poolDecision at h
  split at h
  · rename_i fits; cases h; exact fits
  · split at h
    · rename_i fits; cases h; exact fits.2
    · cases h

/-- A refused apply writes its record only (R134; log 12). -/
theorem State.applyCue_refused {s : State} {w : CueWork} {mode : ApplyMode} {mask : MixMask}
    (h : poolDecision s.mixes w.copy mask mode = none) (b : Fin 4) (moment : ApplyAt) :
    s.applyCue b w mode mask moment = (s.withCues (s.cues.setSlot b (some { w with
      applying := false
      last := some { outcome := .poolFull, mode := mode, mask := mask, moment := moment, cut := 0, fallback := false,
                     inserted := 0, freed := 0 } })), .poolFull) := by
  unfold State.applyCue; rw [h]

/-- An apply that is made. -/
theorem State.applyCue_made {s : State} {w : CueWork} {mode : ApplyMode} {mask : MixMask} {fallback : Bool}
    (h : poolDecision s.mixes w.copy mask mode = some fallback) (b : Fin 4) (moment : ApplyAt) :
    s.applyCue b w mode mask moment =
      (((s.withMixes (appliedMixes s.mixes w.copy mask mode fallback)).withLimiters
        (appliedLimiters s.limiters s.mixes (appliedMixes s.mixes w.copy mask mode fallback))).withCues
        (s.cues.setSlot b (some { w with
          applying := false
          last := some { outcome := .done, mode := mode, mask := mask, moment := moment,
                         cut := cutMask s.mixes w.copy mask mode, fallback := fallback,
                         inserted := insertedCount s.mixes w.copy mask,
                         freed := freedCount s.mixes w.copy mask mode fallback } })), .done) := by
  unfold State.applyCue; rw [h]

theorem appliedMixes_fit {mixes : Table Mix 16} {copy : Scene} (fit : ∀ i, (mixes.get i).Fit) (scene : SceneFit copy)
    (mask : MixMask) (mode : ApplyMode) (fallback : Bool) (i : Fin 16) :
    ((appliedMixes mixes copy mask mode fallback).get i).Fit := by
  rw [appliedMixes_get]
  split
  · exact (fit i).applied (scene i) (finalOutgoing_sublist _ _ _ _) (finalOutgoing_fits (scene i) _ _ _)
      fun off => finalOutgoing_eq_nil (.inr off) fallback
  · exact fit i

theorem State.MixesFit.applyCue {s : State} (h : s.MixesFit) {w : CueWork} (copy : SceneFit w.copy) (b : Fin 4) (mode : ApplyMode)
    (mask : MixMask) (moment : ApplyAt) : (s.applyCue b w mode mask moment).1.MixesFit := by
  cases decision : poolDecision s.mixes w.copy mask mode with
  | none =>
    rw [State.applyCue_refused decision]
    exact ⟨h.mixes, h.pool, h.cues.openSlot b copy⟩
  | some fallback =>
    rw [State.applyCue_made decision]
    exact ⟨fun i => appliedMixes_fit h.mixes copy mask mode fallback i,
      (poolUsed_appliedMixes _ _ _ _ _).trans_le (poolDecision_fits decision), h.cues.openSlot b copy⟩

/-- An apply made as CUT leaves an engine at rest as it was. -/
theorem State.Resting.applyCut {s : State} (h : s.Resting) (b : Fin 4) (w : CueWork) (mask : MixMask) (moment : ApplyAt) :
    (s.applyCue b w .cut mask moment).1.Resting := by
  cases decision : poolDecision s.mixes w.copy mask .cut with
  | none => rw [State.applyCue_refused decision]; exact ⟨h.mixes, h.limiters⟩
  | some fallback =>
    rw [State.applyCue_made decision]
    refine ⟨fun i => ?_, fun i => ?_⟩
    · show ((appliedMixes s.mixes w.copy mask .cut fallback).get i).AtRest
      rw [appliedMixes_get]
      split
      · rw [finalOutgoing_eq_nil (.inl rfl)]; exact Mix.applied_cut_atRest _ _
      · exact h.mixes i
    · show ((appliedLimiters s.limiters s.mixes _).get i).AtRest
      rw [appliedLimiters, Table.get_tabulate]
      split
      · exact ⟨rfl, (h.limiters i).2⟩
      · exact h.limiters i

/-! ## Entry into STOPPED (R25, R99) -/

theorem State.MixesFit.enterStopped {s : State} (h : s.MixesFit) : s.enterStopped.MixTableSound := by
  refine ⟨⟨fun i => ?_, ?_, h.cues⟩, fun _ => ⟨fun i => ?_, fun i => ?_⟩⟩
  · show ((s.mixes.map Mix.stopped).get i).Fit
    rw [Table.get_map]; exact (h.mixes i).stopped
  · refine (poolUsed_le fun i => ?_).trans h.pool
    show ((s.mixes.map Mix.stopped).get i).sends.length ≤ _
    rw [Table.get_map]; exact Mix.stopped_length _
  · show ((s.mixes.map Mix.stopped).get i).AtRest
    rw [Table.get_map]; exact Mix.stopped_atRest _
  · show ((s.limiters.map Limiter.stopped).get i).AtRest
    rw [Table.get_map]; exact ⟨rfl, rfl⟩

end Sys2Proof.Machine
end

section
/-! The owners of the requests: which leave mixes, gains, scenes and copies alone, and what the others do to them. -/

namespace Sys2Proof.Machine

/-! ## Owners that leave mixes, gains, scenes and copies alone -/

/-- An owner that keeps the relations of mixes, send pool and scenes. -/
def Owner.KeepsMixes (take : Owner) : Prop := ∀ s : State, s.MixTableSound → (take s).1.MixTableSound

theorem keepsMixes_of_kept {take : Owner} (h : ∀ s, MixesKept s (take s).1) : take.KeepsMixes := fun s sound => sound.kept (h s)

theorem MixesKept.refl (s : State) : MixesKept s s := .of_eqs rfl rfl rfl rfl

theorem kept_bindStream (index a b c channels accept : Byte) (s : State) :
    MixesKept s (bindStream index a b c channels accept s).1 := by
  unfold bindStream
  dsimp only
  repeat' split
  all_goals exact .of_eqs rfl rfl rfl rfl

theorem kept_withBoundStream {index : Byte} {f : Fin 8 → Owner} (h : ∀ i s, MixesKept s (f i s).1) (s : State) :
    MixesKept s (withBoundStream index f s).1 := by
  unfold withBoundStream
  split
  · exact .refl s
  · split
    · exact h _ s
    · exact .refl s

theorem kept_unbindStream (index : Byte) (s : State) : MixesKept s (unbindStream index s).1 :=
  kept_withBoundStream (fun i s => by dsimp only; split <;> exact .of_eqs rfl rfl rfl rfl) s

theorem kept_flushStream (index : Byte) (s : State) : MixesKept s (flushStream index s).1 :=
  kept_withBoundStream (fun _ _ => .of_eqs rfl rfl rfl rfl) s

theorem kept_setStream (index accept : Byte) (s : State) : MixesKept s (setStream index accept s).1 :=
  kept_withBoundStream (fun i s => by dsimp only; split <;> exact .of_eqs rfl rfl rfl rfl) s

theorem kept_queryStream (index : Byte) (s : State) : MixesKept s (queryStream index s).1 := by
  unfold queryStream
  split <;> exact .refl s

theorem kept_bindSlot (slot stream channel polarity hold : Byte) (s : State) :
    MixesKept s (bindSlot slot stream channel polarity hold s).1 := by
  unfold bindSlot
  repeat' split
  all_goals exact .of_eqs rfl rfl rfl rfl

theorem kept_setSlot (slot polarity hold : Byte) (s : State) : MixesKept s (setSlot slot polarity hold s).1 := by
  unfold setSlot
  repeat' split
  all_goals exact .of_eqs rfl rfl rfl rfl

theorem kept_unbindSlot (slot : Byte) (s : State) : MixesKept s (unbindSlot slot s).1 := by
  unfold unbindSlot
  repeat' split
  all_goals exact .of_eqs rfl rfl rfl rfl

theorem kept_querySlot (slot : Byte) (s : State) : MixesKept s (querySlot slot s).1 := by
  unfold querySlot
  split <;> exact .refl s

theorem kept_noticeSet (cls setting : Byte) (s : State) : MixesKept s (noticeSet cls setting s).1 := by
  unfold noticeSet
  split
  · exact .refl s
  · exact .of_eqs rfl rfl rfl rfl

theorem kept_queryMix (mix start : Byte) (s : State) : MixesKept s (queryMix mix start s).1 := by
  unfold queryMix
  split <;> exact .refl s

theorem kept_assignPack (address mix role : Byte) (s : State) : MixesKept s (assignPack address mix role s).1 := by
  unfold assignPack
  dsimp only
  repeat' split
  all_goals exact .of_eqs rfl rfl rfl rfl

theorem kept_removePack (address : Byte) (s : State) : MixesKept s (removePack address s).1 := by
  unfold removePack
  dsimp only
  repeat' split
  all_goals exact .of_eqs rfl rfl rfl rfl

theorem kept_packText (address : Byte) (chars : List Byte) (s : State) : MixesKept s (packText address chars s).1 := by
  unfold packText
  dsimp only
  repeat' split
  all_goals exact .of_eqs rfl rfl rfl rfl

theorem kept_queryPack (address : Byte) (s : State) : MixesKept s (queryPack address s).1 := by
  unfold queryPack
  repeat' split
  all_goals exact .refl s

theorem kept_clickRequest (f : Click → Click) (s : State) : MixesKept s (clickRequest f s).1 := .of_eqs rfl rfl rfl rfl

theorem kept_queryCue (bank mix start : Byte) (s : State) : MixesKept s (queryCue bank mix start s).1 := by
  unfold queryCue
  split <;> exact .refl s

theorem kept_queryScene (scene mix start : Byte) (s : State) : MixesKept s (queryScene scene mix start s).1 := by
  unfold queryScene
  split <;> exact .refl s

/-- METER_SET clears peaks and lowest gains, not gains (R200). -/
theorem kept_meterSet (meters a b : Byte) (s : State) : MixesKept s (meterSet meters a b s).1 := by
  unfold meterSet
  split
  · exact .refl s
  · dsimp only
    split
    · exact .of_eqs rfl rfl rfl rfl
    · refine ⟨rfl, rfl, fun i => ?_, rfl, fun _ => rfl⟩
      show ((clearMeters s.limiters).get i).gain = _ ∧ ((clearMeters s.limiters).get i).condition = _
      rw [clearMeters, Table.get_map]
      exact ⟨rfl, rfl⟩

theorem kept_clearGroup (s : State) (g : Group) : MixesKept s (clearGroup s g) := by
  cases g with
  | clock => exact .withClock rfl
  | link | stage | stream | slotMiss | queue | line | pack => exact .of_eqs rfl rfl rfl rfl

theorem kept_queryCounters (group index clear : Byte) (s : State) : MixesKept s (queryCounters group index clear s).1 := by
  unfold queryCounters
  split
  case h_4 =>
    dsimp only
    split
    · exact kept_clearGroup s _
    · exact .refl s
  all_goals exact .refl s

/-! ## Engine (R17, R21 to R23) -/

theorem keepsMixes_resetPart : Owner.KeepsMixes resetPart := by
  intro s h
  have blank : Mix.default.Fit := ⟨⟨⟨by decide, by decide, by decide, by decide, by decide⟩, Nat.zero_le _,
    ⟨by decide, by decide, by decide, nofun⟩, Nat.zero_le _, Nat.zero_le _, List.Pairwise.nil, nofun⟩, ⟨rfl, nofun⟩,
    fun _ => ⟨rfl, nofun⟩⟩
  refine ⟨⟨fun i => ?_, by show poolUsed (Table.fill Mix.default) ≤ 256; decide, h.fit.cues.scenes, fun b w held => ?_⟩,
    fun _ => ⟨fun i => ?_, fun i => ?_⟩⟩
  · show ((Table.fill Mix.default : Table Mix 16).get i).Fit
    rw [Table.get_fill]; exact blank
  · change (Table.fill none : Table (Option CueWork) 4).get b = some w at held
    rw [Table.get_fill] at held; cases held
  · show ((Table.fill Mix.default : Table Mix 16).get i).AtRest
    rw [Table.get_fill]; exact ⟨nofun, nofun⟩
  · show ((Table.fill Limiter.reset : Table Limiter 16).get i).AtRest
    rw [Table.get_fill]; exact ⟨rfl, rfl⟩

theorem keepsMixes_setFormat (r1 r2 r3 r4 lag i1 i2 i3 : Byte) : Owner.KeepsMixes (setFormat r1 r2 r3 r4 lag i1 i2 i3) := by
  intro s h
  unfold setFormat
  dsimp only
  repeat' split
  case isFalse.isFalse.isFalse =>
    exact State.MixesFit.enterStopped ⟨h.fit.mixes, h.fit.pool, h.fit.cues⟩
  all_goals exact h

theorem keepsMixes_startEngine : Owner.KeepsMixes startEngine := by
  intro s h
  unfold startEngine
  split
  case h_2 engine =>
    exact h.kept (.withClock (Clock.mixing_eq_false (by simp [engine]) (by simp [engine])).symm)
  all_goals exact h

theorem keepsMixes_stopEngine : Owner.KeepsMixes stopEngine := by
  intro s h
  unfold stopEngine
  split
  case h_3 => exact h.fit.enterStopped
  all_goals exact h

/-! ## Live mixes (R84 to R96) -/

theorem keepsMixes_mixSetLive (mix state kind master ceiling rel1 rel2 click : Byte) :
    Owner.KeepsMixes (mixSetLive mix state kind master ceiling rel1 rel2 click) := by
  intro s h
  unfold mixSetLive
  split
  · exact h
  · rename_i i _
    split
    · rename_i on stereo _ _
      have edited := h.editMix i
        ((h.fit.mixes i).set s.clock.mixing on stereo (.clamped master ceiling (nat16 rel1 rel2)) (levelCode_le click))
        (Mix.set_length _ _ _ _ _ _ _ _) fun still rest => by rw [still]; exact rest.set _ _ _ _ _ _
      dsimp only
      split
      · exact edited.unityLimiter i
      · exact edited
    · exact h

theorem keepsMixes_addSendLive (mix slot level balance self mute : Byte) :
    Owner.KeepsMixes (addSendLive mix slot level balance self mute) := by
  intro s h
  unfold addSendLive
  split
  · rename_i i k _ _
    have fit := h.fit.mixes i
    split
    · rename_i self mute _ _
      dsimp only
      split
      · exact h
      · split
        · exact h.editMix i (fit.reviveSend k (levelCode_le level) (.clamp _) self mute) (Mix.updateSend_length _ _ _).le
            fun _ rest => rest.updateSend k fun _ _ => rfl
        · rename_i free
          split
          · exact h
          · rename_i room
            split
            · exact h
            · rename_i pool
              have space : poolUsed s.mixes + 1 ≤ 256 := by
                simp only [poolFree, Config.poolCap] at pool; omega
              exact h.setMix i (fit.insertSend free (Nat.not_le.mp room) (levelCode_le level) (.clamp _) self mute)
                ((poolUsed_set_le s.mixes i (Mix.insertSend_length _ _ _ _ _ _).le).trans space)
                fun _ rest => rest.insertSend _ _ _ _ _
    · exact h
  · exact h

/-- The fields that SET_SEND selects are in range. -/
theorem sendChange?_inRange {flags level balance self mute : Byte} {c : SendChange}
    (h : sendChange? flags level balance self mute = some c) :
    (∀ v ∈ c.level, v ≤ 127) ∧ ∀ v ∈ c.balance, TrimInRange v := by
  simp only [sendChange?, Option.ite_none_left_eq_some, Option.some.injEq] at h
  obtain ⟨_, rfl⟩ := h
  constructor
  · intro v selected
    obtain ⟨_, rfl⟩ := Option.ite_none_right_eq_some.mp selected |>.imp id Option.some.inj
    exact levelCode_le level
  · intro v selected
    obtain ⟨_, rfl⟩ := Option.ite_none_right_eq_some.mp selected |>.imp id Option.some.inj
    exact .clamp _

theorem keepsMixes_setSendLive (mix slot flags level balance self mute : Byte) :
    Owner.KeepsMixes (setSendLive mix slot flags level balance self mute) := by
  intro s h
  unfold setSendLive
  split
  · rename_i i k _ _
    split
    · exact h
    · rename_i change selected
      dsimp only
      split
      · exact h
      · dsimp only
        split
        · exact h
        · obtain ⟨codes, places⟩ := sendChange?_inRange selected
          exact h.editMix i ((h.fit.mixes i).setSend k codes places) (Mix.updateSend_length _ _ _).le
            fun _ rest => rest.updateSend k fun _ => id
  · exact h

theorem keepsMixes_removeSendLive (mix slot : Byte) : Owner.KeepsMixes (removeSendLive mix slot) := by
  intro s h
  unfold removeSendLive
  split
  · rename_i i k _ _
    have fit := h.fit.mixes i
    dsimp only
    split
    · exact h
    · split
      · rename_i live
        exact h.editMix i (fit.markRemoving live.2 k) (Mix.updateSend_length _ _ _).le
          fun still => absurd (still.symm.trans live.1) nofun
      · exact h.editMix i (fit.dropSend k) (List.length_filter_le _ _) fun _ rest => rest.dropSend k
  · exact h

theorem keepsMixes_setTrim (mix volume self others dim : Byte) : Owner.KeepsMixes (setTrim mix volume self others dim) := by
  intro s h
  unfold setTrim
  split
  · exact h
  · rename_i i _
    split
    · exact h
    · rename_i on _
      have edited := h.retrimMix i ((h.fit.mixes i).setTrim (.clamp volume.toInt) (.clamp self.toInt) (.clamp others.toInt) on)
        (Mix.setTrim_sameShape _ _ _ _ _)
      exact edited.kept (.of_eqs rfl rfl rfl rfl)

end Sys2Proof.Machine
end

section
/-! The owners of the Cue Controller keep mixes, send pool and scenes sound, and with them every request row. -/

namespace Sys2Proof.Machine

/-! ## Edits of a mix entry (R125, R126) -/

theorem MixEntry.Fit.withSends {e : MixEntry} (h : e.Fit) {sends : List SceneSend} (length : sends.length ≤ 24)
    (order : (sends.map SceneSend.slot).Pairwise (· < ·)) (each : ∀ d ∈ sends, d.level ≤ 127 ∧ TrimInRange d.balance) :
    ({ e with sends := sends } : MixEntry).Fit := ⟨h.settings, length, order, each⟩

theorem MixEntry.Fit.insertSend {e : MixEntry} (h : e.Fit) {d : SceneSend} (free : ¬ (e.sendOn d.slot).isSome = true)
    (room : e.sends.length < 24) (level : d.level ≤ 127) (balance : TrimInRange d.balance) :
    ({ e with sends := insertBySlot SceneSend.slot d e.sends } : MixEntry).Fit := by
  refine h.withSends ((insertBySlot_length _ _ _).trans_le room) (insertBySlot_order h.order fun x mem same =>
    free (MixEntry.sendOn_isSome.mpr ⟨x, mem, same⟩)) fun x mem => ?_
  rcases mem_insertBySlot.mp mem with rfl | here
  · exact ⟨level, balance⟩
  · exact h.each x here

theorem MixEntry.Fit.changeSend {e : MixEntry} (h : e.Fit) (k : Fin 48) {c : SendChange} (level : ∀ v ∈ c.level, v ≤ 127)
    (balance : ∀ v ∈ c.balance, TrimInRange v) :
    ({ e with sends := e.sends.map fun d => if d.slot = k then c.applyEntry d else d } : MixEntry).Fit := by
  refine h.withSends ((List.length_map _).trans_le h.length) ?_ fun x mem => ?_
  · have same : (SceneSend.slot ∘ fun d => if d.slot = k then c.applyEntry d else d) = SceneSend.slot := by
      funext d; dsimp only [Function.comp_apply]; split <;> rfl
    rw [List.map_map, same]; exact h.order
  · obtain ⟨d, here, rfl⟩ := List.mem_map.mp mem
    obtain ⟨oldLevel, oldBalance⟩ := h.each d here
    split
    · constructor
      · show c.level.getD d.level ≤ 127
        cases selected : c.level with
        | none => exact oldLevel
        | some v => exact level v selected
      · show TrimInRange (c.balance.getD d.balance)
        cases selected : c.balance with
        | none => exact oldBalance
        | some v => exact balance v selected
    · exact h.each d here

theorem MixEntry.Fit.dropSend {e : MixEntry} (h : e.Fit) (k : Fin 48) :
    ({ e with sends := e.sends.filter fun d => d.slot != k } : MixEntry).Fit :=
  h.withSends ((List.length_filter_le _ _).trans h.length) (h.order.sublist (List.filter_sublist.map _))
    fun d mem => h.each d (List.mem_filter.mp mem).1

/-! ## Owners of the Cue Controller -/

theorem keepsMixes_withOpenCue {b : Fin 4} {f : CueWork → Owner}
    (keeps : ∀ w s, State.MixTableSound s → SceneFit w.copy → (f w s).1.MixTableSound) : Owner.KeepsMixes (withOpenCue b f) := by
  intro s h
  cases slot : s.cues.slots.get b with
  | none => rw [withOpenCue_closed slot]; exact h
  | some w =>
    cases busy : w.applying with
    | true => rw [withOpenCue_busy slot busy]; exact h
    | false => rw [withOpenCue_open slot busy]; exact keeps w s h (h.fit.cues.slots b w slot)

theorem keepsMixes_withBank {bank : Byte} {f : Fin 4 → Owner} (keeps : ∀ b, (f b).KeepsMixes) :
    Owner.KeepsMixes (withBank bank f) := by
  intro s h
  unfold withBank
  split
  · exact h
  · exact keeps _ s h

theorem keepsMixes_editTarget {target bank : Byte} {live : Owner} {cue : Fin 4 → Owner} (hl : live.KeepsMixes)
    (hc : ∀ b, (cue b).KeepsMixes) : Owner.KeepsMixes (editTarget target bank live cue) := by
  unfold editTarget
  split
  · exact hl
  · split
    · split
      · exact hc _
      · exact fun _ h => h
    · exact fun _ h => h

/-- An entry of a copy edited (R124). -/
theorem State.MixTableSound.editCopy {s : State} (h : s.MixTableSound) (b : Fin 4) {w : CueWork} (copy : SceneFit w.copy)
    (i : Fin 16) {e : MixEntry} (fit : e.Fit) : (s.editCopy b w i e).MixTableSound :=
  h.withCues (h.fit.cues.openSlot b (copy.set i fit))

theorem keepsMixes_mixSetCue (b : Fin 4) (mix state kind master ceiling rel1 rel2 : Byte) :
    Owner.KeepsMixes (mixSetCue b mix state kind master ceiling rel1 rel2) := by
  intro s h
  unfold mixSetCue
  split
  · exact h
  · rename_i i _
    split
    · refine keepsMixes_withOpenCue (fun w s h copy => ?_) s h
      exact h.editCopy b copy i ⟨.clamped master ceiling (nat16 rel1 rel2), (copy i).length, (copy i).order, (copy i).each⟩
    · exact h

theorem keepsMixes_addSendCue (b : Fin 4) (mix slot level balance self mute : Byte) :
    Owner.KeepsMixes (addSendCue b mix slot level balance self mute) := by
  intro s h
  unfold addSendCue
  split
  · rename_i i k _ _
    split
    · refine keepsMixes_withOpenCue (fun w s h copy => ?_) s h
      dsimp only
      split
      · exact h
      · rename_i free
        split
        · exact h
        · rename_i room
          exact h.editCopy b copy i ((copy i).insertSend free (Nat.not_le.mp room) (levelCode_le level) (.clamp _))
    · exact h
  · exact h

theorem keepsMixes_setSendCue (b : Fin 4) (mix slot flags level balance self mute : Byte) :
    Owner.KeepsMixes (setSendCue b mix slot flags level balance self mute) := by
  intro s h
  unfold setSendCue
  split
  · rename_i i k _ _
    split
    · exact h
    · rename_i change selected
      obtain ⟨codes, places⟩ := sendChange?_inRange selected
      refine keepsMixes_withOpenCue (fun w s h copy => ?_) s h
      dsimp only
      split
      · exact h
      · exact h.editCopy b copy i ((copy i).changeSend k codes places)
  · exact h

theorem keepsMixes_removeSendCue (b : Fin 4) (mix slot : Byte) : Owner.KeepsMixes (removeSendCue b mix slot) := by
  intro s h
  unfold removeSendCue
  split
  · rename_i i k _ _
    refine keepsMixes_withOpenCue (fun w s h copy => ?_) s h
    dsimp only
    split
    · exact h
    · exact h.editCopy b copy i ((copy i).dropSend k)
  · exact h

theorem keepsMixes_takeLive (bank m1 m2 : Byte) : Owner.KeepsMixes (takeLive bank m1 m2) := by
  refine keepsMixes_withBank fun b => keepsMixes_withOpenCue fun w s h copy => h.withCues (h.fit.cues.openSlot b fun i => ?_)
  rw [Table.get_tabulate]
  split
  · exact takenEntry_fit (h.fit.mixes i)
  · exact copy i

theorem keepsMixes_openCue (bank row : Byte) : Owner.KeepsMixes (openCue bank row) := by
  intro s h
  unfold openCue
  split
  · rename_i b r _ _
    split
    · exact h
    · exact h.withCues (h.fit.cues.openSlot b (SceneFit.orDefault (h.fit.cues.scenes _)))
  · exact h

theorem keepsMixes_storeCue (bank : Byte) : Owner.KeepsMixes (storeCue bank) :=
  keepsMixes_withBank fun b => keepsMixes_withOpenCue fun _ _ h copy =>
    h.withCues ((h.fit.cues.writeBack b copy).openSlot b copy)

theorem keepsMixes_closeCue (bank writeback : Byte) : Owner.KeepsMixes (closeCue bank writeback) := by
  refine keepsMixes_withBank fun b s h => ?_
  dsimp only
  split
  · exact h
  · refine keepsMixes_withOpenCue (fun w s h copy => h.withCues (Cues.Fit.closeSlot ?_ b)) s h
    split
    · exact h.fit.cues.writeBack b copy
    · exact h.fit.cues

/-- An apply at once is made as CUT by an engine that does not mix (R131). -/
theorem keepsMixes_applyCueRequest (bank mode m1 m2 : Byte) : Owner.KeepsMixes (applyCueRequest bank mode m1 m2) := by
  refine keepsMixes_withBank fun b s h => ?_
  dsimp only
  split
  · exact h
  · refine keepsMixes_withOpenCue (fun w s h copy => ?_) s h
    split
    · exact h
    · rename_i still
      have fit := h.fit.applyCue copy b .cut (mixMask m1 m2) .immediate
      have rest := (h.rest (by simpa using still)).applyCut b w (mixMask m1 m2) .immediate
      generalize s.applyCue b w .cut (mixMask m1 m2) .immediate = made at fit rest ⊢
      exact ⟨fit, fun _ => rest⟩

/-! ## Every request row -/

theorem keepsMixes_zeroField {o : Owner} {f : List Byte} {take : Owner} (keeps : o.KeepsMixes) (h : zeroField o f = some take) :
    take.KeepsMixes := by
  rw [zeroField_eq] at h
  refine withFields_all 1 (fun z => ?_) h
  show Owner.KeepsMixes (if z = 0 then o else refuse .badValue)
  split
  · exact keeps
  · exact fun _ sound => sound

theorem keepsMixes_packText {f : List Byte} {take : Owner} (h : packTextOwner f = some take) : take.KeepsMixes := by
  rcases f with _ | ⟨address, _ | ⟨c, rest⟩⟩
  · cases h
  · cases h
  · simp only [packTextOwner, Option.ite_none_right_eq_some, Option.some.injEq] at h
    obtain ⟨_, rfl⟩ := h
    exact keepsMixes_of_kept (kept_packText _ _)

/-- The owner of every request row keeps the relations. -/
theorem requestOwner_keepsMixes {i : Instr} {take : Owner} (h : requestOwner i = some take) : take.KeepsMixes := by
  cases i with
  | ident | status => exact keepsMixes_zeroField (fun _ sound => sound) h
  | reset => exact keepsMixes_zeroField keepsMixes_resetPart h
  | noticeSet => exact withFields_all 2 (fun a b => keepsMixes_of_kept (kept_noticeSet a b)) h
  | format => exact withFields_all 8 (fun a b c d e f g h => keepsMixes_setFormat a b c d e f g h) h
  | start => exact keepsMixes_zeroField keepsMixes_startEngine h
  | stop => exact keepsMixes_zeroField keepsMixes_stopEngine h
  | bindStream => exact withFields_all 6 (fun a b c d e f => keepsMixes_of_kept (kept_bindStream a b c d e f)) h
  | unbindStream => exact withFields_all 1 (fun a => keepsMixes_of_kept (kept_unbindStream a)) h
  | flushStream => exact withFields_all 1 (fun a => keepsMixes_of_kept (kept_flushStream a)) h
  | setStream => exact withFields_all 2 (fun a b => keepsMixes_of_kept (kept_setStream a b)) h
  | queryStream => exact withFields_all 1 (fun a => keepsMixes_of_kept (kept_queryStream a)) h
  | bindSlot => exact withFields_all 5 (fun a b c d e => keepsMixes_of_kept (kept_bindSlot a b c d e)) h
  | setSlot => exact withFields_all 3 (fun a b c => keepsMixes_of_kept (kept_setSlot a b c)) h
  | unbindSlot => exact withFields_all 1 (fun a => keepsMixes_of_kept (kept_unbindSlot a)) h
  | querySlot => exact withFields_all 1 (fun a => keepsMixes_of_kept (kept_querySlot a)) h
  | mixSetLive | mixSetCue =>
    exact withFields_all 10 (fun _ _ c d e f g h i j =>
      keepsMixes_editTarget (keepsMixes_mixSetLive c d e f g h i j) fun k => keepsMixes_mixSetCue k c d e f g h i) h
  | addSendLive | addSendCue =>
    exact withFields_all 8 (fun _ _ c d e f g h =>
      keepsMixes_editTarget (keepsMixes_addSendLive c d e f g h) fun k => keepsMixes_addSendCue k c d e f g h) h
  | setSendLive | setSendCue =>
    exact withFields_all 9 (fun _ _ c d e f g h i =>
      keepsMixes_editTarget (keepsMixes_setSendLive c d e f g h i) fun k => keepsMixes_setSendCue k c d e f g h i) h
  | removeSendLive | removeSendCue =>
    exact withFields_all 4 (fun _ _ c d =>
      keepsMixes_editTarget (keepsMixes_removeSendLive c d) fun k => keepsMixes_removeSendCue k c d) h
  | setTrim => exact withFields_all 5 (fun a b c d e => keepsMixes_setTrim a b c d e) h
  | queryMix => exact withFields_all 2 (fun a b => keepsMixes_of_kept (kept_queryMix a b)) h
  | openCue => exact withFields_all 2 (fun a b => keepsMixes_openCue a b) h
  | takeLive => exact withFields_all 3 (fun a b c => keepsMixes_takeLive a b c) h
  | storeCue => exact withFields_all 1 (fun a => keepsMixes_storeCue a) h
  | closeCue => exact withFields_all 2 (fun a b => keepsMixes_closeCue a b) h
  | applyCue => exact withFields_all 4 (fun a b c d => keepsMixes_applyCueRequest a b c d) h
  | queryCue => exact withFields_all 3 (fun a b c => keepsMixes_of_kept (kept_queryCue a b c)) h
  | queryScene => exact withFields_all 3 (fun a b c => keepsMixes_of_kept (kept_queryScene a b c)) h
  | assignPack => exact withFields_all 3 (fun a b c => keepsMixes_of_kept (kept_assignPack a b c)) h
  | removePack => exact withFields_all 1 (fun a => keepsMixes_of_kept (kept_removePack a)) h
  | packText => exact keepsMixes_packText h
  | queryPack => exact withFields_all 1 (fun a => keepsMixes_of_kept (kept_queryPack a)) h
  | clickSet => exact withFields_all 6 (fun _ _ _ _ _ _ => keepsMixes_of_kept (kept_clickRequest _)) h
  | clickStart | clickStop => exact keepsMixes_zeroField (keepsMixes_of_kept (kept_clickRequest _)) h
  | meterSet => exact withFields_all 3 (fun a b c => keepsMixes_of_kept (kept_meterSet a b c)) h
  | queryCounters => exact withFields_all 3 (fun a b c => keepsMixes_of_kept (kept_queryCounters a b c)) h
  | powerOn | linkByteReceived | interByteGapExpiry | unknownKindRequest | transmitEnd | syncFrame | audioFrame
  | malformedStageFrame | syncWatchExpiry | holdoverTimerExpiry | announceWindowClose | grantedWindowClose
  | upstreamSignalAfterIdle => cases h

/-- A deferral marks a pending STOP or an APPLYING cue slot; a copy stays what it was. -/
theorem MixesKept.deferRequest (s : State) (kind tag : Byte) (job : DeferredJob) : MixesKept s (s.deferRequest kind tag job) := by
  unfold State.deferRequest
  split
  · exact .of_eqs rfl rfl rfl rfl
  · split
    · exact .of_eqs rfl rfl rfl rfl
    · split
      · exact .of_eqs rfl rfl rfl rfl
      · cases job with
        | stop => exact ⟨rfl, rfl, fun _ => ⟨rfl, rfl⟩, rfl, fun _ => rfl⟩
        | apply b mode mask =>
          refine ⟨rfl, rfl, fun _ => ⟨rfl, rfl⟩, rfl, fun b' => ?_⟩
          show ((s.cues.slots.modify b fun c => c.map fun w => { w with applying := true }).get b').map CueWork.copy = _
          rw [Table.get_modify]
          split
          · rename_i same
            rw [same, Option.map_map]; rfl
          · rfl

theorem MixesKept.answer (s : State) (kind tag : Byte) (a : Answer) : MixesKept s (s.answer kind tag a) := by
  cases a with
  | done | data | retry | fail => exact .of_eqs rfl rfl rfl rfl
  | wouldDefer job => exact .deferRequest s kind tag job

/-- The taking of a request keeps the relations if its owner does. -/
theorem State.MixTableSound.takeRequest {s : State} {o : Option Owner} (h : s.MixTableSound)
    (keeps : ∀ take, o = some take → take.KeepsMixes) (kind tag : Byte) : (takeRequest kind tag o s).MixTableSound := by
  rcases takeRequest_cases kind tag o s with full | ⟨e, refused⟩ | ⟨take, owner, _, decided⟩
  · rw [full]; exact h.withLink _
  · rw [refused]; exact h.withLink _
  · rw [decided]; exact (keeps take owner s h).kept (.answer _ _ _ _)

/-- A request row, of a known or an unknown kind, keeps the relations. -/
theorem State.MixTableSound.request {s t : State} (h : s.MixTableSound) {i : Instr} {kind : Byte} (hk : kindOf i = some kind)
    (run : exec i s = .next t) : t.MixTableSound := by
  obtain ⟨tag, unknown | known⟩ := exec_request_cases hk s
  · cases unknown.symm.trans run
    unfold takeUnknownKind
    split
    · exact h.withLink _
    · exact h.withLink _
  · cases known.symm.trans run
    exact h.takeRequest (fun take own => requestOwner_keepsMixes own) kind tag

/-- A received byte is taken, discarded, or completes a request. -/
theorem State.MixTableSound.byte {s t : State} (h : s.MixTableSound) {time : Time} {b : Byte}
    (run : exec (.linkByteReceived time b) s = .next t) : t.MixTableSound := by
  cases event : (s.link.settleGap time).rx.receive time b with
  | mk rx e =>
    cases e with
    | taken => cases (exec_byte_taken event).symm.trans run; exact h.withLink _
    | discarded => cases (exec_byte_discarded event).symm.trans run; exact h.withLink _
    | complete body =>
      have body' := (exec_byte_complete event).symm.trans run
      rcases State.takeBody_eq (s.withLink { s.link.settleGap time with rx := rx }) body with ⟨i, kind, hk, eq⟩ | eq
      · exact (h.withLink _).request hk (eq.symm.trans body')
      · cases eq.symm.trans body'; exact h.withLink _

end Sys2Proof.Machine
end

section
/-! Every step keeps the mixes, the send pool, the scenes and what an engine at rest leaves of them: upstream windows,
boundaries, and every other command. -/

namespace Sys2Proof.Machine

variable {s : State}

/-! ## Upstream windows: only a REQUEST decided for its mix changes one (R175) -/

theorem State.MixTableSound.withLine (h : s.MixTableSound) (l : PackLine) : (s.withLine l).MixTableSound :=
  h.kept (.of_eqs rfl rfl rfl rfl)

theorem State.MixTableSound.withStage (h : s.MixTableSound) (g : Stage) : (s.withStage g).MixTableSound :=
  h.kept (.of_eqs rfl rfl rfl rfl)

theorem State.MixTableSound.withRing (h : s.MixTableSound) (r : Ring) : (s.withRing r).MixTableSound :=
  h.kept (.of_eqs rfl rfl rfl rfl)

theorem State.MixTableSound.raisePack (h : s.MixTableSound) (n : Notice) : (s.raisePack n).MixTableSound := by
  unfold State.raisePack
  split
  · exact h.kept (.of_eqs rfl rfl rfl rfl)
  · exact h

theorem State.MixTableSound.raiseQueues (h : s.MixTableSound) (q : List (List NoticeGroup)) : (s.raiseQueues q).MixTableSound := by
  obtain ⟨notices, draws, eq⟩ := State.raiseQueues_eq s q
  rw [eq]; exact h.kept (.of_eqs rfl rfl rfl rfl)

theorem State.MixTableSound.refuseJoin (h : s.MixTableSound) (k : Serial) (r : JoinRefusal) : (s.refuseJoin k r).MixTableSound :=
  (h.withLine _).raisePack _

theorem State.MixTableSound.hello (h : s.MixTableSound) (k : Serial) : (s.hello k).MixTableSound := by
  unfold State.hello
  split
  · unfold State.helloKnown
    split
    · exact h.refuseJoin _ _
    · split
      · exact h.withLine _
      · exact (h.withLine _).raisePack _
      · exact h.withLine _
  · unfold State.helloUnknown
    split
    · exact h.refuseJoin _ _
    · split
      · exact h.refuseJoin _ _
      · exact h.withLine _

theorem State.MixTableSound.collision (h : s.MixTableSound) : s.collision.MixTableSound := by
  unfold State.collision
  split
  · exact h.withLine _
  · exact (h.withLine _).raisePack _

theorem State.MixTableSound.closeAnnounce (h : s.MixTableSound) (heard : Option (List Byte)) :
    (s.closeAnnounce heard).MixTableSound := by
  unfold State.closeAnnounce
  split
  · have closed := h.withLine { s.line with announceOpen := false }
    dsimp only
    split
    · exact closed.withLine _
    · split
      · exact (closed.withLine _).hello _
      · exact closed.collision
  · exact h

/-- A request that is carried out retrims its mix; nothing else of the mixes changes (R175 to R178). -/
theorem State.MixTableSound.decideRequest (h : s.MixTableSound) (a : Fin 24) (kind : Byte) (value : Int) (more : Bool) :
    (s.decideRequest a kind value more).MixTableSound := by
  unfold State.decideRequest
  split
  · exact h.withLine _
  · rename_i r _
    dsimp only
    split
    · exact h.withLine _
    · rename_i m _
      split
      · exact h.withLine _
      · exact (h.retrimMix m ((h.fit.mixes m).packRequest r value) (Mix.packRequest_sameShape _ r value)).withLine _

theorem State.MixTableSound.closePoll (h : s.MixTableSound) (a : Fin 24) (heard : Option (List Byte)) :
    (s.closePoll a heard).MixTableSound := by
  unfold State.closePoll
  split
  · exact h.withLine _
  · split
    · exact h.withLine _
    · exact (h.withLine _).decideRequest a _ _ _
    · exact h.withLine _

theorem State.MixTableSound.confirmFailed (h : s.MixTableSound) (a : Fin 24) : (s.confirmFailed a).MixTableSound := by
  unfold State.confirmFailed
  dsimp only
  split
  · exact h.withLine _
  · exact (h.withLine _).raisePack _

theorem State.MixTableSound.closeConfirm (h : s.MixTableSound) (a : Fin 24) (heard : Option (List Byte)) :
    (s.closeConfirm a heard).MixTableSound := by
  unfold State.closeConfirm
  split
  · exact (h.withLine _).confirmFailed a
  · split
    · exact (h.withLine _).raisePack _
    · exact (h.withLine _).confirmFailed a

theorem State.MixTableSound.decreasePresence (h : s.MixTableSound) : s.decreasePresence.MixTableSound := by
  unfold State.decreasePresence
  dsimp only
  split
  · exact (h.withLine _).raiseQueues _
  · exact h.withLine _

theorem State.MixTableSound.closeGranted (h : s.MixTableSound) (w : GrantWindow) (heard : Option (List Byte)) :
    (s.closeGranted w heard).MixTableSound := by
  unfold State.closeGranted
  dsimp only
  refine (State.MixTableSound.decreasePresence ?_).withLine _
  split
  · exact h
  · split
    · exact h.closeConfirm _ heard
    · exact h.closePoll _ heard

theorem State.MixTableSound.closeGrantedWindow (h : s.MixTableSound) (heard : Option (List Byte)) :
    (s.closeGrantedWindow heard).MixTableSound := by
  unfold State.closeGrantedWindow
  split
  · exact h
  · exact (h.closeAnnounce none).closeGranted _ heard

theorem State.MixTableSound.closeWindows (h : s.MixTableSound) : s.closeWindows.MixTableSound :=
  (h.closeAnnounce none).closeGrantedWindow none

/-! ## Deferred entries and the block that a boundary mixes -/

theorem State.MixesFit.of_eqs {t : State} (h : s.MixesFit) (mixes : t.mixes = s.mixes) (cues : t.cues = s.cues) : t.MixesFit :=
  ⟨fun i => mixes ▸ h.mixes i, mixes ▸ h.pool, cues ▸ h.cues⟩

theorem State.MixesFit.withClock (h : s.MixesFit) (c : Clock) : (s.withClock c).MixesFit := h.of_eqs rfl rfl

theorem State.MixesFit.withRing (h : s.MixesFit) (r : Ring) : (s.withRing r).MixesFit := h.of_eqs rfl rfl

/-- A deferred apply changes the mixes as an apply does; a STOP and a CLOSED slot leave them (R9, R132). -/
theorem State.MixesFit.completeEntry (h : s.MixesFit) (m : BlockNo) (d : Deferred) : (s.completeEntry m d).MixesFit := by
  cases job : d.job with
  | stop => rw [State.completeEntry_stop job]; exact h.of_eqs rfl rfl
  | apply b mode mask =>
    cases slot : s.cues.slots.get b with
    | none => rw [State.completeEntry_closed job slot]; exact h.of_eqs rfl rfl
    | some w =>
      rw [State.completeEntry_apply job slot]
      have applied := h.applyCue (h.cues.slots b w slot) b mode mask (.boundary m)
      exact applied.of_eqs (State.withLink_mixes _ _) (State.withLink_cues _ _)

theorem State.MixesFit.completeDeferred (h : s.MixesFit) (m : BlockNo) : (s.completeDeferred m).MixesFit :=
  (State.completeDeferred_induction m (fun _ d _ _ fit => fit.completeEntry m d) s h).1

/-- Each mix of a block is that mix computed (R102). -/
theorem State.MixesFit.mixBlock (h : s.MixesFit) (before : State) (n : BlockNo) : (s.mixBlock before n).MixesFit := by
  obtain ⟨_, _, cues, _, _, _, mixes, _⟩ := State.mixBlock_fields s before n
  have each : ∀ i, ((s.mixBlock before n).mixes.get i).Fit
      ∧ ((s.mixBlock before n).mixes.get i).sends.length ≤ (s.mixes.get i).sends.length := fun i => by
    rw [mixes, Table.get_map, computeMixes, Table.get_tabulate]; exact (h.mixes i).computed _ _ i _
  exact ⟨fun i => (each i).1, (poolUsed_le fun i => (each i).2).trans h.pool, cues ▸ h.cues⟩

/-- After a boundary that mixes a block the engine mixes, and nothing need be at rest. -/
theorem State.MixTableSound.mixingBoundary (h : s.MixTableSound) {c : Clock} (mixing : c.mixing = true) (n : BlockNo)
    (relocked : Bool) : (s.mixingBoundary c n relocked).MixTableSound := by
  obtain ⟨clock, _⟩ := State.mixingBoundary_frame s c n relocked
  refine ⟨?_, fun still => ?_⟩
  · rw [State.mixingBoundary_eq]
    exact (((h.closeWindows.fit.withClock c).withRing _).completeDeferred n).mixBlock s n
  · rw [clock, mixing] at still
    exact absurd still nofun

theorem State.MixTableSound.stoppingBoundary (h : s.MixTableSound) (t : Time) (bySync : Bool) :
    (s.stoppingBoundary t bySync).MixTableSound := by
  exact ((h.closeWindows.fit.withClock _).completeDeferred _).enterStopped

/-! ## Sync frames, audio frames, timers -/

theorem State.MixTableSound.syncBoundary (h : s.MixTableSound) (f : Format) (t : Time) (block : BlockNo) :
    (s.syncBoundary f t block).MixTableSound := by
  unfold State.syncBoundary
  dsimp only
  split
  · exact h.stoppingBoundary t true
  · split
    · exact h.mixingBoundary rfl _ _
    · exact h.mixingBoundary rfl _ _

/-- A realignment goes from one mixing state to the other (R34). -/
theorem State.MixTableSound.realign (h : s.MixTableSound) (f : Format) (engine : s.clock.engine = .holdover) (block : BlockNo) :
    (s.realign f block).MixTableSound := by
  have mixing : s.clock.mixing = true := Clock.mixing_iff.mpr (.inr engine)
  have running : (s.clock.afterRealign f block).mixing = true := by
    unfold Clock.afterRealign; dsimp only; split <;> rfl
  exact (h.kept (.withClock (running.trans mixing.symm))).withRing _

theorem State.MixTableSound.ownSync (h : s.MixTableSound) (f : Format) (t : Time) (block : BlockNo) :
    (s.ownSync f t block).MixTableSound := by
  unfold State.ownSync
  split
  case h_1 => exact h.mixingBoundary rfl _ _
  case h_2 =>
    split
    · exact h.kept (.withClock rfl)
    · exact h.syncBoundary f t block
  case h_3 engine =>
    split
    · exact h.realign f engine block
    · exact h.syncBoundary f t block
  case h_4 => exact h
  case h_5 => exact h

theorem State.MixTableSound.takeSync (h : s.MixTableSound) (t : Time) (id : StreamId) (block : BlockNo) :
    (s.takeSync t id block).MixTableSound := by
  unfold State.takeSync
  split
  · exact h.kept (.withClock rfl)
  · split
    · exact h.kept (.withClock rfl)
    · split
      · exact h.ownSync _ t block
      · exact h.kept (.withClock rfl)

theorem State.takeAudio_mixesKept (s : State) (f : List Byte) : MixesKept s (s.takeAudio f) := by
  unfold State.takeAudio
  dsimp only
  repeat' split
  case h_2.isFalse.isFalse.isFalse =>
    unfold State.windowAndStore
    dsimp only
    repeat' split
    all_goals exact .of_eqs rfl rfl rfl rfl
  all_goals exact .of_eqs rfl rfl rfl rfl

theorem State.MixTableSound.stageFrame (h : s.MixTableSound) (t : Time) (f : List Byte) : (s.stageFrame t f).MixTableSound := by
  unfold State.stageFrame
  split
  · exact h.withStage _
  · split
    · exact h.kept (s.takeAudio_mixesKept f)
    · split
      · split
        · exact h.takeSync _ _ _
        · exact h.withStage _
      · exact h.withStage _

theorem State.MixTableSound.timerExpiry (h : s.MixTableSound) (e : EngineState) : (s.timerExpiry e).MixTableSound := by
  unfold State.timerExpiry
  split
  · split
    · unfold State.expire
      split
      · exact h.stoppingBoundary _ false
      · exact h.mixingBoundary rfl _ _
    · exact h
  · exact h

/-! ## Every command -/

theorem exec_keeps_mixes {c : Instr} {t : State} (h : s.MixTableSound) (run : exec c s = .next t) : t.MixTableSound := by
  cases kind : kindOf c with
  | some k => exact h.request kind run
  | none =>
    cases c
    case powerOn =>
      cases run
      refine State.mixTableSound_iff.mpr ?_
      have reset := resetIsSound
      exact ⟨reset.mixes, reset.atRest, reset.cues⟩
    case linkByteReceived => exact h.byte run
    case interByteGapExpiry | transmitEnd => cases run; exact h.withLink _
    case syncFrame | audioFrame | malformedStageFrame => cases run; exact h.stageFrame _ _
    case syncWatchExpiry | holdoverTimerExpiry => cases run; exact h.timerExpiry _
    case announceWindowClose heard => cases run; exact h.closeAnnounce heard
    case grantedWindowClose heard => cases run; exact h.closeGrantedWindow heard
    case upstreamSignalAfterIdle =>
      change execUpstreamSignalAfterIdle s = .next t at run
      unfold execUpstreamSignalAfterIdle at run
      cases run
      split
      · exact h.withLine _
      · exact h
    all_goals cases kind

/-- Settles O57: a step idles or carries out the command at the front, and every command keeps mixes, pool and scenes. -/
theorem stepKeepsMixes : Obligations.StepKeepsMixes := by
  unfold Obligations.StepKeepsMixes
  intro s t sound run
  have before : s.MixTableSound := State.mixTableSound_iff.mpr ⟨sound.mixes, sound.atRest, sound.cues⟩
  refine State.mixTableSound_iff.mp ?_
  unfold step at run
  split at run
  · cases run; exact before
  · rename_i rest _
    exact exec_keeps_mixes (s := s.withPending rest) (before.kept (.of_eqs rfl rfl rfl rfl)) run

end Sys2Proof.Machine
end

section
/-! A mix at a boundary: glide, sum, master, click, limiter and output of a computed mix, and what becomes of it (R87, R88,
R102 to R118). -/

namespace Sys2Proof.Machine

variable {slots : Table Slot 48} {clicks : Table (Option Sample) 16} {m : Mix}

/-! ## What becomes of a computed mix (R87, R88) -/

theorem Mix.settled_stays (stays : ¬ (m.state = .fading ∧ m.masterCurrent = 0)) :
    m.settled = { m with sends := m.sends.filter fun d => !(d.removing && d.currentLeft == 0 && d.currentRight == 0) } :=
  if_neg stays

/-- The end of a fade frees every REMOVING send, those at 0 included. -/
theorem Mix.settled_faded (fading : m.state = .fading) (silent : m.masterCurrent = 0) :
    m.settled = { m with state := .off, sends := m.sends.filter fun d => !d.removing } := by
  have once : (m.sends.filter fun d => !(d.removing && d.currentLeft == 0 && d.currentRight == 0)).filter (fun d => !d.removing)
      = m.sends.filter fun d => !d.removing := by
    rw [List.filter_filter]
    refine List.filter_congr fun d _ => ?_
    cases d.removing <;> rfl
  rw [← once]
  exact if_pos ⟨fading, silent⟩

theorem Mix.settled_state_eq_off (on : m.state ≠ .off) : m.settled.state = .off ↔ m.state = .fading ∧ m.masterCurrent = 0 := by
  by_cases faded : m.state = .fading ∧ m.masterCurrent = 0
  · simp only [Mix.settled_faded faded.1 faded.2, faded, and_self]
  · simp only [Mix.settled_stays faded, faded, on]

/-! ## Sum, master and click (R107, R109, R110) -/

/-- The accumulators start at 0 and take one product from each send. -/
theorem accumulate_get (gain : Send → Nat) (sends : List Send) (k : Fin 16) :
    (accumulate slots gain sends).get k = (sends.map fun d => (slots.get d.slot).assembled.get k * (gain d : Int)).sum := by
  have from_acc : ∀ (ds : List Send) (acc : Block),
      (ds.foldl (fun acc d => Table.zipWith (fun a x => a + x * (gain d : Int)) acc (slots.get d.slot).assembled) acc).get k
        = acc.get k + (ds.map fun d => (slots.get d.slot).assembled.get k * (gain d : Int)).sum := by
    intro ds
    induction ds with
    | nil => intro acc; exact (add_zero _).symm
    | cons d ds ih => intro acc; rw [List.foldl_cons, ih, Table.get_zipWith, List.map_cons, List.sum_cons, add_assoc]
  rw [accumulate, from_acc, silence, Table.get_fill, zero_add]

theorem channelOf_get (gain : Send → Nat) (k : Fin 16) :
    (channelOf slots clicks m gain).get k
      = roundQ16 (roundQ16 (m.sends.map fun d => (slots.get d.slot).assembled.get k * (gain d : Int)).sum
          * (m.masterCurrent : Int)) + clickAdd m.click (clicks.get k) := by
  rw [channelOf, Table.get_zipWith, accumulate_get]

theorem silence_get (k : Fin 16) : silence.get k = 0 := Table.get_fill _ _

theorem blockPeak_silence : blockPeak silence = 0 := by
  obtain ⟨⟨k, attained⟩, _⟩ := blockPeak_isGreatest silence
  exact attained.symm.trans (congrArg Int.natAbs (silence_get k))

/-- The right channel of a glided mix: silence in MONO. -/
def rightChannel (slots : Table Slot 48) (clicks : Table (Option Sample) 16) (m : Mix) : Block :=
  if m.stereo then channelOf slots clicks m Send.currentRight else silence

theorem rightChannel_stereo (stereo : m.stereo = true) :
    rightChannel slots clicks m = channelOf slots clicks m Send.currentRight := if_pos stereo

theorem rightChannel_mono (mono : m.stereo = false) : rightChannel slots clicks m = silence :=
  if_neg (Bool.eq_false_iff.mp mono)

/-! ## Limiter and output (R112, R113, R115 to R117) -/

/-- The peak p of a block, before the limiter. -/
def peakOf (slots : Table Slot 48) (clicks : Table (Option Sample) 16) (m : Mix) : Nat :=
  max (blockPeak (channelOf slots clicks m Send.currentLeft)) (blockPeak (rightChannel slots clicks m))

theorem le_peakOf_left (k : Fin 16) : ((channelOf slots clicks m Send.currentLeft).get k).natAbs ≤ peakOf slots clicks m :=
  ((blockPeak_isGreatest _).2 ⟨k, rfl⟩).trans (le_max_left _ _)

theorem le_peakOf_right (stereo : m.stereo = true) (k : Fin 16) :
    ((channelOf slots clicks m Send.currentRight).get k).natAbs ≤ peakOf slots clicks m := by
  rw [← rightChannel_stereo stereo]
  exact ((blockPeak_isGreatest _).2 ⟨k, rfl⟩).trans (le_max_right _ _)

/-- The peak of a block is a sample's magnitude, in MONO one of the left channel. -/
theorem peakOf_attained : ∃ k, peakOf slots clicks m = ((channelOf slots clicks m Send.currentLeft).get k).natAbs
    ∨ m.stereo = true ∧ peakOf slots clicks m = ((channelOf slots clicks m Send.currentRight).get k).natAbs := by
  obtain ⟨⟨k, left⟩, _⟩ := blockPeak_isGreatest (channelOf slots clicks m Send.currentLeft)
  cases kind : m.stereo with
  | false =>
    refine ⟨k, .inl ?_⟩
    rw [peakOf, rightChannel_mono kind, blockPeak_silence, Nat.max_zero]
    exact left.symm
  | true =>
    obtain ⟨⟨j, right⟩, _⟩ := blockPeak_isGreatest (channelOf slots clicks m Send.currentRight)
    rw [peakOf, rightChannel_stereo kind]
    rcases max_choice (blockPeak (channelOf slots clicks m Send.currentLeft))
      (blockPeak (channelOf slots clicks m Send.currentRight)) with larger | larger
    · exact ⟨k, .inl (larger.trans left.symm)⟩
    · exact ⟨j, .inr ⟨rfl, larger.trans right.symm⟩⟩

theorem outSample_zero (gain c : Nat) : outSample gain c 0 = 0 := by
  rw [outSample, zero_mul, Int.zero_tdiv]
  show max (-(c : Int)) (min (c : Int) 0) = 0
  omega

theorem map_outSample_silence (gain c : Nat) : silence.map (outSample gain c) = silence :=
  Table.ext_get fun k => by rw [Table.get_map, silence_get, outSample_zero]

/-- The largest of a peak and of the magnitudes of two blocks: it bounds them, and is one of them. -/
theorem max_blockPeaks (p : Nat) (a b : Block) :
    (∀ k, (a.get k).natAbs ≤ max p (max (blockPeak a) (blockPeak b)) ∧ (b.get k).natAbs ≤ max p (max (blockPeak a) (blockPeak b)))
      ∧ (max p (max (blockPeak a) (blockPeak b)) = p
        ∨ ∃ k, max p (max (blockPeak a) (blockPeak b)) = (a.get k).natAbs
            ∨ max p (max (blockPeak a) (blockPeak b)) = (b.get k).natAbs) := by
  obtain ⟨⟨i, left⟩, leftTop⟩ := blockPeak_isGreatest a
  obtain ⟨⟨j, right⟩, rightTop⟩ := blockPeak_isGreatest b
  constructor
  · intro k
    exact ⟨(leftTop ⟨k, rfl⟩).trans ((le_max_left _ _).trans (le_max_right _ _)),
      (rightTop ⟨k, rfl⟩).trans ((le_max_right _ _).trans (le_max_right _ _))⟩
  · rcases max_choice p (max (blockPeak a) (blockPeak b)) with old | new
    · exact .inl old
    · rcases max_choice (blockPeak a) (blockPeak b) with larger | larger
      · exact .inr ⟨i, .inl (new.trans (larger.trans left.symm))⟩
      · exact .inr ⟨j, .inr (new.trans (larger.trans right.symm))⟩

/-- The gain that the limiter of a glided mix takes for its block (R112). -/
def blockGain (slots : Table Slot 48) (clicks : Table (Option Sample) 16) (m : Mix) (l : Limiter) : Nat :=
  limiterGain l.gain m.release (ceilingOf m.ceiling) (peakOf slots clicks m)

/-- The output block of a glided mix (R113). -/
def outputOf (slots : Table Slot 48) (clicks : Table (Option Sample) 16) (i : Fin 16) (m : Mix) (l : Limiter) : OutBlock :=
  { mix := i, stereo := m.stereo
    left := (channelOf slots clicks m Send.currentLeft).map (outSample (blockGain slots clicks m l) (ceilingOf m.ceiling))
    right := (rightChannel slots clicks m).map (outSample (blockGain slots clicks m l) (ceilingOf m.ceiling)) }

theorem outputOf_left (i : Fin 16) (l : Limiter) (k : Fin 16) :
    (outputOf slots clicks i m l).left.get k = outSample (blockGain slots clicks m l) (ceilingOf m.ceiling)
      ((channelOf slots clicks m Send.currentLeft).get k) := Table.get_map _ _ k

theorem outputOf_right (stereo : m.stereo = true) (i : Fin 16) (l : Limiter) (k : Fin 16) :
    (outputOf slots clicks i m l).right.get k = outSample (blockGain slots clicks m l) (ceilingOf m.ceiling)
      ((channelOf slots clicks m Send.currentRight).get k) := by
  rw [← rightChannel_stereo stereo]; exact Table.get_map _ _ k

theorem outputOf_mono (mono : m.stereo = false) (i : Fin 16) (l : Limiter) : (outputOf slots clicks i m l).right = silence := by
  rw [outputOf, rightChannel_mono mono]; exact map_outSample_silence _ _

/-- A computed mix whole, by the channels of the glided mix. -/
theorem computeMix_computed (on : m.state ≠ .off) (i : Fin 16) (l : Limiter) :
    computeMix slots clicks i m l =
      { mix := m.glided.settled
        limiter :=
          { gain := if m.glided.settled.state = .off then Config.unity else blockGain slots clicks m.glided l
            peak := max l.peak (max (blockPeak (outputOf slots clicks i m.glided l).left)
              (blockPeak (outputOf slots clicks i m.glided l).right))
            lowest := min l.lowest (blockGain slots clicks m.glided l)
            condition := decide (blockGain slots clicks m.glided l < Config.unity ∧ ¬ m.glided.settled.state = .off) }
        block := some (outputOf slots clicks i m.glided l)
        peak := if m.glided.settled.state = .off then 0 else peakOf slots clicks m.glided } := by
  unfold computeMix
  split
  · contradiction
  · rfl

/-! ## The statement -/

/-- Settles O33: the mix by how it settles, its block by channels, peak and limiter gain. -/
theorem mixSettles : Obligations.MixSettles := by
  unfold Obligations.MixSettles
  intro slots clicks i m l r g sum click z c
  have sample (gain : Send → Nat) (k : Fin 16) : (channelOf slots clicks m.glided gain).get k = z gain k := by
    rw [channelOf_get]
    show _ = roundQ16 _ + click k
    congr 1
    show clickAdd m.click (clicks.get k) = match clicks.get k with
      | some x => if m.click = 0 then 0 else (x * (gainOf m.click : Int) + 32768) / 65536
      | none => 0
    cases clicks.get k <;> rfl
  have whole (on : m.state ≠ .off) : r = _ := computeMix_computed on i l
  refine ⟨fun off => computeMix_off off slots clicks i l, fun stays => ?_, fun fading silent => ?_, fun on sounding => ?_,
    fun on => ?_⟩
  · have on : m.state ≠ .off := by rcases stays with on | ⟨on, _⟩ <;> rw [on] <;> nofun
    rw [whole on]
    refine Mix.settled_stays fun ⟨fading, silent⟩ => ?_
    rcases stays with on | ⟨_, sounds⟩
    · exact absurd (on.symm.trans fading) nofun
    · exact sounds silent
  · have on : m.state ≠ .off := by rw [fading]; nofun
    have off := (Mix.settled_state_eq_off (m := m.glided) on).mpr ⟨fading, silent⟩
    rw [whole on]
    exact ⟨Mix.settled_faded (m := m.glided) fading silent, if_pos off, decide_eq_false fun ⟨_, stays⟩ => stays off, nofun⟩
  · rw [whole on] at sounding ⊢
    simp only [if_neg sounding, decide_eq_true_iff, and_iff_left sounding]
  · obtain ⟨bound, attained⟩ := max_blockPeaks l.peak (outputOf slots clicks i m.glided l).left
      (outputOf slots clicks i m.glided l).right
    rw [whole on]
    refine ⟨peakOf slots clicks m.glided, outputOf slots clicks i m.glided l, fun k => ⟨?_, fun stereo => ?_⟩, ?_, rfl, rfl, rfl,
      fun k => ?_, fun stereo k => ?_, fun mono => outputOf_mono (m := m.glided) mono i l,
      fun sounding => ⟨if_neg sounding, if_neg sounding⟩, fun off => if_pos off, rfl, le_max_left _ _, bound, attained⟩
    · rw [← sample]; exact le_peakOf_left k
    · rw [← sample]; exact le_peakOf_right (m := m.glided) stereo k
    · simp only [← sample]; exact peakOf_attained (m := m.glided)
    · rw [← sample]; exact outputOf_left i l k
    · rw [← sample]; exact outputOf_right (m := m.glided) stereo i l k

end Sys2Proof.Machine
end

section
/-! An apply whole (R133 to R139): its decision, the masked mixes send by send, its counts and its record. -/

namespace Sys2Proof.Machine

/-! ## The terms of the decision (R133 to R135) -/

theorem isNone_find?_slot {α : Type} (slotOf : α → Fin 48) (k : Fin 48) (l : List α) :
    (l.find? fun x => slotOf x == k).isNone = l.all fun x => slotOf x != k := by
  rw [Bool.eq_iff_iff, Option.isNone_iff_eq_none, List.find?_eq_none, List.all_eq_true]
  exact forall₂_congr fun x _ => by rw [Bool.not_eq_true, bne, Bool.not_eq_true']

theorem appliedState_eq (mode : ApplyMode) (live : MixState) (on : Bool) :
    appliedState mode live on = if on then .on else if live = .off ∨ mode = .cut then .off else .fading := by
  cases on with
  | true => rfl
  | false => cases mode <;> cases live <;> rfl

theorem outgoing_eq (m : Mix) (e : MixEntry) :
    outgoing m e = m.sends.filter fun d => e.sends.all fun x => x.slot != d.slot :=
  List.filter_congr fun d _ => isNone_find?_slot SceneSend.slot d.slot e.sends

/-- An apply is refused when the pool is passed, after the fallback of a GLIDE too (R134). -/
theorem poolDecision_eq (mixes : Table Mix 16) (copy : Scene) (mask : MixMask) (mode : ApplyMode) :
    poolDecision mixes copy mask mode =
      if 256 < recordsAfter mixes copy mask mode false ∧ (mode = .cut ∨ 256 < recordsAfter mixes copy mask mode true) then none
      else some (decide (256 < recordsAfter mixes copy mask mode false)) := by
  unfold poolDecision
  by_cases fits : recordsAfter mixes copy mask mode false ≤ 256
  · rw [if_pos fits, if_neg (fun passed => absurd passed.1 (not_lt.mpr fits)), decide_eq_false (not_lt.mpr fits)]
  · rw [if_neg fits, decide_eq_true (not_le.mp fits)]
    cases mode with
    | cut => rw [if_neg (fun glide => absurd glide.1 nofun), if_pos ⟨not_le.mp fits, .inl rfl⟩]
    | glide =>
      by_cases emptied : recordsAfter mixes copy mask .glide true ≤ 256
      · rw [if_pos ⟨rfl, emptied⟩, if_neg (fun refused => refused.2.elim nofun (not_lt.mpr emptied))]
      · rw [if_neg (fun falls => emptied falls.2), if_pos ⟨not_le.mp fits, .inr (not_le.mp emptied)⟩]

/-! ## The mask of the cut mixes (R139) -/

theorem sum_two_pow_eq_ofBits : ∀ {n : Nat} (p : Fin n → Bool), (∑ i, if p i then 2 ^ i.val else 0) = Nat.ofBits p := by
  intro n
  induction n with
  | zero => exact fun _ => rfl
  | succ n ih =>
    intro p
    rw [Fin.sum_univ_succ, Nat.ofBits_succ, ← ih, Finset.mul_sum, Nat.add_comm]
    congr 1
    · refine Finset.sum_congr rfl fun i _ => ?_
      rw [Function.comp_apply, Fin.val_succ, Nat.pow_succ']
      split <;> rfl
    · cases p 0 <;> rfl

theorem cutMask_getLsbD (mixes : Table Mix 16) (copy : Scene) (mask : MixMask) (mode : ApplyMode) (i : Fin 16) :
    (cutMask mixes copy mask mode).getLsbD i.val = (inMask mask i && isCut mode (mixes.get i) (copy.get i)) := by
  have bits := sum_two_pow_eq_ofBits fun i => inMask mask i && isCut mode (mixes.get i) (copy.get i)
  simp only [Bool.and_eq_true, Fin.sum_univ_def] at bits
  rw [cutMask, bits, BitVec.getLsbD_ofNat, decide_eq_true i.isLt, Bool.true_and]
  exact Nat.testBit_ofBits_lt _ i.val i.isLt

/-! ## A masked mix, send by send (R135 to R138) -/

section
variable (m : Mix) (mode : ApplyMode) (e : MixEntry) (kept : List Send)

theorem masterTargetOf_applied : masterTargetOf (m.applied mode e kept) = masterTargetOf (m.askedBy mode e) := by
  rw [Mix.applied_eq]; rfl

/-- The record after an apply, but for its sends. -/
theorem Mix.applied_record :
    m.applied mode e kept = { m with
      state := appliedState mode m.state e.on, stereo := e.stereo, master := e.master, ceiling := e.ceiling, release := e.release
      masterTarget := masterTargetOf (m.applied mode e kept), sends := (m.applied mode e kept).sends
      masterCurrent := if mode = .cut then masterTargetOf (m.applied mode e kept) else m.masterCurrent } := by
  rw [masterTargetOf_applied, Mix.applied_eq]; rfl

/-- A send after an apply: turned by the change of kind, and aimed at the targets of the record after it. -/
theorem Send.turnedFor_askedBy (d : Send) :
    d.turnedFor m (m.askedBy mode e) = { d.turned m e.stereo with
      targetLeft := (sendTargets (m.applied mode e kept) d).1, targetRight := (sendTargets (m.applied mode e kept) d).2 } := by
  have same : sendTargets (m.askedBy mode e) (d.turned m e.stereo) = sendTargets (m.applied mode e kept) d := by
    rw [sendTargets_turned, Mix.applied_eq]; rfl
  rw [← same]; rfl

theorem Mix.applied_sends : (m.applied mode e kept).sends = (appliedSends m e kept).map (Send.placedBy m mode e) := by
  rw [Mix.applied_eq]

variable {m e kept}

theorem Mix.applied_filter (sound : m.Fit) (entry : e.Fit) (sub : kept.Sublist (outgoing m e)) :
    ((m.applied mode e kept).sends.filter fun d => d.removing) = kept.map (fun d => d.marked.placedBy m mode e)
      ∧ ((m.applied mode e kept).sends.filter fun d => !d.removing)
        = (e.sends.map (appliedSend m)).map (Send.placedBy m mode e) := by
  obtain ⟨out, scene⟩ := appliedSends_filter sound entry sub
  have keeps : (fun d => d.removing) ∘ Send.placedBy m mode e = fun d => d.removing :=
    funext fun d => Send.placedBy_removing m mode e d
  have keeps' : (fun d => !d.removing) ∘ Send.placedBy m mode e = fun d => !d.removing :=
    funext fun d => congrArg not (Send.placedBy_removing m mode e d)
  rw [Mix.applied_sends, List.filter_map, List.filter_map, keeps, keeps', out, scene, List.map_map]
  exact ⟨rfl, rfl⟩

end

/-! ## The tables after an apply -/

theorem State.mixesSound_iff {s : State} : s.MixesSound ↔ (∀ i, (s.mixes.get i).Fit) ∧ poolUsed s.mixes ≤ 256 := by
  rw [State.MixesSound, Table.forall_iff s.mixes Mix.Sound]
  exact and_congr_left' (forall_congr' fun i => Mix.sound_iff)

section
variable {mixes : Table Mix 16} {copy : Scene} {mask : MixMask} {mode : ApplyMode} {fallback : Bool} {i : Fin 16}

theorem appliedMixes_masked (masked : inMask mask i = true) : (appliedMixes mixes copy mask mode fallback).get i
    = (mixes.get i).applied mode (copy.get i) (finalOutgoing mode fallback (mixes.get i) (copy.get i)) :=
  (appliedMixes_get _ _ _ _ _ _).trans (if_pos masked)

theorem appliedMixes_unmasked (unmasked : inMask mask i = false) :
    (appliedMixes mixes copy mask mode fallback).get i = mixes.get i :=
  (appliedMixes_get _ _ _ _ _ _).trans (if_neg (Bool.eq_false_iff.mp unmasked))

theorem appliedLimiters_unmasked (limiters : Table Limiter 16) (unmasked : inMask mask i = false) :
    (appliedLimiters limiters mixes (appliedMixes mixes copy mask mode fallback)).get i = limiters.get i := by
  rw [appliedLimiters, Table.get_tabulate, appliedMixes_unmasked unmasked]
  exact if_neg fun ⟨on, off⟩ => on off

theorem appliedLimiters_masked (limiters : Table Limiter 16) (masked : inMask mask i = true) :
    (appliedLimiters limiters mixes (appliedMixes mixes copy mask mode fallback)).get i
      = if (mixes.get i).state ≠ .off ∧ appliedState mode (mixes.get i).state (copy.get i).on = .off
        then { limiters.get i with gain := 65536 } else limiters.get i := by
  rw [appliedLimiters, Table.get_tabulate, appliedMixes_masked masked, Mix.applied_eq]
  rfl

end

/-! ## The statement -/

/-- Settles O38: the statement's terms are those of the model's decision, and each masked mix is the mix applied. -/
theorem applyEffect : Obligations.ApplyEffect := by
  unfold Obligations.ApplyEffect
  intro s b w mode mask moment sound copySound p t masked next out stays crowded kept count refused recorded
  have mixes : ∀ i, (s.mixes.get i).Fit := fun i => Mix.sound_iff.mp (sound.1 _ ((Table.mem_iff _ _).mpr ⟨i, rfl⟩))
  have copy : SceneFit w.copy := fun i => MixEntry.sound_iff.mp (copySound _ ((Table.mem_iff _ _).mpr ⟨i, rfl⟩))
  have nexts (i : Fin 16) : next i = appliedState mode (s.mixes.get i).state (w.copy.get i).on := (appliedState_eq _ _ _).symm
  have outs (i : Fin 16) : out i = outgoing (s.mixes.get i) (w.copy.get i) := (outgoing_eq _ _).symm
  have stayers (i : Fin 16) : stays i = keptOutgoing mode (s.mixes.get i) (w.copy.get i) := by
    show (if mode = .glide ∧ next i ≠ .off then out i else []) = _
    rw [nexts, outs]; rfl
  have crowds (i : Fin 16) : crowded i = isCut mode (s.mixes.get i) (w.copy.get i) := by
    show decide (24 < _ + (stays i).length) = _
    rw [stayers]; rfl
  have keeps (f : Bool) (i : Fin 16) : kept f i = finalOutgoing mode f (s.mixes.get i) (w.copy.get i) := by
    show (if f = true ∨ crowded i = true then [] else stays i) = _
    rw [crowds, stayers]; rfl
  have counts (f : Bool) : count f = recordsAfter s.mixes w.copy mask mode f := by
    show ((List.finRange 16).map fun i => if masked i then _ + (kept f i).length else _).sum = _
    simp only [keeps]; rfl
  have pool : poolDecision s.mixes w.copy mask mode = if refused then none else some (decide (256 < count false)) := by
    rw [poolDecision_eq, ← counts, ← counts]
  have whole : p = s.applyCue b w mode mask moment := rfl
  clear_value p next out stays crowded kept count
  by_cases full : refused
  · have refusal := whole.trans (State.applyCue_refused (pool.trans (if_pos full)) b moment)
    refine ⟨?_, fun _ => ?_, fun made => absurd full made⟩
    · show p.1.MixesSound
      rw [refusal]; exact sound
    · show p.2 = _ ∧ p.1 = _
      rw [refusal]; exact ⟨rfl, rfl⟩
  · have made := whole.trans (State.applyCue_made (pool.trans (if_neg full)) b moment)
    have afterMixes : t.mixes = appliedMixes s.mixes w.copy mask mode (decide (256 < count false)) := by
      show p.1.mixes = _
      rw [made]; rfl
    have afterLimiters : t.limiters = appliedLimiters s.limiters s.mixes
        (appliedMixes s.mixes w.copy mask mode (decide (256 < count false))) := by
      show p.1.limiters = _
      rw [made]; rfl
    have used : poolUsed t.mixes = count (decide (256 < count false)) := by
      rw [afterMixes, poolUsed_appliedMixes]; exact (counts _).symm
    refine ⟨State.mixesSound_iff.mpr ⟨fun i => ?_, ?_⟩, fun refusal => absurd refusal full,
      fun _ => ⟨by rw [made], fun i unmasked => ⟨?_, ?_⟩, fun i isMasked => ?_,
        ⟨cutMask s.mixes w.copy mask mode, fun i => ?_, ?_, used⟩, ?_⟩⟩
    · rw [afterMixes]; exact appliedMixes_fit mixes copy mask mode _ i
    · rw [afterMixes, poolUsed_appliedMixes]; exact poolDecision_fits (pool.trans (if_neg full))
    · rw [afterMixes]; exact appliedMixes_unmasked unmasked
    · rw [afterLimiters]; exact appliedLimiters_unmasked _ unmasked
    · intro m m' e scene turned aimed placed
      have after : m' = m.applied mode e (kept (decide (256 < count false)) i) := by
        show t.mixes.get i = _
        rw [afterMixes, appliedMixes_masked isMasked, keeps]
      have aims (d : Send) : aimed d = d.turnedFor m (m.askedBy mode e) := by
        rw [Send.turnedFor_askedBy m mode e, ← after]; rfl
      have places (d : Send) : placed d = d.placedBy m mode e := by
        show (if mode = .cut ∨ (m.state = .off ∧ next i = .on) then (aimed d).cut else aimed d) = _
        rw [aims, nexts, Send.placedBy]
        exact if_congr (decide_eq_true_iff (p := mode = .cut ∨ _)).symm rfl rfl
      have sub : (kept (decide (256 < count false)) i).Sublist (outgoing m e) := by
        rw [keeps]; exact finalOutgoing_sublist _ _ _ _
      obtain ⟨removing, active⟩ := Mix.applied_filter mode (mixes i) (copy i) sub
      refine ⟨?_, ?_, ?_, ?_⟩
      · rw [nexts, after]; exact Mix.applied_record m mode e _
      · rw [after, funext places]; exact active
      · simp only [places]; rw [after]; exact removing
      · rw [afterLimiters, nexts]; exact appliedLimiters_masked _ isMasked
    · rw [crowds]; exact cutMask_getLsbD _ _ _ _ i
    · show p.1.cues = _
      simp only [outs, keeps]
      rw [made, insertedCount]
      simp only [Mix.sendOn, isNone_find?_slot Send.slot]
      rfl
    · show p.1 = ((s.withMixes p.1.mixes).withLimiters p.1.limiters).withCues p.1.cues
      rw [made]; rfl

end Sys2Proof.Machine
end

section
/-! MIX_SET with target LIVE: its tests, the mix that it leaves by the state before it and after it, and the limiter (R84 to R86,
R115). -/

namespace Sys2Proof.Machine

theorem editTarget_live (bank : Byte) (live : Owner) (cue : Fin 4 → Owner) : editTarget 0 bank live cue = live := if_pos rfl

theorem Table.set_get_self {α : Type} {n : Nat} (t : Table α n) (i : Fin n) : t.set i (t.get i) = t := by
  refine Table.ext_get fun j => ?_
  rw [Table.get_set]
  split
  · rename_i same; rw [same]
  · rfl

/-! ## The mix that MIX_SET leaves -/

theorem masterTargetOf_eq (m : Mix) : masterTargetOf m = if m.state = .on then gainOf (effectiveMaster m) else 0 := by
  by_cases on : m.state = .on
  · rw [if_pos on, masterTargetOf_on on]
  · rw [if_neg on, masterTargetOf_not_on on]

/-- MIX_SET whole: the way from OFF to ON cuts the sends, the direct way from ON to OFF frees the REMOVING ones. -/
theorem Mix.set_eq (m : Mix) {mixing on : Bool} {next : MixState} (reaches : requestedState mixing m.state on = next)
    {stereo : Bool} {master ceiling release click : Nat} {aimed : Send → Send}
    (aims : Send.turnedFor m (m.asked next stereo master ceiling release click) = aimed) :
    let settled := m.asked next stereo master ceiling release click
    m.set mixing on stereo master ceiling release click = { settled with
      masterTarget := if next = .on then gainOf (effectiveMaster settled) else 0
      masterCurrent := if m.state = .on ∧ next = .off then 0 else m.masterCurrent
      sends :=
        if m.state = .off ∧ next = .on then (m.sends.map aimed).map Send.cut
        else if m.state = .on ∧ next = .off then (m.sends.map aimed).filter fun d => !d.removing
        else m.sends.map aimed } := by
  intro settled
  subst aims
  have cases := Mix.set_cases m mixing on stereo master ceiling release click
  simp only [reaches] at cases
  have target : masterTargetOf settled = if next = .on then gainOf (effectiveMaster settled) else 0 := masterTargetOf_eq settled
  rcases cases with ⟨off, up, eq⟩ | ⟨on, down, eq⟩ | ⟨up, down, eq⟩
  · have rises : m.state = .off ∧ next = .on := ⟨off, up⟩
    have stays : ¬ (m.state = .on ∧ next = .off) := fun falls => absurd (off.symm.trans falls.1) nofun
    rw [eq, ← target, if_neg stays, if_pos rises]
    rfl
  · have falls : m.state = .on ∧ next = .off := ⟨on, down⟩
    have stays : ¬ (m.state = .off ∧ next = .on) := fun rises => absurd (on.symm.trans rises.1) nofun
    have silent : masterTargetOf settled = 0 := masterTargetOf_not_on fun h => absurd (down.symm.trans h) nofun
    rw [eq, ← target, if_neg stays, if_pos falls, if_pos falls, silent]
  · rw [eq, ← target, if_neg up, if_neg down, if_neg down]
    rfl

/-! ## The request -/

theorem mixSetLive_badIndex {mix : Byte} (h : 16 ≤ mix.toNat) (state kind master ceiling rel1 rel2 click : Byte) (s : State) :
    mixSetLive mix state kind master ceiling rel1 rel2 click s = (s, .fail .badIndex) := by
  rw [mixSetLive, index?_of_ge h]

section
variable {mix : Byte} {i : Fin 16} (hi : mix.toNat = i.val) {state kind : Byte} (master ceiling rel1 rel2 click : Byte) (s : State)
include hi

theorem mixSetLive_badValue (bad : 2 ≤ state.toNat ∨ 2 ≤ kind.toNat) :
    mixSetLive mix state kind master ceiling rel1 rel2 click s = (s, .fail .badValue) := by
  rw [mixSetLive, index?_of_lt hi]
  rcases bad with bad | bad
  · rw [flag?_of_ge bad]
  · rw [flag?_of_ge bad]; cases flag? state <;> rfl

/-- The mix is set, and the limiter of a mix that became OFF is at unity. -/
theorem mixSetLive_good (hs : state.toNat ≤ 1) (hk : kind.toNat ≤ 1) {m' : Mix}
    (set : (s.mixes.get i).set s.clock.mixing (decide (state = 1)) (decide (kind = 1)) (min 127 master.toNat)
      (max 64 (min 112 ceiling.toNat)) (max 1 (min 4096 (nat16 rel1 rel2))) (min 127 click.toNat) = m') :
    mixSetLive mix state kind master ceiling rel1 rel2 click s =
      ((s.withMixes (s.mixes.set i m')).withLimiters (s.limiters.set i
        (if (s.mixes.get i).state ≠ .off ∧ m'.state = .off then { s.limiters.get i with gain := 65536 } else s.limiters.get i)),
       .done (mixReport m')) := by
  rw [mixSetLive, index?_of_lt hi, flag?_of_le hs, flag?_of_le hk]
  simp only [levelCode_eq, clampNat, set]
  split
  · rfl
  · rw [Table.set_get_self]; rfl

end

theorem requestedState_eq (c : Clock) (before : MixState) (state : Byte) :
    requestedState c.mixing before (decide (state = 1)) = if state = 1 then .on else match before with
      | .off => .off
      | .on => if c.engine = .running ∨ c.engine = .holdover then .fading else .off
      | .fading => .fading := by
  refine if_congr decide_eq_true_iff rfl ?_
  cases before with
  | off | fading => rfl
  | on => exact if_congr Clock.mixing_iff rfl rfl

/-- Settles O27: the tests, and the mix and limiter of a request that passes them. -/
theorem mixSetLiveAndKinds : Obligations.MixSetLiveAndKinds := by
  unfold Obligations.MixSetLiveAndKinds
  intro s tag bank mix state kind master ceiling rel1 rel2 click admits command
  have answered {t : State} {a : Answer} (h : mixSetLive mix state kind master ceiling rel1 rel2 click s = (t, a)) :
      exec command s = .next (t.answer 0x30 tag a) :=
    exec_answer rfl rfl rfl admits ((congrFun (editTarget_live bank _ _) s).trans h)
  refine ⟨fun high => answered (mixSetLive_badIndex high _ _ _ _ _ _ _ s), fun i hi =>
    ⟨fun bad => answered (mixSetLive_badValue hi _ _ _ _ _ s bad), fun hs hk => ?_⟩⟩
  intro m mixing next settled turned aimed m' l'
  have reaches : requestedState s.clock.mixing m.state (decide (state = 1)) = next := requestedState_eq _ _ _
  have turns (d : Send) : d.turned m (decide (kind = 1)) = turned d := by
    have mono : decide (kind = 1) = false ↔ kind = 0 := by
      rw [decide_eq_false_iff_not]; bv_omega
    simp only [Send.turned, decide_eq_true_iff, mono]; rfl
  have aims : Send.turnedFor m settled = aimed := funext fun d => by
    have same : sendTargets settled (turned d) = sendTargets settled d := by rw [← turns, sendTargets_turned]
    show (d.turned m (decide (kind = 1))).retarget settled = { turned d with
      targetLeft := (sendTargets settled d).1, targetRight := (sendTargets settled d).2 }
    rw [turns, ← same]; rfl
  have set : m.set s.clock.mixing (decide (state = 1)) (decide (kind = 1)) (min 127 master.toNat)
      (max 64 (min 112 ceiling.toNat)) (max 1 (min 4096 (nat16 rel1 rel2))) (min 127 click.toNat) = m' :=
    Mix.set_eq m reaches aims
  have report : mixReport m' = be1 (mixStateCode next) ++ [kind] ++ be1 m'.master ++ be1 m'.ceiling ++ be2 m'.release
      ++ be1 m'.click := by rw [← yesNo_flag hk]; rfl
  rw [← report]
  exact answered (mixSetLive_good hi _ _ _ _ _ s hs hk set)

end Sys2Proof.Machine
end

section
/-! ADD_SEND, SET_SEND and REMOVE_SEND with target LIVE: their tests in order and the mix that each leaves (R89 to R93). -/

namespace Sys2Proof.Machine

/-! ## Records on a slot -/

theorem Mix.sendOn_isSome_of_removing {m : Mix} {k : Fin 48} (h : ∃ d ∈ m.sends, d.slot = k ∧ d.removing = true) :
    (m.sendOn k).isSome = true := by
  obtain ⟨d, mem, slot, _⟩ := h
  exact Mix.sendOn_isSome.mpr ⟨d, mem, slot⟩

theorem Mix.sendOn_isNone_of_neither {m : Mix} {k : Fin 48} (active : ¬ ∃ d ∈ m.sends, d.slot = k ∧ d.removing = false)
    (removing : ¬ ∃ d ∈ m.sends, d.slot = k ∧ d.removing = true) : ¬ (m.sendOn k).isSome = true := by
  intro some
  obtain ⟨d, mem, slot⟩ := Mix.sendOn_isSome.mp some
  cases marked : d.removing with
  | true => exact removing ⟨d, mem, slot, marked⟩
  | false => exact active ⟨d, mem, slot, marked⟩

/-! ## The fields that SET_SEND selects (R92, R212) -/

theorem selectedChange_apply (flags level balance self mute : Byte) (d : Send) :
    (selectedChange flags level balance self mute).apply d = { d with
      level := if flags.getLsbD 0 then min 127 level.toNat else d.level
      balance := if flags.getLsbD 1 then max (-16) (min 16 balance.toInt) else d.balance
      self := if flags.getLsbD 2 then decide (self = 1) else d.self
      mute := if flags.getLsbD 3 then decide (mute = 1) else d.mute } := by
  have pick : ∀ {α : Type} (bit : Bool) (x y : α), (if bit then some x else none).getD y = if bit then x else y := by
    intro α bit x y; cases bit <;> rfl
  simp only [selectedChange, SendChange.apply, pick, levelCode_eq, trimCode, clampInt]

theorem flags_mod_16 (flags : Byte) : flags.toNat % 16 = 0 ↔
    flags.getLsbD 0 = false ∧ flags.getLsbD 1 = false ∧ flags.getLsbD 2 = false ∧ flags.getLsbD 3 = false := by
  have bit (i : Nat) : flags.getLsbD i = false ↔ ¬ flags.toNat / 2 ^ i % 2 = 1 := by
    rw [BitVec.getLsbD, Nat.testBit_eq_decide_div_mod_eq, decide_eq_false_iff_not]
  simp only [bit]
  omega

theorem selectedChange_isEmpty (flags level balance self mute : Byte) :
    (selectedChange flags level balance self mute).isEmpty = true ↔ flags.toNat % 16 = 0 := by
  have none : ∀ {α : Type} (bit : Bool) (x : α), (if bit then some x else none).isNone = !bit := by
    intro α bit x; cases bit <;> rfl
  simp only [selectedChange, SendChange.isEmpty, none, flags_mod_16, Bool.and_eq_true, Bool.not_eq_true', and_assoc]

/-! ## The requests -/

theorem addSendLive_badIndex {mix slot : Byte} (h : 16 ≤ mix.toNat ∨ 48 ≤ slot.toNat) (level balance self mute : Byte) (s : State) :
    addSendLive mix slot level balance self mute s = (s, .fail .badIndex) := by
  simp only [addSendLive]
  rcases h with h | h
  · simp only [index?_of_ge h]
  · simp only [index?_of_ge h]
    cases index? 16 mix <;> rfl

section
variable {mix slot : Byte} (h : 16 ≤ mix.toNat ∨ 48 ≤ slot.toNat) (s : State)
include h

theorem setSendLive_badIndex (flags level balance self mute : Byte) :
    setSendLive mix slot flags level balance self mute s = (s, .fail .badIndex) := by
  simp only [setSendLive]
  rcases h with h | h
  · simp only [index?_of_ge h]
  · simp only [index?_of_ge h]
    cases index? 16 mix <;> rfl

theorem removeSendLive_badIndex : removeSendLive mix slot s = (s, .fail .badIndex) := by
  simp only [removeSendLive]
  rcases h with h | h
  · simp only [index?_of_ge h]
  · simp only [index?_of_ge h]
    cases index? 16 mix <;> rfl

end

section
variable {mix slot : Byte} {i : Fin 16} {k : Fin 48} (hi : mix.toNat = i.val) (hk : slot.toNat = k.val) (s : State)
include hi hk

theorem addSendLive_badValue {self mute : Byte} (bad : ¬ (self.toNat ≤ 1 ∧ mute.toNat ≤ 1)) (level balance : Byte) :
    addSendLive mix slot level balance self mute s = (s, .fail .badValue) := by
  rw [addSendLive, index?_of_lt hi, index?_of_lt hk]
  rcases flags_refused bad with refused | refused
  · rw [refused]
  · rw [refused]; cases flag? self <;> rfl

theorem addSendLive_good {self mute : Byte} (values : self.toNat ≤ 1 ∧ mute.toNat ≤ 1) (level balance : Byte) :
    addSendLive mix slot level balance self mute s =
      let m := s.mixes.get i
      let code := min 127 level.toNat
      let place := max (-16) (min 16 balance.toInt)
      if (m.activeOn k).isSome then (s, .fail .sendExists)
      else if (m.sendOn k).isSome then
        (s.withMixes (s.mixes.set i (m.reviveSend k code place (decide (self = 1)) (decide (mute = 1)))),
         .done (be1 code ++ signed1 place ++ be1 1))
      else if 24 ≤ m.sends.length then (s, .fail .mixFull)
      else if poolFree s.mixes = 0 then (s, .fail .poolFull)
      else
        (s.withMixes (s.mixes.set i (m.insertSend k code place (decide (self = 1)) (decide (mute = 1)))),
         .done (be1 code ++ signed1 place ++ be1 0)) := by
  rw [addSendLive, index?_of_lt hi, index?_of_lt hk, flag?_of_le values.1, flag?_of_le values.2]
  simp only [levelCode_eq, trimCode, clampInt]

theorem setSendLive_badValue {flags self mute : Byte} (bad : SetRefused flags self mute) (level balance : Byte) :
    setSendLive mix slot flags level balance self mute s = (s, .fail .badValue) := by
  rw [setSendLive, index?_of_lt hi, index?_of_lt hk, sendChange?_refused bad]

section
variable {flags self mute : Byte} (ok : ¬ SetRefused flags self mute) (level balance : Byte)
include ok

theorem setSendLive_noSend (absent : (s.mixes.get i).activeOn k = none) :
    setSendLive mix slot flags level balance self mute s = (s, .fail .noSend) := by
  rw [setSendLive, index?_of_lt hi, index?_of_lt hk, sendChange?_selected ok]
  simp only [absent]

theorem setSendLive_empty {d : Send} (found : (s.mixes.get i).activeOn k = some d) (empty : flags.toNat % 16 = 0) :
    setSendLive mix slot flags level balance self mute s = (s, .done (sendReport d.level d.balance d.self d.mute)) := by
  obtain ⟨b0, b1, b2, b3⟩ := (flags_mod_16 flags).mp empty
  rw [setSendLive, index?_of_lt hi, index?_of_lt hk, sendChange?_selected ok]
  simp only [found]
  rw [if_pos ((selectedChange_isEmpty _ _ _ _ _).mpr empty), selectedChange_apply, b0, b1, b2, b3]
  rfl

theorem setSendLive_changed {d : Send} (found : (s.mixes.get i).activeOn k = some d) (nonempty : flags.toNat % 16 ≠ 0) :
    setSendLive mix slot flags level balance self mute s =
      let m := s.mixes.get i
      let changed := (selectedChange flags level balance self mute).apply
      (s.withMixes (s.mixes.set i (m.updateSend k fun d => (changed d).retarget m)),
       .done (sendReport (changed d).level (changed d).balance (changed d).self (changed d).mute)) := by
  rw [setSendLive, index?_of_lt hi, index?_of_lt hk, sendChange?_selected ok]
  simp only [found]
  rw [if_neg (fun empty => nonempty ((selectedChange_isEmpty _ _ _ _ _).mp empty))]

end

theorem removeSendLive_eq : removeSendLive mix slot s =
    let m := s.mixes.get i
    if (m.activeOn k).isNone then (s, .fail .noSend)
    else if s.clock.mixing ∧ m.state ≠ .off then
      (s.withMixes (s.mixes.set i { m with sends := m.sends.map fun d => if d.slot = k then
          { d with removing := true, targetLeft := 0, targetRight := 0 } else d }), .done [0])
    else (s.withMixes (s.mixes.set i (m.dropSend k)), .done [1]) := by
  rw [removeSendLive, index?_of_lt hi, index?_of_lt hk]
  rfl

end

/-! ## The statement -/

/-- Settles O28: each request by its tests, and the mix after one that passes them. -/
theorem sendRequestsLive : Obligations.SendRequestsLive := by
  unfold Obligations.SendRequestsLive
  constructor
  · intro s tag bank mix slot level balance self mute admits command code place
    have answered {t : State} {a : Answer} (h : addSendLive mix slot level balance self mute s = (t, a)) :
        exec command s = .next (t.answer 0x31 tag a) :=
      exec_answer rfl rfl rfl admits ((congrFun (editTarget_live bank _ _) s).trans h)
    refine ⟨fun bad => answered (addSendLive_badIndex bad _ _ _ _ s), ?_⟩
    intro i k hi hk m used values active removing
    have good (v : values) := addSendLive_good hi hk s v level balance
    have activeOn : (m.activeOn k).isSome = true ↔ active := Mix.activeOn_isSome
    refine ⟨fun bad => answered (addSendLive_badValue hi hk s bad _ _), fun v a => ?_, fun v a r => ?_, fun v a r full => ?_,
      fun v a r room full => ?_, fun v a r room free => ?_⟩
    · exact answered ((good v).trans (if_pos (activeOn.mpr a)))
    · exact answered ((good v).trans ((if_neg (mt activeOn.mp a)).trans (if_pos (Mix.sendOn_isSome_of_removing r))))
    · exact answered ((good v).trans ((if_neg (mt activeOn.mp a)).trans ((if_neg (Mix.sendOn_isNone_of_neither a r)).trans
        (if_pos full))))
    · have spent : poolFree s.mixes = 0 := Nat.sub_eq_zero_of_le full
      exact answered ((good v).trans ((if_neg (mt activeOn.mp a)).trans ((if_neg (Mix.sendOn_isNone_of_neither a r)).trans
        ((if_neg (Nat.not_le.mpr room)).trans (if_pos spent)))))
    · have spare : poolFree s.mixes ≠ 0 := Nat.sub_ne_zero_of_lt free
      obtain ⟨before, after, split, inserted, low, high⟩ := insertBySlot_split Send.slot (Send.retarget m
        { slot := k, level := code, balance := place, self := decide (self = 1), mute := decide (mute = 1), removing := false,
          currentLeft := 0, currentRight := 0, targetLeft := 0, targetRight := 0 }) m.sends
      refine ⟨_, answered ((good v).trans ((if_neg (mt activeOn.mp a)).trans ((if_neg (Mix.sendOn_isNone_of_neither a r)).trans
        ((if_neg (Nat.not_le.mpr room)).trans (if_neg spare))))), before, after, split, inserted, low, high⟩
  · intro s tag bank mix slot flags level balance self mute admits set remove
    have answeredSet {t : State} {a : Answer} (h : setSendLive mix slot flags level balance self mute s = (t, a)) :
        exec set s = .next (t.answer 0x32 tag a) :=
      exec_answer rfl rfl rfl admits ((congrFun (editTarget_live bank _ _) s).trans h)
    have answeredRemove {t : State} {a : Answer} (h : removeSendLive mix slot s = (t, a)) :
        exec remove s = .next (t.answer 0x33 tag a) :=
      exec_answer rfl rfl rfl admits ((congrFun (editTarget_live bank _ _) s).trans h)
    refine ⟨fun bad => ⟨answeredSet (setSendLive_badIndex bad s _ _ _ _ _), answeredRemove (removeSendLive_badIndex bad s)⟩, ?_⟩
    intro i k hi hk m refusedValue mixing changed
    have removal := removeSendLive_eq hi hk s
    have changes : (selectedChange flags level balance self mute).apply = changed :=
      funext fun d => selectedChange_apply flags level balance self mute d
    refine ⟨fun bad => answeredSet (setSendLive_badValue hi hk s bad _ _), fun absent => ⟨fun ok => ?_, ?_⟩,
      fun d found => ⟨fun ok empty => ?_, fun ok nonempty => ?_, fun mixes on => ?_, fun still => ?_⟩⟩
    · exact answeredSet (setSendLive_noSend hi hk s ok _ _ absent)
    · exact answeredRemove (removal.trans (if_pos (Option.isNone_iff_eq_none.mpr absent)))
    · exact answeredSet (setSendLive_empty hi hk s ok _ _ found empty)
    · have report := answeredSet (setSendLive_changed hi hk s ok level balance found nonempty)
      rw [changes] at report
      exact report
    · have there : ¬ (m.activeOn k).isNone = true := by rw [found]; nofun
      exact answeredRemove (removal.trans ((if_neg there).trans (if_pos ⟨Clock.mixing_iff.mpr mixes, on⟩)))
    · have there : ¬ (m.activeOn k).isNone = true := by rw [found]; nofun
      exact answeredRemove (removal.trans ((if_neg there).trans
        (if_neg fun ⟨mixes, on⟩ => still ⟨Clock.mixing_iff.mp mixes, on⟩)))

end Sys2Proof.Machine
end

section
/-! SET_TRIM: its tests, the mix that it leaves, its reply and TRIMS message, and to whom that goes (R95 to R97, R146). -/

namespace Sys2Proof.Machine

section
variable {m : Mix} {volume self others : Int} {dim : Bool}

theorem masterTargetOf_setTrim :
    masterTargetOf (m.setTrim volume self others dim) = masterTargetOf (m.trimmed volume self others dim) := by
  rw [Mix.setTrim_eq]; rfl

theorem sendTargets_setTrim (d : Send) :
    sendTargets (m.setTrim volume self others dim) d = sendTargets (m.trimmed volume self others dim) d := by
  rw [Mix.setTrim_eq]; rfl

/-- The mix that SET_TRIM leaves: the trims, the targets of that mix, and the master cut when dim goes ON. -/
theorem Mix.setTrim_whole : m.setTrim volume self others dim = { m.trimmed volume self others dim with
    masterTarget := masterTargetOf (m.setTrim volume self others dim)
    masterCurrent := if m.dim = none ∧ dim = true ∧ m.state = .on then masterTargetOf (m.setTrim volume self others dim)
      else m.masterCurrent
    sends := m.sends.map (Send.retarget (m.setTrim volume self others dim)) } := by
  have aims (d : Send) : d.retarget (m.setTrim volume self others dim) = d.retarget (m.trimmed volume self others dim) := by
    rw [Send.retarget, sendTargets_setTrim]; rfl
  rw [masterTargetOf_setTrim, funext aims, Mix.setTrim_eq]
  rfl

/-- The volume of its TRIMS message is the one asked for, saved while dim is ON. -/
theorem trimsOf_setTrim :
    trimsOf (m.setTrim volume self others dim)
      = .trims volume (m.setTrim volume self others dim).self (m.setTrim volume self others dim).others dim := by
  have whole := Mix.setTrim_whole (m := m) (volume := volume) (self := self) (others := others) (dim := dim)
  rw [trimsOf, whole]
  cases dim with
  | true => rfl
  | false => simp [Mix.trimmed]

end

/-! ## The request (R96, R97) -/

/-- The last byte of the reply: the saved trim, a free value while dim is OFF (log 8, log 16). -/
def savedByte (m : Mix) : Byte :=
  match m.dim with
  | some saved => BitVec.ofInt 8 saved
  | none => Config.unstatedByte .savedTrimAbsent

theorem savedByte_of_dim {m : Mix} {v : Int} (h : m.dim = some v) : [savedByte m] = signed1 v := by
  rw [savedByte, h]; exact (be1_toNat _).symm

theorem setTrim_badIndex {mix : Byte} (h : 16 ≤ mix.toNat) (volume self others dim : Byte) (s : State) :
    setTrim mix volume self others dim s = (s, .fail .badIndex) := by
  rw [setTrim, index?_of_ge h]

theorem setTrim_badValue {mix dim : Byte} {i : Fin 16} (hi : mix.toNat = i.val) (bad : 2 ≤ dim.toNat) (volume self others : Byte)
    (s : State) : setTrim mix volume self others dim s = (s, .fail .badValue) := by
  rw [setTrim, index?_of_lt hi, flag?_of_ge bad]

theorem setTrim_good {mix dim : Byte} {i : Fin 16} (hi : mix.toNat = i.val) (hd : dim.toNat ≤ 1) (volume self others : Byte)
    (s : State) {m' : Mix} (set : (s.mixes.get i).setTrim (max (-16) (min 16 volume.toInt)) (max (-16) (min 16 self.toInt))
      (max (-16) (min 16 others.toInt)) (decide (dim = 1)) = m') :
    setTrim mix volume self others dim s = ((s.withMixes (s.mixes.set i m')).withLine (s.line.offerTrims i (trimsOf m')),
      .done (signed1 m'.volume ++ signed1 m'.self ++ signed1 m'.others ++ [dim] ++ [savedByte m'])) := by
  have dims : m'.dim.isSome = decide (dim = 1) := by
    rw [← set, Mix.setTrim_whole]
    show Option.isSome (if decide (dim = 1) = true then some _ else none) = _
    cases decide (dim = 1) <;> rfl
  rw [setTrim, index?_of_lt hi, flag?_of_le hd]
  simp only [trimCode, clampInt, set, dims, yesNo_flag hd]
  cases saved : m'.dim with
  | none => simp only [savedByte, saved]
  | some v => simp only [savedByte_of_dim saved]

/-! ## The offer of the message (R146) -/

section
variable {l : PackLine} {m : Fin 16} (msg : PackMessage)

theorem offerTrims_none (h : l.ownerOf m = none) : l.offerTrims m msg = l := by
  rw [PackLine.offerTrims, h]

variable {a : Fin 24} (h : l.ownerOf m = some a)
include h

theorem offerTrims_lost (lost : (l.packs.get a).state = .lost) : l.offerTrims m msg = l := by
  rw [PackLine.offerTrims, h]
  exact if_pos (by rw [lost]; nofun)

theorem offerTrims_full (present : (l.packs.get a).state = .present) (full : l.free = 0) :
    l.offerTrims m msg = { l with trimsUnsent := count32 l.trimsUnsent } := by
  rw [PackLine.offerTrims, h]
  exact (if_neg (not_not.mpr present)).trans (if_pos full)

theorem offerTrims_queued (present : (l.packs.get a).state = .present) (room : 1 ≤ l.free) :
    l.offerTrims m msg = l.enqueue a false msg := by
  rw [PackLine.offerTrims, h]
  exact (if_neg (not_not.mpr present)).trans (if_neg (Nat.one_le_iff_ne_zero.mp room))

end

/-! ## The statement -/

/-- Settles O29: the tests of SET_TRIM, the mix that it leaves field by field, and the four cases of its message. -/
theorem trimsSetAndOffered : Obligations.TrimsSetAndOffered := by
  unfold Obligations.TrimsSetAndOffered
  refine ⟨fun s tag mix volume self others dim admits => ?_, fun l m msg => ⟨offerTrims_none msg, fun a h =>
    ⟨offerTrims_lost msg h, offerTrims_full msg h, offerTrims_queued msg h⟩⟩⟩
  intro command
  have answered {t : State} {a : Answer} (h : setTrim mix volume self others dim s = (t, a)) :
      exec command s = .next (t.answer 0x34 tag a) := exec_answer rfl rfl rfl admits h
  refine ⟨fun high => answered (setTrim_badIndex high _ _ _ _ s), fun i hi => ⟨fun bad => answered
    (setTrim_badValue hi bad _ _ _ s), fun hd => ?_⟩⟩
  have whole := Mix.setTrim_whole (m := s.mixes.get i) (volume := max (-16) (min 16 volume.toInt))
    (self := max (-16) (min 16 self.toInt)) (others := max (-16) (min 16 others.toInt)) (dim := decide (dim = 1))
  have reply := answered (setTrim_good hi hd volume self others s rfl)
  rw [trimsOf_setTrim] at reply
  generalize (s.mixes.get i).setTrim _ _ _ _ = m' at whole reply
  have dims : m'.dim = if dim = 1 then some (max (-16) (min 16 volume.toInt)) else none := by
    rw [congrArg Mix.dim whole]; simp only [Mix.trimmed, decide_eq_true_iff]
  refine ⟨m', savedByte m', reply, congrArg Mix.self whole, congrArg Mix.others whole, ?_, dims,
    fun on => savedByte_of_dim (dims.trans (if_pos on)), congrArg Mix.masterTarget whole, fun d mem => ?_, ?_,
    (congrArg Mix.state whole :), (congrArg Mix.stereo whole :), (congrArg Mix.master whole :), (congrArg Mix.ceiling whole :),
    (congrArg Mix.release whole :), (congrArg Mix.click whole :), ?_⟩
  · rw [congrArg Mix.volume whole]; simp only [Mix.trimmed, decide_eq_true_iff]
  · rw [congrArg Mix.sends whole] at mem
    obtain ⟨d, _, rfl⟩ := List.mem_map.mp mem
    rfl
  · rw [congrArg Mix.masterTarget whole, congrArg Mix.masterCurrent whole]; simp only [decide_eq_true_iff]
  · rw [congrArg Mix.sends whole, List.map_map]; rfl

end Sys2Proof.Machine
end

section
/-! A pack request (R175 to R179): its kind, the record's mix and role, the mix that its owner's request leaves, and the message
that answers it. -/

namespace Sys2Proof.Machine

/-! ## The request kinds (R215) -/

/-- The kind byte of a request. -/
def PackRequest.kind : PackRequest → Byte
  | .volume => 1
  | .self => 2
  | .others => 3
  | .dim => 4
  | .undim => 5
  | .queryTrims => 6

theorem packRequest?_none {kind : Byte} (h : kind.toNat = 0 ∨ 7 ≤ kind.toNat) : packRequest? kind = none := by
  unfold packRequest?
  generalize kind.toNat = n at h
  split
  case h_7 => rfl
  all_goals omega

theorem packRequest?_kind (r : PackRequest) : packRequest? r.kind = some r := by
  cases r <;> rfl

theorem PackRequest.kind_injective : Function.Injective PackRequest.kind := fun r r' same =>
  Option.some.inj ((packRequest?_kind r).symm.trans ((congrArg packRequest? same).trans (packRequest?_kind r')))

/-- Every byte from 1 to 6 is the kind of a request. -/
theorem exists_kind {kind : Byte} (low : 1 ≤ kind.toNat) (high : kind.toNat ≤ 6) : ∃ r : PackRequest, kind = r.kind := by
  have named (r : PackRequest) (h : kind.toNat = r.kind.toNat) : ∃ r : PackRequest, kind = r.kind := ⟨r, BitVec.eq_of_toNat_eq h⟩
  have one_of : kind.toNat = 1 ∨ kind.toNat = 2 ∨ kind.toNat = 3 ∨ kind.toNat = 4 ∨ kind.toNat = 5 ∨ kind.toNat = 6 := by omega
  rcases one_of with h | h | h | h | h | h
  · exact named .volume h
  · exact named .self h
  · exact named .others h
  · exact named .dim h
  · exact named .undim h
  · exact named .queryTrims h

/-- The steps are answered only without the more flag (R176 to R178). -/
theorem PackRequest.answered_eq (r : PackRequest) (more : Bool) :
    r.answered more = !decide (r.kind.toNat ≤ 3 ∧ more = true) := by
  cases r <;> cases more <;> decide

/-- A DIM is answered URGENT (R177). -/
theorem PackRequest.isDim_eq (r : PackRequest) : (r == .dim) = decide (r.kind = 4) := by
  cases r <;> rfl

/-! ## What a request does to its mix (R94, R95, R176 to R178) -/

theorem Mix.stepVolume_of_none {m : Mix} (h : m.dim = none) (step : Int) :
    m.stepVolume step = ({ m with volume := stepped m.volume step } : Mix).retargetMaster := by
  unfold Mix.stepVolume; rw [h]

theorem Mix.stepVolume_of_some {m : Mix} {saved : Int} (h : m.dim = some saved) (step : Int) :
    m.stepVolume step = { m with dim := some (stepped saved step) } := by
  unfold Mix.stepVolume; rw [h]

theorem Mix.stepSelf_eq (m : Mix) (step : Int) :
    m.stepSelf step = { m with
      self := stepped m.self step
      sends := m.sends.map fun d => if d.self = true ∧ d.removing = false then d.retarget { m with self := stepped m.self step }
        else d } := by
  have chosen (d : Send) : (d.self && !d.removing) = true ↔ d.self = true ∧ d.removing = false := by
    rw [Bool.and_eq_true, Bool.not_eq_true']
  simp only [Mix.stepSelf, Mix.retargetSends, chosen]

theorem Mix.stepOthers_eq (m : Mix) (step : Int) :
    m.stepOthers step = { m with
      others := stepped m.others step
      sends := m.sends.map fun d => if d.self = false ∧ d.removing = false then
        d.retarget { m with others := stepped m.others step } else d } := by
  have chosen (d : Send) : (!d.self && !d.removing) = true ↔ d.self = false ∧ d.removing = false := by
    rw [Bool.and_eq_true, Bool.not_eq_true', Bool.not_eq_true']
  simp only [Mix.stepOthers, Mix.retargetSends, chosen]

/-! ## The decision (R175) -/

/-- The record of a pack whose request is counted, as a refusal too if it is one. -/
def Pack.requested (p : Pack) (refused : Bool) : Pack :=
  { p with counters := { p.counters with
      requests := count32 p.counters.requests
      refusals := if refused then count32 p.counters.refusals else p.counters.refusals } }

/-- The line after a request has been counted. -/
def PackLine.requested (l : PackLine) (a : Fin 24) (refused : Bool) : PackLine :=
  { l with packs := l.packs.set a ((l.packs.get a).requested refused) }

theorem PackLine.requested_false (l : PackLine) (a : Fin 24) :
    l.updatePack a (Pack.countIn · fun c => { c with requests := count32 c.requests }) = l.requested a false := rfl

theorem PackLine.requested_true (l : PackLine) (a : Fin 24) :
    (l.updatePack a (Pack.countIn · fun c => { c with requests := count32 c.requests })).updatePack a
      (Pack.countIn · fun c => { c with refusals := count32 c.refusals }) = l.requested a true := by
  simp only [PackLine.updatePack, Table.modify, Table.get_set_same, Table.set_set]
  rfl

section
variable {s : State} {a : Fin 24} {kind : Byte} {value : Int} {more : Bool}

theorem State.decideRequest_unknown (h : packRequest? kind = none) :
    s.decideRequest a kind value more = s.withLine { s.line with badRequests := count32 s.line.badRequests } := by
  rw [State.decideRequest, h]

variable {r : PackRequest} (known : packRequest? kind = some r)
include known

theorem State.decideRequest_noMix (h : (s.line.packs.get a).mix = none) :
    s.decideRequest a kind value more = s.withLine ((s.line.requested a true).enqueue a false .refusedNoMix) := by
  rw [State.decideRequest, known]
  simp only [h, PackLine.requested_true]

variable {i : Fin 16} (mix : (s.line.packs.get a).mix = some i)
include mix

theorem State.decideRequest_notOwner (listener : (s.line.packs.get a).role = .listener) (asks : r ≠ .queryTrims) :
    s.decideRequest a kind value more = s.withLine ((s.line.requested a true).enqueue a false .refusedNotOwner) := by
  rw [State.decideRequest, known]
  simp only [mix, PackLine.requested_true]
  exact if_pos ⟨listener, asks⟩

theorem State.decideRequest_carriedOut (may : (s.line.packs.get a).role = .owner ∨ r = .queryTrims) :
    s.decideRequest a kind value more =
      let m' := (s.mixes.get i).packRequest r value
      (s.withMixes (s.mixes.set i m')).withLine (if r.answered more then
        (s.line.requested a false).enqueue a (r == .dim) (trimsOf m') else s.line.requested a false) := by
  have allowed : ¬ ((s.line.packs.get a).role = .listener ∧ r ≠ .queryTrims) := fun ⟨listener, asks⟩ =>
    may.elim (fun owner => absurd (listener.symm.trans owner) nofun) asks
  rw [State.decideRequest, known]
  simp only [mix, PackLine.requested_false]
  exact if_neg allowed

end

/-! ## The statement -/

/-- Settles O47: by the kind, the mix and the role, and the mix of an owner's request by the kind. -/
theorem packRequestDecided : Obligations.PackRequestDecided := by
  unfold Obligations.PackRequestDecided
  intro s a kind value more p counted replied step sum shown
  refine ⟨fun unknown => State.decideRequest_unknown (packRequest?_none unknown), fun low high => ?_⟩
  obtain ⟨r, rfl⟩ := exists_kind low high
  have known := packRequest?_kind r
  have kinds {r' : PackRequest} (h : r.kind = r'.kind) : r = r' := PackRequest.kind_injective h
  refine ⟨fun unassigned => State.decideRequest_noMix known unassigned, fun i mix => ?_⟩
  intro m
  refine ⟨fun listener other => ?_, fun query => ?_, fun owner other => ⟨m.packRequest r value, ?_, ?_⟩⟩
  · exact State.decideRequest_notOwner known mix listener (by rintro rfl; exact other rfl)
  · obtain rfl := kinds (r' := .queryTrims) query
    rw [State.decideRequest_carriedOut known mix (.inr rfl)]
    show (s.withMixes (s.mixes.set i (s.mixes.get i))).withLine _ = _
    rw [Table.set_get_self]; rfl
  · rw [State.decideRequest_carriedOut known mix (.inl owner)]
    rw [PackRequest.answered_eq, PackRequest.isDim_eq]
    by_cases silent : r.kind.toNat ≤ 3 ∧ more = true
    · rw [if_pos silent, decide_eq_true silent]; rfl
    · rw [if_neg silent, decide_eq_false silent]; rfl
  · refine ⟨fun is off => ?_, fun is saved on => ?_, fun is => ?_, fun is => ?_, fun is off => ?_, fun is on => ?_,
      fun is off => ?_, fun is saved on => ?_, fun sound => Mix.sound_iff.mpr ((Mix.sound_iff.mp sound).packRequest r value)⟩
    · obtain rfl := kinds (r' := .volume) is; exact Mix.stepVolume_of_none off value
    · obtain rfl := kinds (r' := .volume) is; exact Mix.stepVolume_of_some on value
    · obtain rfl := kinds (r' := .self) is; exact Mix.stepSelf_eq m value
    · obtain rfl := kinds (r' := .others) is; exact Mix.stepOthers_eq m value
    · obtain rfl := kinds (r' := .dim) is; exact Mix.dimOn_of_none off
    · obtain rfl := kinds (r' := .dim) is
      obtain ⟨saved, dim⟩ := Option.ne_none_iff_exists'.mp on
      exact Mix.dimOn_of_some dim
    · obtain rfl := kinds (r' := .undim) is; exact Mix.dimOff_of_none off
    · obtain rfl := kinds (r' := .undim) is; exact Mix.dimOff_of_some on

end Sys2Proof.Machine
end

section
/-! The glide of a gain (R104 to R106): what one step leaves of the distance to the target, and how many steps reach it. -/

namespace Sys2Proof.Machine

/-- What one glide step leaves of a distance (R104, R105). -/
def glideLeft (e : Nat) : Nat := if e < 4 then 0 else e - e / 4

theorem glideLeft_mono : Monotone glideLeft := by
  intro d e le
  unfold glideLeft
  split <;> split <;> omega

theorem glide_distance (c t : Nat) : ((t : Int) - glide c t).natAbs = glideLeft ((t : Int) - c).natAbs := by
  unfold glideLeft
  rcases Nat.le_total c t with up | down
  · rw [glide_up up]; split <;> split <;> omega
  · rw [glide_down down]; split <;> split <;> omega

theorem glide_between (c t : Nat) : min c t ≤ glide c t ∧ glide c t ≤ max c t := by
  rcases Nat.le_total c t with up | down
  · rw [glide_up up]; split <;> omega
  · rw [glide_down down]; split <;> omega

theorem glide_iterate_distance (c t n : Nat) :
    ((t : Int) - ((fun x => glide x t)^[n] c : Nat)).natAbs = glideLeft^[n] ((t : Int) - c).natAbs := by
  induction n with
  | zero => rfl
  | succ n ih => rw [Function.iterate_succ_apply', Function.iterate_succ_apply', glide_distance, ih]

/-- After n steps a gain is at its target just when nothing is left of the distance. -/
theorem glide_iterate_eq_iff (c t n : Nat) :
    (fun x => glide x t)^[n] c = t ↔ glideLeft^[n] ((t : Int) - c).natAbs = 0 := by
  rw [← glide_iterate_distance]; omega

/-- Settles O31: a step by its distance, the settling times by the distance that is left over the largest gain and over unity. -/
theorem glideSettles : Obligations.GlideSettles := by
  unfold Obligations.GlideSettles
  refine ⟨fun c t => ⟨glide_distance c t, glide_between c t⟩, fun c t low high => ?_, fun c t unity => ⟨?_, ?_⟩⟩
  · have top : glideLeft^[42] topGain = 0 := by decide +kernel
    have short : ((t : Int) - c).natAbs ≤ topGain := by unfold topGain; omega
    exact (glide_iterate_eq_iff c t 42).mpr (Nat.le_zero.mp (top ▸ glideLeft_mono.iterate 42 short))
  · rw [glide_iterate_eq_iff, unity]; decide +kernel
  · rw [Ne, glide_iterate_eq_iff, unity]; decide +kernel

end Sys2Proof.Machine
end

section
/-! A computed mix and its ceiling (R107 to R114, R118): the bound of a block before the limiter, the gain that the limiter takes,
and the samples that it lets out. -/

namespace Sys2Proof.Machine

/-! ## What a mix is computed from -/

/-- Every slot holds samples that a sample word can hold. -/
def SlotsInRange (slots : Table Slot 48) : Prop := ∀ i k, SampleInRange ((slots.get i).assembled.get k)

/-- Every click sample has the click amplitude. -/
def ClicksInRange (clicks : Table (Option Sample) 16) : Prop := ∀ k x, clicks.get k = some x → x = 2097152 ∨ x = -2097152

theorem slotsInRange_iff {slots : Table Slot 48} :
    SlotsInRange slots ↔ ∀ k ∈ slots.list, ∀ x ∈ k.assembled.list, SampleInRange x := by
  rw [Table.forall_iff slots fun k => ∀ x ∈ k.assembled.list, SampleInRange x]
  exact forall_congr' fun i => (Table.forall_iff _ SampleInRange).symm

theorem clicksInRange_iff {clicks : Table (Option Sample) 16} :
    ClicksInRange clicks ↔ ∀ o ∈ clicks.list, ∀ x ∈ o.toList, x = 2097152 ∨ x = -2097152 := by
  rw [Table.forall_iff clicks fun o => ∀ x ∈ o.toList, x = 2097152 ∨ x = -2097152]
  simp only [Option.mem_toList]; rfl

/-! ## The peak before the limiter (R108) -/

/-- The bound of R108: 24 sends at the top gain through a master at the top gain, and the click at the top gain. -/
abbrev peakBound : Nat := 2716429473

theorem SampleInRange.natAbs_le {x : Int} (h : SampleInRange x) : x.natAbs ≤ 8388608 := by
  have low : -8388608 ≤ x := h.1
  have high : x ≤ 8388607 := h.2
  omega

theorem natAbs_sum_le {l : List Int} {bound : Nat} (h : ∀ x ∈ l, x.natAbs ≤ bound) : l.sum.natAbs ≤ l.length * bound := by
  induction l with
  | nil => exact Nat.zero_le _
  | cons x l ih =>
    have head := h x List.mem_cons_self
    have tail := ih fun y mem => h y (List.mem_cons_of_mem _ mem)
    rw [List.sum_cons, List.length_cons, Nat.succ_mul]
    omega

theorem natAbs_mul_le {x : Int} {g a b : Nat} (hx : x.natAbs ≤ a) (hg : g ≤ b) : (x * (g : Int)).natAbs ≤ a * b := by
  rw [Int.natAbs_mul, Int.natAbs_natCast]; exact Nat.mul_le_mul hx hg

theorem roundQ16_natAbs_le {x : Int} {n : Nat} (h : x.natAbs ≤ n * 65536) : (roundQ16 x).natAbs ≤ n := by
  unfold roundQ16; omega

section
variable {slots : Table Slot 48} {clicks : Table (Option Sample) 16} {m : Mix}

/-- The sum of at most 24 sends (R107). -/
theorem roundedSum_le (heard : SlotsInRange slots) {sends : List Send} (fits : sends.length ≤ 24) {gain : Send → Nat}
    (gains : ∀ d ∈ sends, gain d ≤ topGain) (k : Fin 16) :
    (roundQ16 (sends.map fun d => (slots.get d.slot).assembled.get k * (gain d : Int)).sum).natAbs ≤ 24 * 128 * topGain := by
  have each : ∀ x ∈ sends.map fun d => (slots.get d.slot).assembled.get k * (gain d : Int), x.natAbs ≤ 8388608 * topGain := by
    intro x mem
    obtain ⟨d, here, rfl⟩ := List.mem_map.mp mem
    exact natAbs_mul_le (heard d.slot k).natAbs_le (gains d here)
  have sum := natAbs_sum_le each
  rw [List.length_map] at sum
  exact roundQ16_natAbs_le (sum.trans ((Nat.mul_le_mul_right _ fits).trans (by norm_num)))

theorem clickAdd_le (ticks : ClicksInRange clicks) {code : Nat} (top : code ≤ 127) (k : Fin 16) :
    (clickAdd code (clicks.get k)).natAbs ≤ 32 * topGain := by
  cases sample : clicks.get k with
  | none => exact Nat.zero_le _
  | some x =>
    have amplitude : x.natAbs ≤ 2097152 := by rcases ticks k x sample with rfl | rfl <;> decide
    unfold clickAdd
    dsimp only
    split
    · exact Nat.zero_le _
    · exact roundQ16_natAbs_le ((natAbs_mul_le amplitude (gainOf_le top)).trans (by norm_num))

/-- A channel before the limiter (R107 to R110). -/
theorem channelOf_le (heard : SlotsInRange slots) (ticks : ClicksInRange clicks) (sound : m.Bounded) {gain : Send → Nat}
    (gains : ∀ d ∈ m.sends, gain d ≤ topGain) (k : Fin 16) : ((channelOf slots clicks m gain).get k).natAbs ≤ peakBound := by
  have mastered := natAbs_mul_le (roundedSum_le heard sound.sends.length gains k) sound.masterCurrent
  have scaled := roundQ16_natAbs_le (n := 2708737057) (mastered.trans (by norm_num))
  have click := clickAdd_le ticks sound.click k
  rw [channelOf_get]
  refine (Int.natAbs_add_le _ _).trans ((Nat.add_le_add scaled click).trans (by norm_num))

theorem peakOf_le (heard : SlotsInRange slots) (ticks : ClicksInRange clicks) (sound : m.Bounded) :
    peakOf slots clicks m ≤ peakBound := by
  obtain ⟨k, left | ⟨_, right⟩⟩ := peakOf_attained (slots := slots) (clicks := clicks) (m := m)
  · rw [left]; exact channelOf_le heard ticks sound (fun d mem => (sound.sends.each d mem).left) k
  · rw [right]; exact channelOf_le heard ticks sound (fun d mem => (sound.sends.each d mem).right) k

end

/-! ## The limiter gain (R111, R112) -/

/-- The ceilings of the ceiling codes. -/
theorem ceilingOf_range {code : Nat} (low : 64 ≤ code) (high : code ≤ 112) :
    131071 ≤ ceilingOf code ∧ ceilingOf code ≤ 8388607 := by
  have all : ∀ code : Fin 113, 64 ≤ code.val → 131071 ≤ ceilingOf code.val ∧ ceilingOf code.val ≤ 8388607 := by decide +kernel
  exact all ⟨code, Nat.lt_succ_of_le high⟩ low

section
variable {gain release ceiling p : Nat}

theorem limiterGain_limited (h : ceiling * 65536 < p * releaseCandidate gain release) :
    limiterGain gain release ceiling p = ceiling * 65536 / p := if_pos h

theorem limiterGain_released (h : p * releaseCandidate gain release ≤ ceiling * 65536) :
    limiterGain gain release ceiling p = releaseCandidate gain release := if_neg (Nat.not_lt.mpr h)

/-- The gain brings the peak inside the ceiling. -/
theorem mul_limiterGain_le (gain release ceiling p : Nat) : p * limiterGain gain release ceiling p ≤ ceiling * 65536 := by
  rcases Nat.lt_or_ge (ceiling * 65536) (p * releaseCandidate gain release) with exceeds | within
  · rw [limiterGain_limited exceeds]; exact Nat.mul_div_le _ _
  · rw [limiterGain_released within]; exact within

theorem limiterGain_le (gain release ceiling p : Nat) : limiterGain gain release ceiling p ≤ 65536 := by
  have candidate : releaseCandidate gain release ≤ 65536 := min_le_left _ _
  rcases Nat.lt_or_ge (ceiling * 65536) (p * releaseCandidate gain release) with exceeds | within
  · rw [limiterGain_limited exceeds]
    exact (Nat.div_lt_of_lt_mul exceeds).le.trans candidate
  · rw [limiterGain_released within]; exact candidate

/-- The peak of R108 against the lowest ceiling keeps the gain at 3 or more (R114). -/
theorem three_le_limiterGain (before : 3 ≤ gain) (release : Nat) (low : 131071 ≤ ceiling) (high : p ≤ peakBound) :
    3 ≤ limiterGain gain release ceiling p := by
  rcases Nat.lt_or_ge (ceiling * 65536) (p * releaseCandidate gain release) with exceeds | within
  · have pos : 0 < p := Nat.pos_of_ne_zero fun zero => by rw [zero, Nat.zero_mul] at exceeds; exact absurd exceeds (Nat.not_lt_zero _)
    have peak : p ≤ 2716429473 := high
    rw [limiterGain_limited exceeds, Nat.le_div_iff_mul_le pos]
    omega
  · rw [limiterGain_released within]
    exact le_min (by norm_num) (before.trans (Nat.le_add_right _ _))

/-- The clamp of an output sample changes nothing: the gain has brought it inside the ceiling (R113). -/
theorem outSample_of_le {z : Int} (h : z.natAbs ≤ p) :
    outSample (limiterGain gain release ceiling p) ceiling z = (z * limiterGain gain release ceiling p).tdiv 65536
      ∧ ((z * limiterGain gain release ceiling p).tdiv 65536).natAbs ≤ ceiling := by
  have inside : ((z * limiterGain gain release ceiling p).tdiv 65536).natAbs ≤ ceiling := by
    rw [Int.natAbs_tdiv]
    refine Nat.div_le_of_le_mul ?_
    rw [Nat.mul_comm]
    exact (natAbs_mul_le h (le_refl _)).trans (mul_limiterGain_le gain release ceiling p)
  refine ⟨?_, inside⟩
  show max (-(ceiling : Int)) (min (ceiling : Int) ((z * limiterGain gain release ceiling p).tdiv 65536)) = _
  omega

end

/-! ## The computed mix -/

section
variable {slots : Table Slot 48} {clicks : Table (Option Sample) 16} {m : Mix}

/-- A block let out by the limiter of a mix stays inside its ceiling, if the peak of the mix covers it. -/
theorem limited_le (l : Limiter) {b : Block} (covered : blockPeak b ≤ peakOf slots clicks m) (k : Fin 16) :
    ((b.map (outSample (blockGain slots clicks m l) (ceilingOf m.ceiling))).get k).natAbs ≤ ceilingOf m.ceiling := by
  obtain ⟨same, inside⟩ := outSample_of_le (gain := l.gain) (release := m.release) (ceiling := ceilingOf m.ceiling)
    (((blockPeak_isGreatest b).2 ⟨k, rfl⟩).trans covered)
  rw [Table.get_map, blockGain, same]
  exact inside

theorem outputOf_le (i : Fin 16) (l : Limiter) (k : Fin 16) :
    ((outputOf slots clicks i m l).left.get k).natAbs ≤ ceilingOf m.ceiling
      ∧ ((outputOf slots clicks i m l).right.get k).natAbs ≤ ceilingOf m.ceiling :=
  ⟨limited_le l (le_max_left _ _) k, limited_le l (le_max_right _ _) k⟩

theorem three_le_blockGain (heard : SlotsInRange slots) (ticks : ClicksInRange clicks) (sound : m.Bounded) {l : Limiter}
    (before : 3 ≤ l.gain) : 3 ≤ blockGain slots clicks m l :=
  three_le_limiterGain before m.release (ceilingOf_range sound.settings.ceilingLow sound.settings.ceilingHigh).1
    (peakOf_le heard ticks sound)

end

/-- Settles O32: the parts above for the glided mix, and the limiter's arithmetic for any gain, ceiling and peak. -/
theorem limiterKeepsCeiling : Obligations.LimiterKeepsCeiling := by
  unfold Obligations.LimiterKeepsCeiling
  refine ⟨fun slots clicks i m l heard ticks sound on limited => ?_, fun gain release ceiling p => ?_⟩
  · intro r c
    have heard := slotsInRange_iff.mpr heard
    have ticks := clicksInRange_iff.mpr ticks
    have glided : m.glided.Bounded := ((Mix.sound_iff.mp sound).glided on).bounded
    obtain ⟨low, high⟩ := ceilingOf_range glided.settings.ceilingLow glided.settings.ceilingHigh
    have peak := peakOf_le heard ticks glided
    have least := three_le_blockGain heard ticks glided limited.1
    have most : blockGain slots clicks m.glided l ≤ 65536 := limiterGain_le _ _ _ _
    have inside := outputOf_le (slots := slots) (clicks := clicks) (m := m.glided) i l
    obtain ⟨metered, _⟩ := max_blockPeaks l.peak (outputOf slots clicks i m.glided l).left (outputOf slots clicks i m.glided l).right
    have whole : r = _ := computeMix_computed on i l
    rw [whole]
    refine ⟨low, high, ?_, ?_, ?_, outputOf slots clicks i m.glided l, rfl, rfl, rfl, ?_, ?_, le_max_left _ _, min_le_left _ _⟩
    · dsimp only; split
      · exact Nat.zero_le _
      · exact peak
    · dsimp only; split
      · norm_num
      · exact least
    · dsimp only; split
      · exact le_refl _
      · exact most
    · rw [Table.forall_iff]; exact fun k => ⟨(inside k).1, (metered k).1⟩
    · rw [Table.forall_iff]; exact fun k => ⟨(inside k).2, (metered k).2⟩
  · intro cand
    exact ⟨limiterGain_limited, limiterGain_released, fun z within => outSample_of_le within⟩

end Sys2Proof.Machine
end

section
/-! What every step keeps of the limiters (R101, R112 to R118): the relations themselves, the limiter of a computed mix, and what
entry into STOPPED, an apply and a mixed block make of them. -/

namespace Sys2Proof.Machine

/-! ## The relations -/

/-- The ranges of a limiter (R101, R114, R118). -/
structure Limiter.Ranged (l : Limiter) : Prop where
  gainLow : 3 ≤ l.gain
  gainHigh : l.gain ≤ 65536
  peak : l.peak ≤ 8388607
  lowestLow : 3 ≤ l.lowest
  lowestHigh : l.lowest ≤ 65536

/-- The LIMIT condition holds below unity only (R117). -/
def Limiter.LimitsBelowUnity (l : Limiter) : Prop := l.condition = true → l.gain < 65536

/-- The limiters of a state, whatever their conditions: an apply at a boundary leaves the condition of a mix that it turns OFF to
the block that follows. -/
structure State.LimitersFit (s : State) : Prop where
  ranged : ∀ i, (s.limiters.get i).Ranged
  off : ∀ i, (s.mixes.get i).state = .off → (s.limiters.get i).gain = 65536

/-- The part of a sound state that the limiters make up. -/
structure State.LimitSound (s : State) : Prop where
  fit : s.LimitersFit
  conditions : ∀ i, (s.limiters.get i).LimitsBelowUnity

theorem State.limitSound_iff {s : State} : s.LimitSound ↔ s.LimitersSound := by
  rw [State.LimitersSound, Table.forall_iff s.limiters Limiter.Sound]
  constructor
  · rintro ⟨⟨ranged, off⟩, conditions⟩
    refine ⟨fun i => ?_, off⟩
    obtain ⟨gainLow, gainHigh, peak, lowestLow, lowestHigh⟩ := ranged i
    exact ⟨gainLow, gainHigh, peak, lowestLow, lowestHigh, conditions i⟩
  · rintro ⟨sound, off⟩
    refine ⟨⟨fun i => ?_, off⟩, fun i => ?_⟩
    · obtain ⟨gainLow, gainHigh, peak, lowestLow, lowestHigh, _⟩ := sound i
      exact ⟨gainLow, gainHigh, peak, lowestLow, lowestHigh⟩
    · obtain ⟨_, _, _, _, _, condition⟩ := sound i
      exact condition

/-! ## One limiter -/

theorem Limiter.Ranged.unity {l : Limiter} (h : l.Ranged) (condition : Bool) :
    ({ l with gain := 65536, condition := condition } : Limiter).Ranged :=
  ⟨by norm_num, le_refl _, h.peak, h.lowestLow, h.lowestHigh⟩

/-- Meters cleared (R118). -/
theorem Limiter.Ranged.cleared {l : Limiter} (h : l.Ranged) : ({ l with peak := 0, lowest := 65536 } : Limiter).Ranged :=
  ⟨h.gainLow, h.gainHigh, Nat.zero_le _, by norm_num, le_refl _⟩

theorem Limiter.limitsBelowUnity_of_rest {l : Limiter} (h : l.AtRest) : l.LimitsBelowUnity := fun limits =>
  absurd (h.2.symm.trans limits) nofun

/-! ## The click samples of a block (R189) -/

/-- A sample period of the click gives no sample, or one of the click amplitude. -/
theorem Click.tick_amplitude {c : Click} {x : Sample} (h : c.tick.2 = some x) : x = 2097152 ∨ x = -2097152 := by
  obtain ⟨b, sample⟩ : ∃ b, burstSample b = x := by
    unfold Click.tick at h
    split at h
    · cases h
    · dsimp only at h
      split at h <;> exact (Option.map_eq_some_iff.mp h).imp fun _ => And.right
  rw [← sample]
  exact ite_eq_or_eq _ _ _

theorem Click.ticks_amplitude (n : Nat) (c : Click) : ∀ x, some x ∈ (c.ticks n).2 → x = 2097152 ∨ x = -2097152 := by
  induction n generalizing c with
  | zero => exact fun _ mem => absurd mem List.not_mem_nil
  | succ n ih =>
    intro x mem
    change some x ∈ c.tick.2 :: (c.tick.1.ticks n).2 at mem
    rcases List.mem_cons.mp mem with first | later
    · exact Click.tick_amplitude first.symm
    · exact ih _ x later

theorem Click.blockSamples_inRange (c : Click) : ClicksInRange c.blockSamples := by
  intro k x sample
  rw [Click.blockSamples, Table.get_tabulate, List.getD_eq_getElem?_getD, Option.getD_eq_iff] at sample
  rcases sample with given | ⟨_, none⟩
  · exact Click.ticks_amplitude 16 c x (List.mem_of_getElem? given)
  · cases none

/-! ## The limiter of a computed mix -/

theorem blockPeak_le_of_forall {b : Block} {n : Nat} (h : ∀ k, (b.get k).natAbs ≤ n) : blockPeak b ≤ n := by
  obtain ⟨⟨k, attained⟩, _⟩ := blockPeak_isGreatest b
  exact attained ▸ h k

section
variable {slots : Table Slot 48} {clicks : Table (Option Sample) 16} {m : Mix} {l : Limiter}

/-- The limiter of a mix that is computed stays in range (R112 to R114, R118). -/
theorem computeMix_limiter_ranged (heard : SlotsInRange slots) (ticks : ClicksInRange clicks) (fit : m.Fit) (ranged : l.Ranged)
    (i : Fin 16) : (computeMix slots clicks i m l).limiter.Ranged := by
  by_cases off : m.state = .off
  · rw [computeMix_off off]
    exact ⟨ranged.gainLow, ranged.gainHigh, ranged.peak, ranged.lowestLow, ranged.lowestHigh⟩
  · have glided : m.glided.Bounded := (fit.glided off).bounded
    have least : 3 ≤ blockGain slots clicks m.glided l := three_le_blockGain heard ticks glided ranged.gainLow
    have most : blockGain slots clicks m.glided l ≤ 65536 := limiterGain_le _ _ _ _
    have ceiling := (ceilingOf_range glided.settings.ceilingLow glided.settings.ceilingHigh).2
    have inside := outputOf_le (slots := slots) (clicks := clicks) (m := m.glided) i l
    rw [computeMix_computed off]
    refine ⟨?_, ?_, max_le ranged.peak (max_le ?_ ?_), le_min ranged.lowestLow least, (min_le_left _ _).trans ranged.lowestHigh⟩
    · dsimp only; split
      · norm_num
      · exact least
    · dsimp only; split
      · exact le_refl _
      · exact most
    · exact blockPeak_le_of_forall fun k => (inside k).1.trans ceiling
    · exact blockPeak_le_of_forall fun k => (inside k).2.trans ceiling

/-- A mix that is OFF after the boundary has its limiter at unity (R88, R115). -/
theorem computeMix_gain_of_off (unity : m.state = .off → l.gain = 65536) (i : Fin 16)
    (h : (computeMix slots clicks i m l).mix.state = .off) : (computeMix slots clicks i m l).limiter.gain = 65536 := by
  by_cases off : m.state = .off
  · rw [computeMix_off off]; exact unity off
  · rw [computeMix_computed off] at h ⊢
    exact if_pos h

/-- A boundary decides the LIMIT condition by the gain that it leaves (R117). -/
theorem computeMix_limitsBelowUnity (i : Fin 16) : (computeMix slots clicks i m l).limiter.LimitsBelowUnity := by
  by_cases off : m.state = .off
  · rw [computeMix_off off]; exact nofun
  · rw [computeMix_computed off]
    intro limits
    obtain ⟨below, sounding⟩ := of_decide_eq_true limits
    dsimp only
    rw [if_neg sounding]
    exact below

end

/-! ## The limiters of a state -/

section
variable {s : State}

theorem State.LimitersFit.of_eqs {t : State} (h : s.LimitersFit) (mixes : t.mixes = s.mixes) (limiters : t.limiters = s.limiters) :
    t.LimitersFit :=
  ⟨fun i => limiters ▸ h.ranged i, fun i => by rw [mixes, limiters]; exact h.off i⟩

theorem State.LimitersFit.withClock (h : s.LimitersFit) (c : Clock) : (s.withClock c).LimitersFit := h.of_eqs rfl rfl

theorem State.LimitersFit.withRing (h : s.LimitersFit) (r : Ring) : (s.withRing r).LimitersFit := h.of_eqs rfl rfl

/-- Entry into STOPPED brings every limiter to unity and clears its condition (R101, R115). -/
theorem State.LimitersFit.enterStopped (h : s.LimitersFit) : s.enterStopped.LimitSound := by
  have stopped (i : Fin 16) : s.enterStopped.limiters.get i = (s.limiters.get i).stopped := Table.get_map _ _ i
  refine ⟨⟨fun i => ?_, fun i _ => ?_⟩, fun i => ?_⟩
  · rw [stopped]; exact (h.ranged i).unity false
  · rw [stopped]; rfl
  · rw [stopped]; exact Limiter.limitsBelowUnity_of_rest ⟨rfl, rfl⟩

/-- The limiters of an apply: a mix that it leaves OFF has been OFF, or has its limiter set to unity (R115, R135). -/
theorem State.LimitersFit.applyCue (h : s.LimitersFit) (b : Fin 4) (w : CueWork) (mode : ApplyMode) (mask : MixMask)
    (moment : ApplyAt) : (s.applyCue b w mode mask moment).1.LimitersFit := by
  cases decision : poolDecision s.mixes w.copy mask mode with
  | none => rw [State.applyCue_refused decision]; exact h.of_eqs rfl rfl
  | some fallback =>
    rw [State.applyCue_made decision]
    generalize appliedMixes s.mixes w.copy mask mode fallback = after
    have applied (i : Fin 16) : (appliedLimiters s.limiters s.mixes after).get i =
        if (s.mixes.get i).state ≠ .off ∧ (after.get i).state = .off then { s.limiters.get i with gain := 65536 }
        else s.limiters.get i := Table.get_tabulate _ i
    refine ⟨fun i => ?_, fun i silent => ?_⟩
    · show ((appliedLimiters s.limiters s.mixes after).get i).Ranged
      rw [applied]; split
      · exact (h.ranged i).unity _
      · exact h.ranged i
    · show ((appliedLimiters s.limiters s.mixes after).get i).gain = 65536
      rw [applied]; split
      · rfl
      · rename_i stayed
        exact h.off i (by_contra fun sounded => stayed ⟨sounded, silent⟩)

/-- A deferred apply changes the limiters as an apply does; a STOP and a CLOSED slot leave them (R9, R132). -/
theorem State.LimitersFit.completeEntry (h : s.LimitersFit) (m : BlockNo) (d : Deferred) : (s.completeEntry m d).LimitersFit := by
  cases job : d.job with
  | stop => rw [State.completeEntry_stop job]; exact h.of_eqs rfl rfl
  | apply b mode mask =>
    cases slot : s.cues.slots.get b with
    | none => rw [State.completeEntry_closed job slot]; exact h.of_eqs rfl rfl
    | some w =>
      rw [State.completeEntry_apply job slot]
      exact (h.applyCue b w mode mask (.boundary m)).of_eqs (State.withLink_mixes _ _) (State.withLink_limiters _ _)

theorem State.LimitersFit.completeDeferred (h : s.LimitersFit) (m : BlockNo) : (s.completeDeferred m).LimitersFit :=
  (State.completeDeferred_induction m (fun _ d _ _ fit => fit.completeEntry m d) s h).1

/-- A mixed block computes every limiter anew, and the end of a meter interval clears its meters only (R102, R200). -/
theorem State.LimitersFit.mixBlock {d : State} {c : Clock} {ring : Ring} (h : d.LimitersFit) (b : AtBoundary s d c ring)
    (mixes : d.MixesFit) (n : BlockNo) (heard : SlotsInRange (d.assemble n).slots) : (d.mixBlock s n).LimitSound := by
  have ticks := s.click.blockSamples_inRange
  have computed (i : Fin 16) : (computeMixes (d.assemble n) s.click.blockSamples).get i =
      computeMix (d.assemble n).slots s.click.blockSamples i (d.mixes.get i) (d.limiters.get i) := Table.get_tabulate _ i
  obtain ⟨_, _, _, _, _, _, settled, _⟩ := State.mixBlock_fields d s n
  have limiter := b.mixBlock_limiter n (computed := computeMixes (d.assemble n) s.click.blockSamples) rfl
  simp only [computed] at limiter
  refine ⟨⟨fun i => ?_, fun i silent => ?_⟩, fun i => ?_⟩
  · have ranged := computeMix_limiter_ranged heard ticks (mixes.mixes i) (h.ranged i) i
    rw [limiter]
    split
    · exact ranged.cleared
    · exact ranged
  · rw [settled, Table.get_map, b.click, computed] at silent
    rw [limiter]
    exact computeMix_gain_of_off (h.off i) i silent
  · rw [limiter]
    exact computeMix_limitsBelowUnity i

end

end Sys2Proof.Machine
end

section
/-! The owners of the requests: which leave the limiters and the states of the mixes alone, and what the others do to them. -/

namespace Sys2Proof.Machine

/-! ## What leaves the limiters and the states of the mixes -/

/-- Two states with the same limiters, and each mix in the same state. -/
structure LimitersKept (s t : State) : Prop where
  limiters : t.limiters = s.limiters
  states : ∀ i, (t.mixes.get i).state = (s.mixes.get i).state

theorem LimitersKept.of_eqs {s t : State} (limiters : t.limiters = s.limiters) (mixes : t.mixes = s.mixes) : LimitersKept s t :=
  ⟨limiters, fun i => by rw [mixes]⟩

theorem LimitersKept.refl (s : State) : LimitersKept s s := .of_eqs rfl rfl

theorem LimitersKept.trans {s t u : State} (h : LimitersKept s t) (k : LimitersKept t u) : LimitersKept s u :=
  ⟨k.limiters.trans h.limiters, fun i => (k.states i).trans (h.states i)⟩

/-- One mix replaced by one in the same state. -/
theorem LimitersKept.setMix (s : State) (i : Fin 16) {m : Mix} (same : m.state = (s.mixes.get i).state) :
    LimitersKept s (s.withMixes (s.mixes.set i m)) := by
  refine ⟨rfl, fun j => ?_⟩
  rw [State.withMixes_mixes, Table.get_set]
  split
  · rename_i here; rw [here]; exact same
  · rfl

theorem State.LimitersFit.kept {s t : State} (h : s.LimitersFit) (k : LimitersKept s t) : t.LimitersFit :=
  ⟨fun i => k.limiters ▸ h.ranged i, fun i => by rw [k.limiters, k.states]; exact h.off i⟩

theorem State.LimitSound.kept {s t : State} (h : s.LimitSound) (k : LimitersKept s t) : t.LimitSound :=
  ⟨h.fit.kept k, fun i => k.limiters ▸ h.conditions i⟩

theorem State.LimitSound.withLink {s : State} (h : s.LimitSound) (l : Link) : (s.withLink l).LimitSound :=
  h.kept (.of_eqs rfl rfl)

/-! ## Owners that leave them -/

/-- An owner that leaves the limiters, and every mix in its state. -/
def Owner.LeavesLimiters (take : Owner) : Prop := ∀ s : State, LimitersKept s (take s).1

theorem leaves_bindStream (index a b c channels accept : Byte) : Owner.LeavesLimiters (bindStream index a b c channels accept) := by
  intro s
  unfold bindStream
  dsimp only
  repeat' split
  all_goals exact .of_eqs rfl rfl

theorem leaves_withBoundStream {index : Byte} {f : Fin 8 → Owner} (h : ∀ i, (f i).LeavesLimiters) :
    Owner.LeavesLimiters (withBoundStream index f) := by
  intro s
  unfold withBoundStream
  split
  · exact .refl s
  · split
    · exact h _ s
    · exact .refl s

theorem leaves_unbindStream (index : Byte) : Owner.LeavesLimiters (unbindStream index) :=
  leaves_withBoundStream fun i s => by dsimp only; split <;> exact .of_eqs rfl rfl

theorem leaves_flushStream (index : Byte) : Owner.LeavesLimiters (flushStream index) :=
  leaves_withBoundStream fun _ _ => .of_eqs rfl rfl

theorem leaves_setStream (index accept : Byte) : Owner.LeavesLimiters (setStream index accept) :=
  leaves_withBoundStream fun i s => by dsimp only; split <;> exact .of_eqs rfl rfl

theorem leaves_queryStream (index : Byte) : Owner.LeavesLimiters (queryStream index) := by
  intro s
  unfold queryStream
  split <;> exact .refl s

theorem leaves_bindSlot (slot stream channel polarity hold : Byte) :
    Owner.LeavesLimiters (bindSlot slot stream channel polarity hold) := by
  intro s
  unfold bindSlot
  repeat' split
  all_goals exact .of_eqs rfl rfl

theorem leaves_setSlot (slot polarity hold : Byte) : Owner.LeavesLimiters (setSlot slot polarity hold) := by
  intro s
  unfold setSlot
  repeat' split
  all_goals exact .of_eqs rfl rfl

theorem leaves_unbindSlot (slot : Byte) : Owner.LeavesLimiters (unbindSlot slot) := by
  intro s
  unfold unbindSlot
  repeat' split
  all_goals exact .of_eqs rfl rfl

theorem leaves_querySlot (slot : Byte) : Owner.LeavesLimiters (querySlot slot) := by
  intro s
  unfold querySlot
  split <;> exact .refl s

theorem leaves_noticeSet (cls setting : Byte) : Owner.LeavesLimiters (noticeSet cls setting) := by
  intro s
  unfold noticeSet
  split <;> exact .of_eqs rfl rfl

theorem leaves_startEngine : Owner.LeavesLimiters startEngine := by
  intro s
  unfold startEngine
  split <;> exact .of_eqs rfl rfl

theorem leaves_queryMix (mix start : Byte) : Owner.LeavesLimiters (queryMix mix start) := by
  intro s
  unfold queryMix
  split <;> exact .refl s

theorem leaves_assignPack (address mix role : Byte) : Owner.LeavesLimiters (assignPack address mix role) := by
  intro s
  unfold assignPack
  dsimp only
  repeat' split
  all_goals exact .of_eqs rfl rfl

theorem leaves_removePack (address : Byte) : Owner.LeavesLimiters (removePack address) := by
  intro s
  unfold removePack
  dsimp only
  repeat' split
  all_goals exact .of_eqs rfl rfl

theorem leaves_packText (address : Byte) (chars : List Byte) : Owner.LeavesLimiters (packText address chars) := by
  intro s
  unfold packText
  dsimp only
  repeat' split
  all_goals exact .of_eqs rfl rfl

theorem leaves_queryPack (address : Byte) : Owner.LeavesLimiters (queryPack address) := by
  intro s
  unfold queryPack
  repeat' split
  all_goals exact .refl s

theorem leaves_clickRequest (f : Click → Click) : Owner.LeavesLimiters (clickRequest f) := fun _ => .of_eqs rfl rfl

theorem leaves_queryCounters (group index clear : Byte) : Owner.LeavesLimiters (queryCounters group index clear) := by
  intro s
  have cleared (g : Group) : LimitersKept s (clearGroup s g) := by cases g <;> exact .of_eqs rfl rfl
  unfold queryCounters
  repeat' split
  case h_4.isTrue => exact cleared _
  all_goals exact .refl s

/-! ## Live mixes: the edits that leave a mix in its state (R89 to R96) -/

theorem leaves_addSendLive (mix slot level balance self mute : Byte) :
    Owner.LeavesLimiters (addSendLive mix slot level balance self mute) := by
  intro s
  unfold addSendLive
  dsimp only
  repeat' split
  case h_1.isFalse.isTrue => exact .setMix s _ rfl
  case h_1.isFalse.isFalse.isFalse.isFalse => exact .setMix s _ rfl
  all_goals exact .refl s

theorem leaves_setSendLive (mix slot flags level balance self mute : Byte) :
    Owner.LeavesLimiters (setSendLive mix slot flags level balance self mute) := by
  intro s
  unfold setSendLive
  dsimp only
  repeat' split
  case h_2.isFalse => exact .setMix s _ rfl
  all_goals exact .refl s

theorem leaves_removeSendLive (mix slot : Byte) : Owner.LeavesLimiters (removeSendLive mix slot) := by
  intro s
  unfold removeSendLive
  dsimp only
  repeat' split
  case h_1.isFalse.isTrue => exact .setMix s _ rfl
  case h_1.isFalse.isFalse => exact .setMix s _ rfl
  all_goals exact .refl s

theorem leaves_setTrim (mix volume self others dim : Byte) : Owner.LeavesLimiters (setTrim mix volume self others dim) := by
  intro s
  unfold setTrim
  split
  · exact .refl s
  · split
    · exact .refl s
    · exact .trans (.setMix s _ (Mix.setTrim_sameShape _ _ _ _ _).state) (.of_eqs rfl rfl)

/-! ## Owners of the Cue Controller -/

theorem leaves_withOpenCue {b : Fin 4} {f : CueWork → Owner} (h : ∀ w, (f w).LeavesLimiters) :
    Owner.LeavesLimiters (withOpenCue b f) := by
  intro s
  cases slot : s.cues.slots.get b with
  | none => rw [withOpenCue_closed slot]; exact .refl s
  | some w =>
    cases busy : w.applying with
    | true => rw [withOpenCue_busy slot busy]; exact .refl s
    | false => rw [withOpenCue_open slot busy]; exact h w s

theorem leaves_withBank {bank : Byte} {f : Fin 4 → Owner} (h : ∀ b, (f b).LeavesLimiters) :
    Owner.LeavesLimiters (withBank bank f) := by
  intro s
  unfold withBank
  split
  · exact .refl s
  · exact h _ s

theorem leaves_mixSetCue (b : Fin 4) (mix state kind master ceiling rel1 rel2 : Byte) :
    Owner.LeavesLimiters (mixSetCue b mix state kind master ceiling rel1 rel2) := by
  intro s
  unfold mixSetCue
  split
  · exact .refl s
  · split
    · exact leaves_withOpenCue (fun _ _ => .of_eqs rfl rfl) s
    · exact .refl s

theorem leaves_addSendCue (b : Fin 4) (mix slot level balance self mute : Byte) :
    Owner.LeavesLimiters (addSendCue b mix slot level balance self mute) := by
  intro s
  unfold addSendCue
  split
  · split
    · refine leaves_withOpenCue (fun w s => ?_) s
      dsimp only
      repeat' split
      all_goals exact .of_eqs rfl rfl
    · exact .refl s
  · exact .refl s

theorem leaves_setSendCue (b : Fin 4) (mix slot flags level balance self mute : Byte) :
    Owner.LeavesLimiters (setSendCue b mix slot flags level balance self mute) := by
  intro s
  unfold setSendCue
  split
  · split
    · exact .refl s
    · refine leaves_withOpenCue (fun w s => ?_) s
      dsimp only
      split <;> exact .of_eqs rfl rfl
  · exact .refl s

theorem leaves_removeSendCue (b : Fin 4) (mix slot : Byte) : Owner.LeavesLimiters (removeSendCue b mix slot) := by
  intro s
  unfold removeSendCue
  split
  · refine leaves_withOpenCue (fun w s => ?_) s
    dsimp only
    split <;> exact .of_eqs rfl rfl
  · exact .refl s

theorem leaves_takeLive (bank m1 m2 : Byte) : Owner.LeavesLimiters (takeLive bank m1 m2) :=
  leaves_withBank fun _ => leaves_withOpenCue fun _ _ => .of_eqs rfl rfl

theorem leaves_openCue (bank row : Byte) : Owner.LeavesLimiters (openCue bank row) := by
  intro s
  unfold openCue
  repeat' split
  all_goals exact .of_eqs rfl rfl

theorem leaves_storeCue (bank : Byte) : Owner.LeavesLimiters (storeCue bank) :=
  leaves_withBank fun _ => leaves_withOpenCue fun _ _ => .of_eqs rfl rfl

theorem leaves_closeCue (bank writeback : Byte) : Owner.LeavesLimiters (closeCue bank writeback) := by
  refine leaves_withBank fun b s => ?_
  dsimp only
  split
  · exact .refl s
  · exact leaves_withOpenCue (fun _ _ => .of_eqs rfl rfl) s

theorem leaves_queryCue (bank mix start : Byte) : Owner.LeavesLimiters (queryCue bank mix start) := by
  intro s
  unfold queryCue
  split <;> exact .refl s

theorem leaves_queryScene (scene mix start : Byte) : Owner.LeavesLimiters (queryScene scene mix start) := by
  intro s
  unfold queryScene
  split <;> exact .refl s

/-! ## Owners that set limiters -/

/-- An owner that keeps the limiters sound, of mixes and an engine that are so. -/
def Owner.KeepsLimiters (take : Owner) : Prop := ∀ s : State, s.MixTableSound → s.LimitSound → (take s).1.LimitSound

theorem Owner.LeavesLimiters.keeps {take : Owner} (h : take.LeavesLimiters) : take.KeepsLimiters := fun s _ sound => sound.kept (h s)

theorem keepsLimiters_resetPart : Owner.KeepsLimiters resetPart := by
  intro s _ _
  have fresh (i : Fin 16) : (resetPart s).1.limiters.get i = Limiter.reset := Table.get_fill _ _
  refine ⟨⟨fun i => ?_, fun i _ => ?_⟩, fun i => ?_⟩
  · rw [fresh]; exact ⟨by decide, by decide, by decide, by decide, by decide⟩
  · rw [fresh]; rfl
  · rw [fresh]; exact nofun

theorem keepsLimiters_setFormat (r1 r2 r3 r4 lag i1 i2 i3 : Byte) : Owner.KeepsLimiters (setFormat r1 r2 r3 r4 lag i1 i2 i3) := by
  intro s _ h
  unfold setFormat
  dsimp only
  repeat' split
  case isFalse.isFalse.isFalse => exact State.LimitersFit.enterStopped (h.fit.of_eqs rfl rfl)
  all_goals exact h

theorem keepsLimiters_stopEngine : Owner.KeepsLimiters stopEngine := by
  intro s _ h
  unfold stopEngine
  split
  case h_3 => exact h.fit.enterStopped
  all_goals exact h

/-- METER_SET clears the meters of every limiter, or none (R198, R200). -/
theorem keepsLimiters_meterSet (meters a b : Byte) : Owner.KeepsLimiters (meterSet meters a b) := by
  intro s _ h
  unfold meterSet
  split
  · exact h
  · dsimp only
    split
    · exact h.kept (.of_eqs rfl rfl)
    · have cleared (i : Fin 16) : (clearMeters s.limiters).get i = { s.limiters.get i with peak := 0, lowest := 65536 } :=
        Table.get_map _ _ i
      refine ⟨⟨fun i => ?_, fun i off => ?_⟩, fun i => ?_⟩
      · show ((clearMeters s.limiters).get i).Ranged
        rw [cleared]; exact (h.fit.ranged i).cleared
      · show ((clearMeters s.limiters).get i).gain = 65536
        rw [cleared]; exact h.fit.off i off
      · show ((clearMeters s.limiters).get i).LimitsBelowUnity
        rw [cleared]; exact h.conditions i

/-- A mix is moved from a sounding state to OFF by an engine at rest only. -/
theorem requestedState_off_at_rest {mixing on : Bool} {before : MixState} (sounded : before ≠ .off)
    (h : requestedState mixing before on = .off) : mixing = false := by
  obtain rfl := (requestedState_eq_off h).resolve_left sounded
  cases mixing with
  | false => rfl
  | true => cases on with
    | true | false => exact absurd h nofun

/-- A mix replaced by one that is not OFF, or whose limiter is at unity. -/
theorem State.LimitSound.setMix {s : State} (h : s.LimitSound) (i : Fin 16) {m : Mix}
    (unity : m.state = .off → (s.limiters.get i).gain = 65536) : (s.withMixes (s.mixes.set i m)).LimitSound := by
  refine ⟨⟨h.fit.ranged, fun j => ?_⟩, h.conditions⟩
  rw [State.withMixes_mixes, Table.get_set]
  split
  · rename_i here; rw [here]; exact unity
  · exact h.fit.off j

/-- A limiter that is at unity is set to unity. -/
theorem unityLimiter_eq_self {t : Table Limiter 16} {i : Fin 16} (h : (t.get i).gain = 65536) :
    (t.modify i fun l => { l with gain := Config.unity }) = t := by
  have same : ({ t.get i with gain := Config.unity } : Limiter) = t.get i := by rw [show Config.unity = (t.get i).gain from h.symm]
  rw [Table.modify, same, Table.set_get_self]

/-- A mix that MIX_SET leaves OFF was OFF, or is turned OFF at rest: its limiter is at unity already (R85, R115). -/
theorem keepsLimiters_mixSetLive (mix state kind master ceiling rel1 rel2 click : Byte) :
    Owner.KeepsLimiters (mixSetLive mix state kind master ceiling rel1 rel2 click) := by
  intro s table h
  unfold mixSetLive
  split
  · exact h
  · rename_i i _
    split
    · rename_i on stereo _ _
      dsimp only
      generalize set : (s.mixes.get i).set s.clock.mixing on stereo _ _ _ _ = m
      have reached : m.state = requestedState s.clock.mixing (s.mixes.get i).state on := set ▸ (Mix.set_shape _ _ _ _ _ _ _ _).1
      have unity (off : m.state = .off) : (s.limiters.get i).gain = 65536 := by
        by_cases before : (s.mixes.get i).state = .off
        · exact h.fit.off i before
        · exact ((table.rest (requestedState_off_at_rest before (reached.symm.trans off))).limiters i).1
      split
      · rename_i turned
        rw [unityLimiter_eq_self (unity turned.2)]
        exact h.setMix i unity
      · exact h.setMix i unity
    · exact h

/-- An apply at once is made by an engine at rest, where no limiter has a condition (R131). -/
theorem keepsLimiters_applyCueRequest (bank mode m1 m2 : Byte) : Owner.KeepsLimiters (applyCueRequest bank mode m1 m2) := by
  intro s table h
  unfold applyCueRequest withBank
  split
  · exact h
  · rename_i b _
    dsimp only
    split
    · exact h
    · cases slot : s.cues.slots.get b with
      | none => rw [withOpenCue_closed slot]; exact h
      | some w =>
        cases busy : w.applying with
        | true => rw [withOpenCue_busy slot busy]; exact h
        | false =>
          rw [withOpenCue_open slot busy]
          split
          · exact h
          · rename_i still
            have rest := (table.rest (by simpa using still)).applyCut b w (mixMask m1 m2) .immediate
            have sound : (s.applyCue b w .cut (mixMask m1 m2) .immediate).1.LimitSound :=
              ⟨h.fit.applyCue b w .cut _ .immediate, fun i => Limiter.limitsBelowUnity_of_rest (rest.limiters i)⟩
            generalize s.applyCue b w .cut (mixMask m1 m2) .immediate = made at sound ⊢
            exact sound

/-! ## Every request row -/

theorem keepsLimiters_zeroField {o : Owner} {f : List Byte} {take : Owner} (keeps : o.KeepsLimiters)
    (h : zeroField o f = some take) : take.KeepsLimiters := by
  rw [zeroField_eq] at h
  refine withFields_all 1 (fun z => ?_) h
  show Owner.KeepsLimiters (if z = 0 then o else refuse .badValue)
  split
  · exact keeps
  · exact fun _ _ sound => sound

theorem keepsLimiters_packText {f : List Byte} {take : Owner} (h : packTextOwner f = some take) : take.KeepsLimiters := by
  rcases f with _ | ⟨address, _ | ⟨c, rest⟩⟩
  · cases h
  · cases h
  · simp only [packTextOwner, Option.ite_none_right_eq_some, Option.some.injEq] at h
    obtain ⟨_, rfl⟩ := h
    exact (leaves_packText _ _).keeps

theorem keepsLimiters_editTarget {target bank : Byte} {live : Owner} {cue : Fin 4 → Owner} (hl : live.KeepsLimiters)
    (hc : ∀ b, (cue b).LeavesLimiters) : Owner.KeepsLimiters (editTarget target bank live cue) := by
  unfold editTarget
  split
  · exact hl
  · split
    · split
      · exact (hc _).keeps
      · exact fun _ _ sound => sound
    · exact fun _ _ sound => sound

/-- The owner of every request row keeps the limiters sound. -/
theorem requestOwner_keepsLimiters {i : Instr} {take : Owner} (h : requestOwner i = some take) : take.KeepsLimiters := by
  cases i with
  | ident | status => exact keepsLimiters_zeroField (fun _ _ sound => sound) h
  | reset => exact keepsLimiters_zeroField keepsLimiters_resetPart h
  | noticeSet => exact withFields_all 2 (fun a b => (leaves_noticeSet a b).keeps) h
  | format => exact withFields_all 8 keepsLimiters_setFormat h
  | start => exact keepsLimiters_zeroField leaves_startEngine.keeps h
  | stop => exact keepsLimiters_zeroField keepsLimiters_stopEngine h
  | bindStream => exact withFields_all 6 (fun a b c d e f => (leaves_bindStream a b c d e f).keeps) h
  | unbindStream => exact withFields_all 1 (fun a => (leaves_unbindStream a).keeps) h
  | flushStream => exact withFields_all 1 (fun a => (leaves_flushStream a).keeps) h
  | setStream => exact withFields_all 2 (fun a b => (leaves_setStream a b).keeps) h
  | queryStream => exact withFields_all 1 (fun a => (leaves_queryStream a).keeps) h
  | bindSlot => exact withFields_all 5 (fun a b c d e => (leaves_bindSlot a b c d e).keeps) h
  | setSlot => exact withFields_all 3 (fun a b c => (leaves_setSlot a b c).keeps) h
  | unbindSlot => exact withFields_all 1 (fun a => (leaves_unbindSlot a).keeps) h
  | querySlot => exact withFields_all 1 (fun a => (leaves_querySlot a).keeps) h
  | mixSetLive | mixSetCue =>
    exact withFields_all 10 (fun _ _ c d e f g h i j =>
      keepsLimiters_editTarget (keepsLimiters_mixSetLive c d e f g h i j) fun k => leaves_mixSetCue k c d e f g h i) h
  | addSendLive | addSendCue =>
    exact withFields_all 8 (fun _ _ c d e f g h =>
      keepsLimiters_editTarget (leaves_addSendLive c d e f g h).keeps fun k => leaves_addSendCue k c d e f g h) h
  | setSendLive | setSendCue =>
    exact withFields_all 9 (fun _ _ c d e f g h i =>
      keepsLimiters_editTarget (leaves_setSendLive c d e f g h i).keeps fun k => leaves_setSendCue k c d e f g h i) h
  | removeSendLive | removeSendCue =>
    exact withFields_all 4 (fun _ _ c d =>
      keepsLimiters_editTarget (leaves_removeSendLive c d).keeps fun k => leaves_removeSendCue k c d) h
  | setTrim => exact withFields_all 5 (fun a b c d e => (leaves_setTrim a b c d e).keeps) h
  | queryMix => exact withFields_all 2 (fun a b => (leaves_queryMix a b).keeps) h
  | openCue => exact withFields_all 2 (fun a b => (leaves_openCue a b).keeps) h
  | takeLive => exact withFields_all 3 (fun a b c => (leaves_takeLive a b c).keeps) h
  | storeCue => exact withFields_all 1 (fun a => (leaves_storeCue a).keeps) h
  | closeCue => exact withFields_all 2 (fun a b => (leaves_closeCue a b).keeps) h
  | applyCue => exact withFields_all 4 keepsLimiters_applyCueRequest h
  | queryCue => exact withFields_all 3 (fun a b c => (leaves_queryCue a b c).keeps) h
  | queryScene => exact withFields_all 3 (fun a b c => (leaves_queryScene a b c).keeps) h
  | assignPack => exact withFields_all 3 (fun a b c => (leaves_assignPack a b c).keeps) h
  | removePack => exact withFields_all 1 (fun a => (leaves_removePack a).keeps) h
  | packText => exact keepsLimiters_packText h
  | queryPack => exact withFields_all 1 (fun a => (leaves_queryPack a).keeps) h
  | clickSet => exact withFields_all 6 (fun _ _ _ _ _ _ => (leaves_clickRequest _).keeps) h
  | clickStart | clickStop => exact keepsLimiters_zeroField (leaves_clickRequest _).keeps h
  | meterSet => exact withFields_all 3 keepsLimiters_meterSet h
  | queryCounters => exact withFields_all 3 (fun a b c => (leaves_queryCounters a b c).keeps) h
  | powerOn | linkByteReceived | interByteGapExpiry | unknownKindRequest | transmitEnd | syncFrame | audioFrame
  | malformedStageFrame | syncWatchExpiry | holdoverTimerExpiry | announceWindowClose | grantedWindowClose
  | upstreamSignalAfterIdle => cases h

end Sys2Proof.Machine
end

section
/-! Every step keeps the limiters: requests, upstream windows, boundaries and every other command. -/

namespace Sys2Proof.Machine

variable {s : State}

/-! ## Requests -/

theorem LimitersKept.answer (s : State) (kind tag : Byte) (a : Answer) : LimitersKept s (s.answer kind tag a) := by
  obtain ⟨_, _, _, mixes, limiters, _⟩ := State.answer_frame s kind tag a
  exact .of_eqs limiters mixes

/-- The taking of a request keeps the limiters sound if its owner does. -/
theorem State.LimitSound.takeRequest {o : Option Owner} (h : s.LimitSound) (table : s.MixTableSound)
    (keeps : ∀ take, o = some take → take.KeepsLimiters) (kind tag : Byte) : (takeRequest kind tag o s).LimitSound := by
  rcases takeRequest_cases kind tag o s with full | ⟨e, refused⟩ | ⟨take, owner, _, decided⟩
  · rw [full]; exact h.withLink _
  · rw [refused]; exact h.withLink _
  · rw [decided]; exact (keeps take owner s table h).kept (.answer _ _ _ _)

/-- A request row, of a known or an unknown kind, keeps the limiters sound. -/
theorem State.LimitSound.request {t : State} (h : s.LimitSound) (table : s.MixTableSound) {i : Instr} {kind : Byte}
    (hk : kindOf i = some kind) (run : exec i s = .next t) : t.LimitSound := by
  obtain ⟨tag, unknown | known⟩ := exec_request_cases hk s
  · cases unknown.symm.trans run
    unfold takeUnknownKind
    split
    · exact h.withLink _
    · exact h.withLink _
  · cases known.symm.trans run
    exact h.takeRequest table (fun take own => requestOwner_keepsLimiters own) kind tag

/-- A received byte is taken, discarded, or completes a request. -/
theorem State.LimitSound.byte {t : State} (h : s.LimitSound) (table : s.MixTableSound) {time : Time} {b : Byte}
    (run : exec (.linkByteReceived time b) s = .next t) : t.LimitSound := by
  cases event : (s.link.settleGap time).rx.receive time b with
  | mk rx e =>
    cases e with
    | taken => cases (exec_byte_taken event).symm.trans run; exact h.withLink _
    | discarded => cases (exec_byte_discarded event).symm.trans run; exact h.withLink _
    | complete body =>
      have decoded := (exec_byte_complete event).symm.trans run
      rcases State.takeBody_eq (s.withLink { s.link.settleGap time with rx := rx }) body with ⟨i, kind, hk, eq⟩ | eq
      · exact (h.withLink _).request (table.withLink _) hk (eq.symm.trans decoded)
      · cases eq.symm.trans decoded; exact h.withLink _

/-! ## Upstream windows: a mix stays in its state -/

theorem LimitersKept.withLine (s : State) (l : PackLine) : LimitersKept s (s.withLine l) := .of_eqs rfl rfl

theorem LimitersKept.raisePack (s : State) (n : Notice) : LimitersKept s (s.raisePack n) := by
  unfold State.raisePack
  split
  · exact .of_eqs rfl rfl
  · exact .refl s

theorem LimitersKept.raiseQueues (s : State) (q : List (List NoticeGroup)) : LimitersKept s (s.raiseQueues q) := by
  obtain ⟨notices, draws, eq⟩ := State.raiseQueues_eq s q
  rw [eq]; exact .of_eqs rfl rfl

/-- A change of the pack line, and a PACK notice about it. -/
theorem LimitersKept.lineAndNotice (s : State) (l : PackLine) (n : Notice) : LimitersKept s ((s.withLine l).raisePack n) :=
  (LimitersKept.withLine s l).trans (.raisePack _ n)

theorem LimitersKept.hello (s : State) (k : Serial) : LimitersKept s (s.hello k) := by
  unfold State.hello
  split
  · unfold State.helloKnown
    split
    · exact .lineAndNotice _ _ _
    · split
      · exact .withLine _ _
      · exact .lineAndNotice _ _ _
      · exact .withLine _ _
  · unfold State.helloUnknown
    split
    · exact .lineAndNotice _ _ _
    · split
      · exact .lineAndNotice _ _ _
      · exact .withLine _ _

theorem LimitersKept.collision (s : State) : LimitersKept s s.collision := by
  unfold State.collision
  split
  · exact .withLine _ _
  · exact .lineAndNotice _ _ _

theorem LimitersKept.closeAnnounce (s : State) (heard : Option (List Byte)) : LimitersKept s (s.closeAnnounce heard) := by
  unfold State.closeAnnounce
  split
  · dsimp only
    refine .trans (.withLine s { s.line with announceOpen := false }) ?_
    split
    · exact .withLine _ _
    · split
      · exact .trans (.withLine _ _) (.hello _ _)
      · exact .collision _
  · exact .refl s

/-- A pack request leaves its mix in its state (R176 to R178). -/
theorem LimitersKept.decideRequest (s : State) (a : Fin 24) (kind : Byte) (value : Int) (more : Bool) :
    LimitersKept s (s.decideRequest a kind value more) := by
  unfold State.decideRequest
  split
  · exact .withLine _ _
  · dsimp only
    split
    · exact .withLine _ _
    · split
      · exact .withLine _ _
      · exact .trans (.setMix s _ (Mix.packRequest_sameShape _ _ _).state) (.withLine _ _)

theorem LimitersKept.closePoll (s : State) (a : Fin 24) (heard : Option (List Byte)) : LimitersKept s (s.closePoll a heard) := by
  unfold State.closePoll
  split
  · exact .withLine _ _
  · split
    · exact .withLine _ _
    · exact .trans (.withLine _ _) (.decideRequest _ _ _ _ _)
    · exact .withLine _ _

theorem LimitersKept.confirmFailed (s : State) (a : Fin 24) : LimitersKept s (s.confirmFailed a) := by
  unfold State.confirmFailed
  dsimp only
  split
  · exact .withLine _ _
  · exact .lineAndNotice _ _ _

theorem LimitersKept.closeConfirm (s : State) (a : Fin 24) (heard : Option (List Byte)) : LimitersKept s (s.closeConfirm a heard) := by
  unfold State.closeConfirm
  split
  · exact .trans (.withLine _ _) (.confirmFailed _ _)
  · split
    · exact .lineAndNotice _ _ _
    · exact .trans (.withLine _ _) (.confirmFailed _ _)

theorem LimitersKept.decreasePresence (s : State) : LimitersKept s s.decreasePresence := by
  unfold State.decreasePresence
  dsimp only
  split
  · exact .trans (.withLine _ _) (.raiseQueues _ _)
  · exact .withLine _ _

theorem LimitersKept.closeGranted (s : State) (w : GrantWindow) (heard : Option (List Byte)) :
    LimitersKept s (s.closeGranted w heard) := by
  unfold State.closeGranted
  dsimp only
  refine .trans (.trans ?_ (.decreasePresence _)) (.withLine _ _)
  split
  · exact .refl s
  · split
    · exact .closeConfirm s _ heard
    · exact .closePoll s _ heard

theorem LimitersKept.closeGrantedWindow (s : State) (heard : Option (List Byte)) : LimitersKept s (s.closeGrantedWindow heard) := by
  unfold State.closeGrantedWindow
  split
  · exact .refl s
  · exact .trans (.closeAnnounce s none) (.closeGranted _ _ heard)

theorem LimitersKept.closeWindows (s : State) : LimitersKept s s.closeWindows :=
  .trans (.closeAnnounce s none) (.closeGrantedWindow _ none)

/-! ## Boundaries -/

/-- What the limiters after a boundary rest on: samples, mixes and limiters in range before it. -/
structure State.MixerSound (s : State) : Prop where
  stage : s.StageSound
  table : s.MixTableSound
  limits : s.LimitSound

/-- The slots that a boundary mixes hold samples in range (R67 to R70). -/
theorem slotsInRange_assemble {d : State} (stage : s.StageSound) (slots : d.slots = s.slots) (n : BlockNo) :
    SlotsInRange (d.assemble n).slots := by
  intro i k
  have slot : (d.assemble n).slots.get i = assembleSlot d.ring n (s.slots.get i) := by
    rw [← slots]; exact Table.get_map _ _ i
  obtain ⟨⟨_, _, _, assembled, _⟩, _⟩ := (stage.slots i).assemble d.ring n
  rw [slot]
  exact (Table.forall_iff _ SampleInRange).mp assembled k

theorem State.MixerSound.mixingBoundary (h : s.MixerSound) (c : Clock) (n : BlockNo) (relocked : Bool) :
    (s.mixingBoundary c n relocked).LimitSound := by
  rw [State.mixingBoundary_eq]
  generalize (if relocked = true then s.ring.consume fun e => !inWindow (n - 1) e.block else s.ring) = ring
  have b := State.atBoundary s c ring n
  have mixes := ((h.table.closeWindows.fit.withClock c).withRing ring).completeDeferred n
  have limiters := (((h.limits.fit.kept (.closeWindows s)).withClock c).withRing ring).completeDeferred n
  exact limiters.mixBlock b mixes n (slotsInRange_assemble h.stage b.slots n)

theorem State.LimitSound.stoppingBoundary (h : s.LimitSound) (t : Time) (bySync : Bool) :
    (s.stoppingBoundary t bySync).LimitSound := by
  exact (((h.fit.kept (.closeWindows s)).withClock _).completeDeferred _).enterStopped

/-! ## Sync frames, audio frames, timers -/

theorem State.MixerSound.syncBoundary (h : s.MixerSound) (f : Format) (t : Time) (block : BlockNo) :
    (s.syncBoundary f t block).LimitSound := by
  unfold State.syncBoundary
  dsimp only
  split
  · exact h.limits.stoppingBoundary t true
  · split
    · exact h.mixingBoundary _ _ _
    · exact h.mixingBoundary _ _ _

theorem State.MixerSound.ownSync (h : s.MixerSound) (f : Format) (t : Time) (block : BlockNo) :
    (s.ownSync f t block).LimitSound := by
  unfold State.ownSync
  split
  case h_1 => exact h.mixingBoundary _ _ _
  case h_2 =>
    split
    · exact h.limits.kept (.of_eqs rfl rfl)
    · exact h.syncBoundary f t block
  case h_3 =>
    split
    · exact h.limits.kept (.of_eqs rfl rfl)
    · exact h.syncBoundary f t block
  case h_4 => exact h.limits
  case h_5 => exact h.limits

theorem State.MixerSound.takeSync (h : s.MixerSound) (t : Time) (id : StreamId) (block : BlockNo) :
    (s.takeSync t id block).LimitSound := by
  unfold State.takeSync
  split
  · exact h.limits.kept (.of_eqs rfl rfl)
  · split
    · exact h.limits.kept (.of_eqs rfl rfl)
    · split
      · exact h.ownSync _ t block
      · exact h.limits.kept (.of_eqs rfl rfl)

theorem LimitersKept.takeAudio (s : State) (f : List Byte) : LimitersKept s (s.takeAudio f) := by
  unfold State.takeAudio
  dsimp only
  repeat' split
  case h_2.isFalse.isFalse.isFalse =>
    unfold State.windowAndStore
    dsimp only
    repeat' split
    all_goals exact .of_eqs rfl rfl
  all_goals exact .of_eqs rfl rfl

theorem State.MixerSound.stageFrame (h : s.MixerSound) (t : Time) (f : List Byte) : (s.stageFrame t f).LimitSound := by
  unfold State.stageFrame
  split
  · exact h.limits.kept (.of_eqs rfl rfl)
  · split
    · exact h.limits.kept (.takeAudio s f)
    · split
      · split
        · exact h.takeSync _ _ _
        · exact h.limits.kept (.of_eqs rfl rfl)
      · exact h.limits.kept (.of_eqs rfl rfl)

theorem State.MixerSound.timerExpiry (h : s.MixerSound) (e : EngineState) : (s.timerExpiry e).LimitSound := by
  unfold State.timerExpiry
  split
  · split
    · unfold State.expire
      split
      · exact h.limits.stoppingBoundary _ false
      · exact h.mixingBoundary _ _ _
    · exact h.limits
  · exact h.limits

/-! ## Every command -/

theorem exec_keeps_limiters {c : Instr} {t : State} (h : s.MixerSound) (run : exec c s = .next t) : t.LimitSound := by
  cases kind : kindOf c with
  | some k => exact h.limits.request h.table kind run
  | none =>
    cases c
    case powerOn =>
      cases run
      exact State.LimitSound.kept (State.limitSound_iff.mpr resetIsSound.limiters) (.of_eqs rfl rfl)
    case linkByteReceived => exact h.limits.byte h.table run
    case interByteGapExpiry | transmitEnd => cases run; exact h.limits.withLink _
    case syncFrame | audioFrame | malformedStageFrame => cases run; exact h.stageFrame _ _
    case syncWatchExpiry | holdoverTimerExpiry => cases run; exact h.timerExpiry _
    case announceWindowClose heard => cases run; exact h.limits.kept (.closeAnnounce s heard)
    case grantedWindowClose heard => cases run; exact h.limits.kept (.closeGrantedWindow s heard)
    case upstreamSignalAfterIdle =>
      change execUpstreamSignalAfterIdle s = .next t at run
      unfold execUpstreamSignalAfterIdle at run
      cases run
      split
      · exact h.limits.kept (.withLine s _)
      · exact h.limits
    all_goals cases kind

/-- Settles O58: a step idles or carries out the command at the front, and every command keeps the limiters. -/
theorem stepKeepsLimiters : Obligations.StepKeepsLimiters := by
  unfold Obligations.StepKeepsLimiters
  intro s t sound run
  refine State.limitSound_iff.mp ?_
  have limits : s.LimitSound := State.limitSound_iff.mpr sound.limiters
  unfold step at run
  split at run
  · cases run; exact limits
  · rename_i rest _
    have stage : s.StageSound := State.stageSound_iff.mpr ⟨sound.streams, sound.ring, sound.slots⟩
    have table : s.MixTableSound := State.mixTableSound_iff.mpr ⟨sound.mixes, sound.atRest, sound.cues⟩
    have before : (s.withPending rest).MixerSound :=
      ⟨stage.kept (.of_eqs rfl rfl rfl rfl), table.kept (.of_eqs rfl rfl rfl rfl), limits.kept (.of_eqs rfl rfl)⟩
    exact exec_keeps_limiters before run

end Sys2Proof.Machine
end

section
/-! OPEN_CUE, TAKE_LIVE, STORE_CUE and CLOSE_CUE: their tests in order, the copy that they give or store, and the slot that
they leave. -/

namespace Sys2Proof.Machine

/-! ## A request that names a bank (R123, R127 to R129) -/

theorem withBank_badIndex {bank : Byte} (h : 4 ≤ bank.toNat) (f : Fin 4 → Owner) (s : State) :
    withBank bank f s = (s, .fail .badIndex) := by
  simp only [withBank, index?_of_ge h]

theorem withBank_named {bank : Byte} {b : Fin 4} (h : bank.toNat = b.val) (f : Fin 4 → Owner) (s : State) :
    withBank bank f s = f b s := by
  simp only [withBank, index?_of_lt h]

/-! ## OPEN_CUE (R123) -/

theorem openCue_badIndex {bank row : Byte} (h : 4 ≤ bank.toNat ∨ 8 ≤ row.toNat) (s : State) :
    openCue bank row s = (s, .fail .badIndex) := by
  unfold openCue
  rcases h with h | h
  · rw [index?_of_ge h]
  · rw [index?_of_ge h]; cases index? 4 bank <;> rfl

theorem openCue_cueOpen {bank row : Byte} {b : Fin 4} {r : Fin 8} (hb : bank.toNat = b.val) (hr : row.toNat = r.val) {s : State}
    (opened : s.cues.slots.get b ≠ none) : openCue bank row s = (s, .fail .cueOpen) := by
  obtain ⟨w, slot⟩ := Option.ne_none_iff_exists'.mp opened
  simp only [openCue, index?_of_lt hb, index?_of_lt hr, slot]

/-- The cue slot that OPEN_CUE leaves: the stored scene or the defaults, not edited, with no apply. -/
def openedWork (scenes : Table (Option Scene) 32) (b : Fin 4) (r : Fin 8) : CueWork :=
  { applying := false, row := r, edited := false, copy := sceneOrDefault (scenes.get (sceneNumber b r)), last := none }

theorem openCue_closed {bank row : Byte} {b : Fin 4} {r : Fin 8} (hb : bank.toNat = b.val) (hr : row.toNat = r.val) {s : State}
    (closed : s.cues.slots.get b = none) :
    openCue bank row s = (s.withCues (s.cues.setSlot b (some (openedWork s.cues.scenes b r))), .done []) := by
  simp only [openCue, index?_of_lt hb, index?_of_lt hr, closed, openedWork]

/-! ## TAKE_LIVE (R127) -/

/-- Bit m of the mask field names mix m (R210). -/
theorem inMask_mixMask (m1 m2 : Byte) (i : Fin 16) : inMask (mixMask m1 m2) i = (nat16 m1 m2).testBit i.val := by
  simp only [inMask, mixMask, BitVec.getLsbD_ofNat, i.isLt, decide_true, Bool.true_and]

/-- The working copy after TAKE_LIVE. -/
def takenCopy (mixes : Table Mix 16) (m1 m2 : Byte) (copy : Scene) : Scene :=
  Table.tabulate fun i => if inMask (mixMask m1 m2) i then takenEntry (mixes.get i) else copy.get i

theorem takenCopy_get (mixes : Table Mix 16) (m1 m2 : Byte) (copy : Scene) (i : Fin 16) :
    (takenCopy mixes m1 m2 copy).get i =
      if (nat16 m1 m2).testBit i.val then takenEntry (mixes.get i) else copy.get i := by
  rw [takenCopy, Table.get_tabulate, inMask_mixMask]

theorem takeLive_named {bank : Byte} {b : Fin 4} (hb : bank.toNat = b.val) (m1 m2 : Byte) (s : State) :
    takeLive bank m1 m2 s = withOpenCue b (fun w s => (s.withCues (s.cues.setSlot b
      (some { w with copy := takenCopy s.mixes m1 m2 w.copy, edited := true })), .done [])) s :=
  withBank_named hb _ s

/-- Settles O34: OPEN_CUE by its indices and whether the slot is CLOSED, TAKE_LIVE by the slot. -/
theorem openAndTake : Obligations.OpenAndTake := by
  unfold Obligations.OpenAndTake
  intro s tag bank row m1 m2 admits
  have opens : ∀ {t a}, openCue bank row s = (t, a) → exec (.openCue tag [bank, row]) s = .next (t.answer 0x40 tag a) :=
    exec_answer rfl rfl rfl admits
  have takes : ∀ {t a}, takeLive bank m1 m2 s = (t, a) →
      exec (.takeLive tag [bank, m1, m2]) s = .next (t.answer 0x41 tag a) := exec_answer rfl rfl rfl admits
  refine ⟨fun bad => opens (openCue_badIndex bad s), fun bad => takes (withBank_badIndex bad _ s), fun b hb =>
    ⟨fun r hr => ⟨fun opened => opens (openCue_cueOpen hb hr opened), fun closed => ?_⟩, fun closed => ?_, fun w slot =>
      ⟨fun busy => ?_, fun idle => ?_⟩⟩⟩
  · exact ⟨sceneNumber b r, rfl, opens (openCue_closed hb hr closed)⟩
  · exact takes ((takeLive_named hb m1 m2 s).trans (withOpenCue_closed closed))
  · exact takes ((takeLive_named hb m1 m2 s).trans (withOpenCue_busy slot busy))
  · exact ⟨takenCopy s.mixes m1 m2 w.copy, takes ((takeLive_named hb m1 m2 s).trans (withOpenCue_open slot idle)),
      takenCopy_get s.mixes m1 m2 w.copy⟩

/-! ## STORE_CUE and CLOSE_CUE (R128, R129) -/

theorem storeCue_named {bank : Byte} {b : Fin 4} (hb : bank.toNat = b.val) (s : State) :
    storeCue bank s = withOpenCue b (fun w s =>
      (s.withCues ((s.cues.writeBack b w).setSlot b (some { w with edited := false })), .done [])) s :=
  withBank_named hb _ s

theorem closeCue_badValue {bank writeback : Byte} {b : Fin 4} (hb : bank.toNat = b.val) (bad : 2 ≤ writeback.toNat) (s : State) :
    closeCue bank writeback s = (s, .fail .badValue) := by
  rw [closeCue, withBank_named hb, flag?_of_ge bad]

/-- CLOSE_CUE of an OPEN cue slot, and its report: whether the copy was written, and whether edits were discarded. -/
def closedCue (b : Fin 4) (write : Bool) (w : CueWork) : Owner := fun s =>
  (s.withCues ((if write then s.cues.writeBack b w else s.cues).setSlot b none),
    .done (yesNo write ++ yesNo (!write && w.edited)))

theorem closedCue_written (b : Fin 4) (w : CueWork) (s : State) :
    closedCue b true w s = (s.withCues ((s.cues.writeBack b w).setSlot b none), .done [1, 0]) := rfl

theorem closedCue_unwritten (b : Fin 4) (w : CueWork) (s : State) :
    closedCue b false w s = (s.withCues (s.cues.setSlot b none), .done [0, if w.edited then 1 else 0]) := by
  rw [closedCue]
  cases w.edited <;> rfl

theorem closeCue_good {bank writeback : Byte} {b : Fin 4} (hb : bank.toNat = b.val) (good : writeback.toNat ≤ 1) (s : State) :
    closeCue bank writeback s = withOpenCue b (closedCue b (decide (writeback = 1))) s := by
  rw [closeCue, withBank_named hb, flag?_of_le good]
  rfl

/-- Settles O35: the bank, the writeback value and the slot in this order, then the row that each writes. -/
theorem storeAndClose : Obligations.StoreAndClose := by
  unfold Obligations.StoreAndClose
  intro s tag bank writeback admits
  have stores : ∀ {t a}, storeCue bank s = (t, a) → exec (.storeCue tag [bank]) s = .next (t.answer 0x42 tag a) :=
    exec_answer rfl rfl rfl admits
  have closes : ∀ {t a}, closeCue bank writeback s = (t, a) →
      exec (.closeCue tag [bank, writeback]) s = .next (t.answer 0x43 tag a) := exec_answer rfl rfl rfl admits
  refine ⟨fun bad => ⟨stores (withBank_badIndex bad _ s), closes (withBank_badIndex bad _ s)⟩, fun b hb =>
    ⟨fun bad => closes (closeCue_badValue hb bad s), fun closed => ⟨?_, fun good => ?_⟩, fun w slot =>
      ⟨fun busy => ⟨?_, fun good => ?_⟩, fun idle => ⟨sceneNumber b w.row, rfl, ?_, ?_, ?_⟩⟩⟩⟩
  · exact stores ((storeCue_named hb s).trans (withOpenCue_closed closed))
  · exact closes ((closeCue_good hb good s).trans (withOpenCue_closed closed))
  · exact stores ((storeCue_named hb s).trans (withOpenCue_busy slot busy))
  · exact closes ((closeCue_good hb good s).trans (withOpenCue_busy slot busy))
  · exact stores ((storeCue_named hb s).trans (withOpenCue_open slot idle))
  · rintro rfl
    exact closes ((closeCue_good hb (by decide) s).trans ((withOpenCue_open slot idle).trans (closedCue_written b w s)))
  · rintro rfl
    exact closes ((closeCue_good hb (by decide) s).trans ((withOpenCue_open slot idle).trans (closedCue_unwritten b w s)))

end Sys2Proof.Machine
end

section
/-! The control message of a downstream frame: which queued message is carried, and what becomes of the others (R147 to R149). -/

namespace Sys2Proof.Machine

variable {l : PackLine}

/-- A NORMAL message may be carried when its pack is PRESENT and not busy (R148). -/
theorem PackLine.eligible_normal {q : Queued} (normal : q.urgent = false) :
    l.eligible q = true ↔ (l.packs.get q.address).state = .present ∧ (l.packs.get q.address).busy = false := by
  simp [PackLine.eligible, normal]

/-- With an URGENT message queued, only the URGENT ones may be carried (R147). -/
theorem PackLine.mayCarry_of_urgent {q : Queued} (mem : q ∈ l.queue) (urgent : q.urgent = true) (x : Queued) :
    l.mayCarry x = x.urgent :=
  if_pos (List.any_eq_true.mpr ⟨q, mem, urgent⟩)

/-- Without one, the eligible ones may (R147). -/
theorem PackLine.mayCarry_of_normal (normal : ∀ x ∈ l.queue, x.urgent = false) (x : Queued) : l.mayCarry x = l.eligible x :=
  if_neg (by simpa using normal)

/-- An URGENT message may always be carried. -/
theorem PackLine.mayCarry_urgent {q : Queued} (mem : q ∈ l.queue) (urgent : q.urgent = true) : l.mayCarry q = true :=
  (PackLine.mayCarry_of_urgent mem urgent q).trans urgent

/-- A NORMAL message may be carried only where none is URGENT. -/
theorem PackLine.normal_of_mayCarry {q : Queued} (may : l.mayCarry q = true) (normal : q.urgent = false) :
    ∀ x ∈ l.queue, x.urgent = false := by
  intro x mem
  by_contra urgent
  rw [PackLine.mayCarry_of_urgent mem (by simpa using urgent)] at may
  exact absurd (normal.symm.trans may) nofun

/-- What is left of a queue when the messages of a list stay in it for one boundary more (R149). -/
def agedQueue (stay : List Queued) : List Queued :=
  (stay.map fun x => { x with age := x.age + 1 }).filter fun x => decide (x.age ≤ 256)

theorem age_le_of_mem_agedQueue {stay : List Queued} {q : Queued} (mem : q ∈ agedQueue stay) : q.age ≤ 256 :=
  of_decide_eq_true (List.mem_filter.mp mem).2

theorem agedQueue_length_le (stay : List Queued) : (agedQueue stay).length ≤ stay.length :=
  (List.length_filter_le _ _).trans_eq (List.length_map _)

theorem PackLine.afterCarriage_queue (l : PackLine) : l.afterCarriage.queue = agedQueue (l.queue.eraseP l.mayCarry) := rfl

/-- The carried message is the oldest of those that may be, and the others stay. -/
theorem PackLine.carried_eq_some {q : Queued} (h : l.carried = some q) :
    l.mayCarry q = true ∧ ∃ before after, l.queue = before ++ q :: after ∧ (∀ x ∈ before, l.mayCarry x = false)
      ∧ l.afterCarriage.queue = agedQueue (before ++ after) := by
  obtain ⟨may, before, after, split, none⟩ := List.find?_eq_some_iff_append.mp h
  have none : ∀ x ∈ before, l.mayCarry x = false := by simpa using none
  refine ⟨may, before, after, split, none, ?_⟩
  rw [PackLine.afterCarriage_queue, split, List.eraseP_append_right _ (by simpa using none), List.eraseP_cons_of_pos may]

/-- When no message may be carried, all stay. -/
theorem PackLine.carried_eq_none (h : l.carried = none) :
    (∀ x ∈ l.queue, l.mayCarry x = false) ∧ l.afterCarriage.queue = agedQueue l.queue := by
  have none : ∀ x ∈ l.queue, l.mayCarry x = false := by simpa [PackLine.carried] using h
  exact ⟨none, by rw [PackLine.afterCarriage_queue, List.eraseP_of_forall_not (by simpa using none)]⟩

/-- Settles O41: the oldest message that may be carried leaves the queue, the others age. -/
theorem messageCarriage : Obligations.MessageCarriage := by
  unfold Obligations.MessageCarriage
  intro l eligible
  have notEligible {x : Queued} (normal : x.urgent = false) (unfit : l.eligible x = false) : ¬ eligible x := fun fit =>
    absurd (unfit.symm.trans ((PackLine.eligible_normal normal).mpr fit)) nofun
  refine ⟨fun q carried => ?_, fun none => ?_, fun q => age_le_of_mem_agedQueue, rfl⟩
  · obtain ⟨may, before, after, split, younger, left⟩ := PackLine.carried_eq_some carried
    have mem : q ∈ l.queue := split ▸ List.mem_append_right _ List.mem_cons_self
    have older {x : Queued} (here : x ∈ before) : x ∈ l.queue := split ▸ List.mem_append_left _ here
    refine ⟨before, after, split, fun urgent x here => ?_, fun normal => ?_, left⟩
    · exact (PackLine.mayCarry_of_urgent mem urgent x).symm.trans (younger x here)
    · have all := PackLine.normal_of_mayCarry may normal
      have eq := PackLine.mayCarry_of_normal all
      refine ⟨all, (PackLine.eligible_normal normal).mp ((eq q).symm.trans may), fun x here => ?_⟩
      exact notEligible (all x (older here)) ((eq x).symm.trans (younger x here))
  · obtain ⟨none, left⟩ := PackLine.carried_eq_none none
    have all : ∀ x ∈ l.queue, x.urgent = false := fun x mem => by
      by_contra urgent
      exact absurd ((none x mem).symm.trans (PackLine.mayCarry_urgent mem (by simpa using urgent))) nofun
    refine ⟨fun x mem => ⟨all x mem, ?_⟩, left⟩
    exact notEligible (all x mem) ((PackLine.mayCarry_of_normal all x).symm.trans (none x mem))

end Sys2Proof.Machine
end

section
/-! The arbiter (R165), and the downstream frame that carries its grant (R143, R151, R152, R166, R167, R172). -/

namespace Sys2Proof.Machine

/-! ## Records found by their address -/

theorem Table.mem_where? {α : Type} {n : Nat} {t : Table α n} {p : α → Bool} {i : Fin n} :
    i ∈ t.where? p ↔ p (t.get i) = true := by
  simp [Table.where?]

/-- The record that is found satisfies the test, and no lower one does. -/
theorem Table.find?_eq_some_iff {α : Type} {n : Nat} {t : Table α n} {p : α → Bool} {i : Fin n} :
    t.find? p = some i ↔ p (t.get i) = true ∧ ∀ j, j < i → p (t.get j) = false := by
  refine ⟨fun found => ?_, fun ⟨here, below⟩ => Table.find?_eq_some here below⟩
  rw [Table.find?, Table.where?, List.head?_filter, List.find?_eq_some_iff_getElem] at found
  obtain ⟨here, k, bound, rfl, before⟩ := found
  refine ⟨here, fun j lower => ?_⟩
  have earlier := before j.val (by simpa [Fin.lt_def] using lower)
  simpa using earlier

theorem Table.find?_eq_none_iff {α : Type} {n : Nat} {t : Table α n} {p : α → Bool} :
    t.find? p = none ↔ ∀ i, p (t.get i) = false := by
  refine ⟨fun none i => ?_, Table.find?_eq_none⟩
  rw [← Option.not_isSome_iff_eq_none, Table.find?_isSome] at none
  simpa using fun here => none ⟨i, here⟩

/-! ## The candidates of the arbiter -/

/-- A record that is due a confirm (R172). -/
theorem Pack.due_iff {p : Pack} : p.due = true ↔
    p.state = .joining ∧ p.offerSent = true ∧ (p.attempts = 0 → 1 ≤ p.ticks) ∧ (p.attempts ≠ 0 → 8 ≤ p.ticks) := by
  by_cases first : p.attempts = 0 <;> simp [Pack.due, first, and_assoc]

variable {l : PackLine}

/-- The front PRESENT record of the urgent order. -/
theorem PackLine.nextUrgent_eq_some {before rest : List (Fin 24)} {a : Fin 24} (order : l.urgentOrder = before ++ a :: rest)
    (absent : ∀ x ∈ before, (l.packs.get x).state ≠ .present) (present : (l.packs.get a).state = .present) :
    l.nextUrgent = some a :=
  List.find?_eq_some_iff_append.mpr ⟨by simp [present], before, rest, order, by simpa using absent⟩

theorem PackLine.nextUrgent_mem {a : Fin 24} (h : l.nextUrgent = some a) :
    a ∈ l.urgentOrder ∧ (l.packs.get a).state = .present :=
  ⟨List.mem_of_find?_eq_some h, by simpa using List.find?_some h⟩

theorem PackLine.nextUrgent_eq_none : l.nextUrgent = none ↔ ∀ a ∈ l.urgentOrder, (l.packs.get a).state ≠ .present := by
  simp [PackLine.nextUrgent]

/-- The PRESENT records from the last round-robin address on. -/
def PackLine.presentAhead (l : PackLine) : Option (Fin 24) :=
  (l.packs.where? fun p => p.state == .present).find? fun a => decide (l.roundRobin ≤ a.val)

theorem PackLine.nextPresent_eq (l : PackLine) :
    l.nextPresent = l.presentAhead.or (l.packs.find? fun p => p.state == .present) := rfl

theorem PackLine.presentAhead_eq_some {a : Fin 24} (present : (l.packs.get a).state = .present) (ahead : l.roundRobin ≤ a.val)
    (first : ∀ a', (l.packs.get a').state = .present → l.roundRobin ≤ a'.val → a ≤ a') : l.presentAhead = some a := by
  rw [PackLine.presentAhead, Table.where?, List.find?_filter, List.find?_eq_some_iff_getElem]
  refine ⟨by simp [present, ahead], a.val, by simp, by simp, fun j lower => ?_⟩
  have behind : ¬ ((l.packs.get ⟨j, lower.trans a.isLt⟩).state = .present ∧ l.roundRobin ≤ j) := fun ⟨present', ahead'⟩ =>
    absurd (first _ present' ahead') (not_le_of_gt lower)
  simpa [imp_iff_not_or] using behind

theorem PackLine.presentAhead_eq_none (behind : ∀ a, (l.packs.get a).state = .present → a.val < l.roundRobin) :
    l.presentAhead = none := by
  rw [PackLine.presentAhead, List.find?_eq_none]
  intro a mem
  simpa using behind a (by simpa using Table.mem_where?.mp mem)

theorem PackLine.nextPresent_present {a : Fin 24} (h : l.nextPresent = some a) : (l.packs.get a).state = .present := by
  rw [PackLine.nextPresent_eq, Option.or_eq_some_iff] at h
  rcases h with ahead | ⟨_, lowest⟩
  · simpa using Table.mem_where?.mp (List.mem_of_find?_eq_some ahead)
  · simpa using (Table.find?_eq_some_iff.mp lowest).1

theorem PackLine.nextPresent_eq_none : l.nextPresent = none ↔ ∀ a, (l.packs.get a).state ≠ .present := by
  rw [PackLine.nextPresent_eq, Option.or_eq_none_iff, Table.find?_eq_none_iff]
  refine ⟨fun ⟨_, absent⟩ a => by simpa using absent a, fun absent => ⟨?_, fun a => by simpa using absent a⟩⟩
  exact PackLine.presentAhead_eq_none fun a present => absurd present (absent a)

/-- Round robin goes on to the first PRESENT record from the last address on. -/
theorem PackLine.nextPresent_ahead {a : Fin 24} (present : (l.packs.get a).state = .present) (ahead : l.roundRobin ≤ a.val)
    (first : ∀ a', (l.packs.get a').state = .present → l.roundRobin ≤ a'.val → a ≤ a') : l.nextPresent = some a := by
  rw [PackLine.nextPresent_eq, PackLine.presentAhead_eq_some present ahead first]; rfl

/-- Past the highest PRESENT record it goes round to the lowest. -/
theorem PackLine.nextPresent_wrapped {a : Fin 24} (behind : ∀ a', (l.packs.get a').state = .present → a'.val < l.roundRobin)
    (present : (l.packs.get a).state = .present) (lowest : ∀ a', (l.packs.get a').state = .present → a ≤ a') :
    l.nextPresent = some a := by
  rw [PackLine.nextPresent_eq, PackLine.presentAhead_eq_none behind, Option.none_or, Table.find?_eq_some_iff]
  refine ⟨by simpa using present, fun a' lower => ?_⟩
  simpa using fun present' => absurd (lowest a' present') (not_le_of_gt lower)

/-! ## The choice (R165) -/

/-- Every way the arbiter can end, with the class that it leaves. -/
inductive PackLine.Chooses (l : PackLine) : Grant × Bool → Prop
  | full (none : l.free = 0) : l.Chooses (.idle, l.lastUrgent)
  | confirm {a : Fin 24} (free : 1 ≤ l.free) (other : l.lastUrgent = false) (due : l.packs.find? Pack.due = some a) :
      l.Chooses (.confirm a, true)
  | urgent {a : Fin 24} (free : 1 ≤ l.free) (other : l.lastUrgent = false) (due : l.packs.find? Pack.due = none)
      (next : l.nextUrgent = some a) : l.Chooses (.poll a, true)
  | roundRobin {a : Fin 24} (free : 1 ≤ l.free)
      (turn : l.lastUrgent = true ∨ (l.packs.find? Pack.due = none ∧ l.nextUrgent = none)) (next : l.nextPresent = some a) :
      l.Chooses (.poll a, false)
  | idle (free : 1 ≤ l.free) (turn : l.lastUrgent = true ∨ (l.packs.find? Pack.due = none ∧ l.nextUrgent = none))
      (next : l.nextPresent = none) : l.Chooses (.idle, false)

theorem PackLine.chooses (l : PackLine) : l.Chooses l.choose := by
  unfold PackLine.choose
  split
  · exact .full ‹_›
  · have free : 1 ≤ l.free := by omega
    cases last : l.lastUrgent with
    | true =>
      cases next : l.nextPresent with
      | none => exact .idle free (.inl last) next
      | some a => exact .roundRobin free (.inl last) next
    | false =>
      cases due : l.packs.find? Pack.due with
      | some a => exact .confirm free last due
      | none =>
        cases urgent : l.nextUrgent with
        | some a => exact .urgent free last due urgent
        | none =>
          cases next : l.nextPresent with
          | none => exact .idle free (.inr ⟨due, urgent⟩) next
          | some a => exact .roundRobin free (.inr ⟨due, urgent⟩) next

/-- The ways exclude each other. -/
theorem PackLine.Chooses.eq_choose {c : Grant × Bool} (h : l.Chooses c) : l.choose = c := by
  unfold PackLine.choose
  cases h with
  | full none => exact if_pos none
  | confirm free other due => simp [show l.free ≠ 0 by omega, other, due]
  | urgent free other due next => simp [show l.free ≠ 0 by omega, other, due, next]
  | roundRobin free turn next => rcases turn with last | ⟨due, urgent⟩ <;> simp [show l.free ≠ 0 by omega, *]
  | idle free turn next => rcases turn with last | ⟨due, urgent⟩ <;> simp [show l.free ≠ 0 by omega, *]

/-- A CONFIRM goes to the lowest record that is due, a POLL to a PRESENT record. -/
theorem PackLine.choose_confirm {a : Fin 24} {u : Bool} (h : l.choose = (.confirm a, u)) :
    u = true ∧ l.lastUrgent = false ∧ l.packs.find? Pack.due = some a := by
  have chosen := l.chooses
  rw [h] at chosen
  cases chosen with
  | confirm _ other due => exact ⟨rfl, other, due⟩

theorem PackLine.choose_poll_present {a : Fin 24} {u : Bool} (h : l.choose = (.poll a, u)) : (l.packs.get a).state = .present := by
  have chosen := l.chooses
  rw [h] at chosen
  cases chosen with
  | urgent _ _ _ next => exact (PackLine.nextUrgent_mem next).2
  | roundRobin _ _ next => exact PackLine.nextPresent_present next

/-- A grant takes a free entry. -/
theorem PackLine.choose_free (h : l.choose.1 ≠ .idle) : 1 ≤ l.free := by
  generalize chosen : l.choose = c at h
  have way : l.Chooses c := chosen ▸ l.chooses
  cases way with
  | full => exact absurd rfl h
  | confirm free | urgent free | roundRobin free | idle free => exact free

/-! ## The frame (R152) -/

/-- The line before the arbiter chooses: messages carried and aged, ticks advanced. -/
def PackLine.ready (l : PackLine) : PackLine := { l.afterCarriage with packs := l.tickedPacks }

/-- The record with one grant more. -/
def Pack.granted (p : Pack) : Pack := { p with counters := { p.counters with grants := count32 p.counters.grants } }

theorem PackLine.granted_idle {u : Bool} (h : l.choose = (.idle, u)) : l.granted = { l with lastUrgent := u, window := none } := by
  rw [PackLine.granted, h]

theorem PackLine.granted_confirm {a : Fin 24} {u : Bool} (h : l.choose = (.confirm a, u)) :
    l.granted = { l with packs := l.packs.set a (l.packs.get a).granted, lastUrgent := u
                         window := some { confirm := true, address := a, freed := false } } := by
  rw [PackLine.granted, h]; rfl

theorem PackLine.granted_poll {a : Fin 24} {u : Bool} (h : l.choose = (.poll a, u)) :
    l.granted = { l with packs := l.packs.set a (l.packs.get a).granted, lastUrgent := u
                         roundRobin := if u then l.roundRobin else a.val + 1
                         window := some { confirm := false, address := a, freed := false } } := by
  rw [PackLine.granted, h]; rfl

theorem PackLine.granted_recovery (l : PackLine) : l.granted.recovery = l.recovery := by
  cases chosen : l.choose with
  | mk grant u =>
    cases grant with
    | idle => rw [PackLine.granted_idle chosen]
    | poll a => rw [PackLine.granted_poll chosen]
    | confirm a => rw [PackLine.granted_confirm chosen]

/-- A frame, with the announce flag that R143 gives. -/
theorem PackLine.sendFrame_eq (l : PackLine) (n : BlockNo) (blocks : List OutBlock) :
    l.sendFrame n blocks = { l.ready.granted with
      announceOpen := decide (n.toNat % 32 = 0 ∨ 0 < l.recovery), recovery := l.recovery - 1
      frame := some { block := n, grant := l.ready.choose.1, announce := decide (n.toNat % 32 = 0 ∨ 0 < l.recovery)
                      mixes := blocks, control := l.carried.map fun q => (q.address, q.message) } } := by
  have recovery : l.ready.granted.recovery = l.recovery := l.ready.granted_recovery
  have announces : l.ready.granted.announces n = decide (n.toNat % 32 = 0 ∨ 0 < l.recovery) := by
    rw [PackLine.announces, recovery, Bool.decide_or]; rfl
  unfold PackLine.sendFrame
  dsimp only
  rw [show ({ l.afterCarriage with packs := l.tickedPacks } : PackLine) = l.ready from rfl, announces, recovery]

/-- The address that an OFFER is carried to (R172). -/
theorem PackLine.carriesOfferTo_iff {a : Fin 24} (joining : (l.packs.get a).state = .joining) :
    l.carriesOfferTo a = true ↔
      ∃ q serial address, l.carried = some q ∧ q.address = a ∧ q.message = .offer serial address := by
  unfold PackLine.carriesOfferTo
  cases l.carried with
  | none => simp
  | some q =>
    obtain ⟨address, urgent, message, age⟩ := q
    cases message <;> simp [joining]

theorem PackLine.tickedPacks_get (l : PackLine) (a : Fin 24) : l.tickedPacks.get a = (l.packs.get a).ticked (l.carriesOfferTo a) :=
  Table.get_tabulate _ a

/-- Ticks since offer (R165, R172). -/
theorem Pack.ticked_other {p : Pack} (h : p.state ≠ .joining) (now : Bool) : p.ticked now = p := if_neg h

theorem Pack.ticked_now {p : Pack} (h : p.state = .joining) : p.ticked true = { p with offerSent := true, ticks := 0 } := by
  rw [Pack.ticked, if_pos h]; rfl

theorem Pack.ticked_later {p : Pack} (h : p.state = .joining) :
    p.ticked false = if p.offerSent then { p with ticks := min (p.ticks + 1) 255 } else p := by
  rw [Pack.ticked, if_pos h]; rfl

/-- Settles O42: the ways in which the arbiter ends, and the frame made of its choice. -/
theorem arbiterChoice : Obligations.ArbiterChoice := by
  unfold Obligations.ArbiterChoice
  refine ⟨fun l => ?_, fun l n blocks => ⟨l.tickedPacks, fun a => ?_, ?_⟩⟩
  · intro present due
    have isDue (a : Fin 24) : (l.packs.get a).due = true ↔ due a := Pack.due_iff
    have notDue (a : Fin 24) : (l.packs.get a).due = false ↔ ¬ due a := by rw [← isDue, Bool.not_eq_true]
    have noneDue : l.packs.find? Pack.due = none ↔ ∀ a, ¬ due a := by rw [Table.find?_eq_none_iff]; exact forall_congr' notDue
    have firstDue (a : Fin 24) : l.packs.find? Pack.due = some a ↔ due a ∧ ∀ a', a' < a → ¬ due a' := by
      rw [Table.find?_eq_some_iff, isDue]
      exact and_congr_right fun _ => forall₂_congr fun a' _ => notDue a'
    refine ⟨fun none => (PackLine.Chooses.full none).eq_choose, fun free last => ?_, fun free other a here below => ?_,
      fun free other none before a rest order absent here => ?_, fun free turn => ?_, fun a u chosen => ?_, fun a chosen => ?_,
      fun a u chosen => PackLine.choose_poll_present chosen, fun free idle => ?_⟩
    · cases next : l.nextPresent with
      | none => rw [(PackLine.Chooses.idle free (.inl last) next).eq_choose]
      | some a => rw [(PackLine.Chooses.roundRobin free (.inl last) next).eq_choose]
    · exact (PackLine.Chooses.confirm free other ((firstDue a).mpr ⟨here, below⟩)).eq_choose
    · exact (PackLine.Chooses.urgent free other (noneDue.mpr none) (PackLine.nextUrgent_eq_some order absent here)).eq_choose
    · have turn := turn.imp_right fun ⟨quiet, absent⟩ => And.intro (noneDue.mpr quiet) (PackLine.nextUrgent_eq_none.mpr absent)
      refine ⟨fun none => (PackLine.Chooses.idle free turn (PackLine.nextPresent_eq_none.mpr none)).eq_choose, fun a here =>
        ⟨fun ahead first => ?_, fun behind lowest => ?_⟩⟩
      · exact (PackLine.Chooses.roundRobin free turn (PackLine.nextPresent_ahead here ahead first)).eq_choose
      · exact (PackLine.Chooses.roundRobin free turn (PackLine.nextPresent_wrapped behind here lowest)).eq_choose
    · obtain ⟨urgent, other, first⟩ := PackLine.choose_confirm chosen
      obtain ⟨here, below⟩ := (firstDue a).mp first
      exact ⟨urgent, other, here, below⟩
    · have way := l.chooses
      rw [chosen] at way
      cases way with
      | urgent _ other none next => exact ⟨other, noneDue.mp none, (PackLine.nextUrgent_mem next).1⟩
    · generalize chosen : l.choose = c at idle
      have way : l.Chooses c := chosen ▸ l.chooses
      cases way with
      | full none => omega
      | idle _ _ next => exact PackLine.nextPresent_eq_none.mp next
      | confirm | urgent | roundRobin => cases idle
  · intro p offered
    rw [PackLine.tickedPacks_get]
    refine ⟨fun other => Pack.ticked_other other _, fun joining carries => ?_, fun joining later sent => ?_,
      fun joining later unsent => ?_⟩
    · rw [(PackLine.carriesOfferTo_iff joining).mpr carries]
      exact Pack.ticked_now joining
    all_goals
      have notNow : l.carriesOfferTo a = false := by
        rw [← Bool.not_eq_true, PackLine.carriesOfferTo_iff joining]; exact later
      rw [notNow, Pack.ticked_later joining]
    · exact if_pos sent
    · exact if_neg (by rw [unsent]; exact nofun)
  · intro ready g announce sent counted
    rw [PackLine.sendFrame_eq]
    have grant {u : Grant} (h : g.1 = u) : l.ready.choose = (u, g.2) := Prod.ext h rfl
    refine ⟨fun idle => ?_, fun a poll => ?_, fun a confirm => ?_⟩
    · rw [PackLine.granted_idle (grant idle)]; rfl
    · rw [PackLine.granted_poll (grant poll)]; rfl
    · rw [PackLine.granted_confirm (grant confirm)]; rfl

end Sys2Proof.Machine
end

section
/-! Presence at the close of a granted window (R163, R150), and the LOST notices that it raises (R180). -/

namespace Sys2Proof.Machine

/-! ## One record -/

theorem Pack.aged_other {p : Pack} (h : p.state ≠ .present) : p.aged = p := if_neg h

theorem Pack.aged_present {p : Pack} (present : p.state = .present) (heard : p.presence ≠ 64) :
    p.aged = { p with presence := p.presence - 1 } := by
  rw [Pack.aged, if_pos present, if_neg heard]

theorem Pack.aged_lost {p : Pack} (present : p.state = .present) (last : p.presence = 64) :
    p.aged = { p with state := .lost, presence := 63, counters := { p.counters with losses := count32 p.counters.losses } } := by
  rw [Pack.aged, if_pos present, if_pos last]

/-- Serial, mix, role and busy flag of a record stay. -/
theorem Pack.aged_named (p : Pack) :
    p.aged.serial = p.serial ∧ p.aged.mix = p.mix ∧ p.aged.role = p.role ∧ p.aged.busy = p.busy := by
  unfold Pack.aged
  repeat' split
  all_goals exact ⟨rfl, rfl, rfl, rfl⟩

/-! ## The line -/

/-- Whether the record of an address falls from 64 now (R163). -/
def PackLine.falls (l : PackLine) (a : Fin 24) : Bool := (l.packs.get a).state == .present && (l.packs.get a).presence == 64

theorem PackLine.falls_iff {l : PackLine} {a : Fin 24} :
    l.falls a = true ↔ (l.packs.get a).state = .present ∧ (l.packs.get a).presence = 64 := by
  simp [PackLine.falls]

theorem PackLine.losing_contains (l : PackLine) (a : Fin 24) : l.losing.contains a = l.falls a := by
  rw [Bool.eq_iff_iff, List.contains_iff_mem, PackLine.losing, Table.mem_where?]; rfl

/-- The line after the presence decrease: the records aged, the NORMAL messages of the lost discarded, the lost out of the urgent
order. -/
def PackLine.decreased (l : PackLine) : PackLine :=
  { l with
    packs := l.packs.map Pack.aged
    queue := l.queue.filter fun q => !(l.falls q.address && !q.urgent)
    queueDropped := addCount32 l.queueDropped (l.queue.filter fun q => l.falls q.address && !q.urgent).length
    urgentOrder := l.urgentOrder.filter fun a => !l.falls a }

theorem PackLine.decreased_get (l : PackLine) (a : Fin 24) : l.decreased.packs.get a = (l.packs.get a).aged := Table.get_map _ _ a

/-! ## The notices -/

/-- The LOST notice of an address (R180). -/
def State.lostNotice (s : State) (a : Fin 24) : Notice :=
  let p := s.line.packs.get a
  { event := .lost, subject := some (a.val + 1), block := s.clock.lastBlock
    info := .pack p.serial p.mix (some p.role) (some p.busy) none }

/-- Notices that stand in a queue each: all are raised, in some order (log 23). -/
theorem State.raiseQueues_singletons (s : State) {α : Type} (items : List α) (make : α → Notice)
    (noReport : ∀ x ∈ items, (make x).event ≠ .report) :
    ∃ order : List α, order.Perm items
      ∧ (s.raiseQueues (items.map fun x => [[make x]])).link = order.foldl (fun l x => l.pushNotice (make x)) s.link := by
  have alone : ReportsAlone (items.map fun x => [[make x]]) := by
    intro q mem r inside isReport
    obtain ⟨x, here, rfl⟩ := List.mem_map.mp mem
    obtain rfl := List.mem_singleton.mp inside
    exact absurd (by simpa [NoticeGroup.isReport] using isReport) (noReport x here)
  have raised := (interleave_inOrder _ _ s.draws alone rfl).perm
  have all : ((items.map fun x => [[make x]]).map List.flatten).flatten = items.map make := by
    rw [List.map_map, ← List.flatMap_def]
    exact List.flatMap_pure_eq_map make items
  rw [all] at raised
  obtain ⟨order, notices, perm⟩ := (congrFun₂ (List.eq_map_comp_perm make) _ items).mpr raised
  refine ⟨order, perm, ?_⟩
  rw [State.raiseQueues_link, show (interleave _ _ s.draws).1 = order.map make from notices, List.foldl_map]

/-- The presence decrease changes the line, and raises a LOST notice for each of the lost. -/
theorem State.decreasePresence_eq (s : State) : s.decreasePresence =
    if s.link.packNotices then
      (s.withLine s.line.decreased).raiseQueues (s.line.losing.map fun a => [[s.lostNotice a]])
    else s.withLine s.line.decreased := by
  have notice (a : Fin 24) : packNotice s .lost (addressNumber a) (packInfo ((s.line.packs.map Pack.aged).get a)
      (some ((s.line.packs.map Pack.aged).get a).busy)) = s.lostNotice a := by
    obtain ⟨serial, mix, role, busy⟩ := (s.line.packs.get a).aged_named
    rw [Table.get_map, packInfo, serial, mix, role, busy]; rfl
  unfold State.decreasePresence
  simp only [PackLine.discard, notice, PackLine.losing_contains]
  rfl

theorem State.decreasePresence_line (s : State) : s.decreasePresence.line = s.line.decreased := by
  rw [State.decreasePresence_eq]
  split
  · exact State.raiseQueues_line _ _
  · rfl

theorem State.decreasePresence_link (s : State) :
    ∃ lost : List (Fin 24), lost.Perm s.line.losing
      ∧ s.decreasePresence.link = if s.link.packNotices then lost.foldl (fun l a => l.pushNotice (s.lostNotice a)) s.link
          else s.link := by
  obtain ⟨lost, perm, link⟩ := State.raiseQueues_singletons (s.withLine s.line.decreased) s.line.losing s.lostNotice nofun
  refine ⟨lost, perm, ?_⟩
  rw [State.decreasePresence_eq]
  split
  · exact link
  · rfl

/-- Nothing but the line, the link and the count of choices changes. -/
theorem State.decreasePresence_frame (s : State) : s.decreasePresence =
    ((s.withLine s.decreasePresence.line).withLink s.decreasePresence.link).withDraws s.decreasePresence.draws := by
  rw [State.decreasePresence_eq]
  split
  · obtain ⟨notices, draws, raised⟩ := State.raiseQueues_eq (s.withLine s.line.decreased)
      (s.line.losing.map fun a => [[s.lostNotice a]])
    rw [raised]; rfl
  · rfl

/-- Settles O45. -/
theorem presenceDecrease : Obligations.PresenceDecrease := by
  unfold Obligations.PresenceDecrease
  intro s t losing
  have line : t.line = s.line.decreased := s.decreasePresence_line
  have falls (a : Fin 24) : s.line.falls a = true ↔ losing a := PackLine.falls_iff
  refine ⟨fun a => ?_, fun q => ?_, by rw [line]; rfl, by rw [line]; rfl, ?_, ?_, ?_⟩
  · intro p
    rw [line, PackLine.decreased_get]
    refine ⟨Pack.aged_other, Pack.aged_present, fun ⟨present, last⟩ => ⟨Pack.aged_lost present last, fun mem => ?_⟩⟩
    have stays := (List.mem_filter.mp mem).2
    rw [(falls a).mpr ⟨present, last⟩] at stays
    exact absurd stays nofun
  · rw [line]
    show q ∈ s.line.queue.filter _ ↔ _
    rw [List.mem_filter, ← falls, Bool.not_eq_true', Bool.and_eq_false_imp, Bool.not_eq_false', not_and, Bool.not_eq_false]
  · rw [line]; exact List.filter_sublist
  · exact s.decreasePresence_link
  · exact s.decreasePresence_frame

end Sys2Proof.Machine
end

section
/-! The close of a granted window (R160 to R163): what a POLL window hears, and a window whose record became FREE (R151). -/

namespace Sys2Proof.Machine

/-! ## Which windows close -/

theorem State.closeAnnounce_closed {s : State} (h : s.line.announceOpen = false) (heard : Option (List Byte)) :
    s.closeAnnounce heard = s := if_neg (by rw [h]; exact nofun)

theorem State.closeGrantedWindow_closed {s : State} (h : s.line.window = none) (heard : Option (List Byte)) :
    s.closeGrantedWindow heard = s := by
  rw [State.closeGrantedWindow, h]

theorem State.closeGrantedWindow_open {s : State} {w : GrantWindow} (h : s.line.window = some w) (heard : Option (List Byte)) :
    s.closeGrantedWindow heard = (s.closeAnnounce none).closeGranted w heard := by
  rw [State.closeGrantedWindow, h]

/-! ## What follows what was heard (R160) -/

/-- Presence falls, and the reservation is released. -/
def State.windowEnds (t : State) : State := t.decreasePresence.withLine { t.decreasePresence.line with window := none }

theorem State.closeGranted_freed {w : GrantWindow} (h : w.freed = true) (s : State) (heard : Option (List Byte)) :
    s.closeGranted w heard = s.windowEnds := by
  rw [State.closeGranted, if_pos h]; rfl

theorem State.closeGranted_confirm (s : State) (a : Fin 24) (heard : Option (List Byte)) :
    s.closeGranted { confirm := true, address := a, freed := false } heard = (s.closeConfirm a heard).windowEnds := rfl

theorem State.closeGranted_poll (s : State) (a : Fin 24) (heard : Option (List Byte)) :
    s.closeGranted { confirm := false, address := a, freed := false } heard = (s.closePoll a heard).windowEnds := rfl

/-! ## What a POLL window hears (R161, R162) -/

section
variable {s : State} {a : Fin 24} {signal : List Byte}

theorem State.closePoll_garbled (notNothing : ∀ f, upstreamMessage signal ≠ some (.nothing f))
    (notRequest : ∀ k v f, upstreamMessage signal ≠ some (.request k v f)) :
    s.closePoll a (some signal) = s.withLine (s.line.countSilent a).countUpstreamError := by
  cases heard : upstreamMessage signal with
  | none => simp only [State.closePoll, heard]
  | some message =>
    cases message with
    | nothing f => exact absurd heard (notNothing f)
    | request k v f => exact absurd heard (notRequest k v f)
    | hello | confirm => simp only [State.closePoll, heard]

theorem State.closePoll_nothing {flags : Byte} (h : upstreamMessage signal = some (.nothing flags)) :
    s.closePoll a (some signal) = s.withLine (s.line.takeFlags a flags) := by
  simp only [State.closePoll, h]

theorem State.closePoll_request {kind flags : Byte} {value : Int} (h : upstreamMessage signal = some (.request kind value flags)) :
    s.closePoll a (some signal) = (s.withLine (s.line.takeFlags a flags)).decideRequest a kind value (flags.getLsbD 2) := by
  simp only [State.closePoll, h]

end

/-- Settles O46: the window closes on what `State.closePoll` makes of what was heard. -/
theorem pollWindow : Obligations.PollWindow := by
  unfold Obligations.PollWindow
  refine ⟨?_, fun s w heard closed opened freed => ?_⟩
  · intro s a closed opened p ends silent answered order taken
    have close (heard : Option (List Byte)) : exec (.grantedWindowClose heard) s = .next (s.closePoll a heard).windowEnds := by
      refine congrArg Host.Outcome.next ?_
      rw [State.closeGrantedWindow_open opened, State.closeAnnounce_closed closed, State.closeGranted_poll]
    refine ⟨close none, fun signal => ⟨fun notNothing notRequest => ?_, fun flags heard => ?_, fun kind value flags heard => ?_⟩⟩
    · rw [close, State.closePoll_garbled notNothing notRequest]; rfl
    · rw [close, State.closePoll_nothing heard]; rfl
    · rw [close, State.closePoll_request heard]; rfl
  · refine congrArg Host.Outcome.next ?_
    rw [State.closeGrantedWindow_open opened, State.closeAnnounce_closed closed, State.closeGranted_freed freed]
    rfl

end Sys2Proof.Machine
end

section
/-! What makes a pack line sound (R145, R149, R151, R158, R163, R165, R168), by addresses: the relations themselves, and the
changes of a record that keep them. -/

namespace Sys2Proof.Machine

/-! ## The relations -/

/-- Whether a record owns a mix (R158). -/
def Pack.owns (m : Fin 16) (p : Pack) : Bool :=
  (p.state == .present || p.state == .lost) && p.role == .owner && p.mix == some m

theorem Pack.owns_iff {m : Fin 16} {p : Pack} :
    p.owns m = true ↔ (p.state = .present ∨ p.state = .lost) ∧ p.role = .owner ∧ p.mix = some m := by
  simp [Pack.owns, and_assoc]

/-- The pack table: ranges, distinct serials, and one owner to a mix. -/
structure PacksFit (t : Table Pack 24) : Prop where
  sound : ∀ a, (t.get a).Sound
  serials : ∀ a b, (t.get a).state ≠ .free → (t.get b).state ≠ .free → (t.get a).serial = (t.get b).serial → a = b
  owners : ∀ m a b, (t.get a).owns m = true → (t.get b).owns m = true → a = b

/-- The pack line but for the count of its entries and its window. -/
structure PackLine.Fit (l : PackLine) : Prop where
  packs : PacksFit l.packs
  ages : ∀ q ∈ l.queue, q.age ≤ 256
  distinct : l.urgentOrder.Nodup
  urgent : ∀ a ∈ l.urgentOrder, (l.packs.get a).state = .present
  roundRobin : l.roundRobin ≤ 24
  recovery : l.recovery ≤ 8
  collisionRun : l.collisionRun ≤ 15

/-- An open window is on a record of its kind, unless that became FREE (R151, R165, R172). -/
def PackLine.WindowFits (l : PackLine) : Prop :=
  ∀ w, l.window = some w → w.freed = false →
    (l.packs.get w.address).state = (if w.confirm then .joining else .present)
      ∧ (w.confirm = true → (l.packs.get w.address).offerSent = true)

/-- The relations of a pack line: the count of its entries, the reservation included, and the rest. -/
structure PackLine.Consistent (l : PackLine) : Prop where
  room : l.inUse ≤ 32
  fit : l.Fit
  window : l.WindowFits

/-- A test that at most one record of a table satisfies. -/
theorem Table.count_le_one_iff {α : Type} {n : Nat} (t : Table α n) (p : α → Bool) :
    t.count p ≤ 1 ↔ ∀ i j, p (t.get i) = true → p (t.get j) = true → i = j := by
  rw [Table.count_eq, ← List.toFinset_card_of_nodup ((List.nodup_finRange n).filter _), Finset.card_le_one]
  simp only [List.mem_toFinset, List.mem_filter, List.mem_finRange, true_and]
  exact ⟨fun h i j hi hj => h i hi j hj, fun h i hi j hj => h i j hi hj⟩

theorem packsFit_iff (t : Table Pack 24) : PacksFit t ↔
    (∀ p ∈ t.list, p.Sound) ∧ ((t.list.filter fun p => p.state != .free).map Pack.serial).Nodup
      ∧ ∀ m : Fin 16, (t.count fun p =>
          (p.state == .present || p.state == .lost) && p.role == .owner && p.mix == some m) ≤ 1 := by
  have serials : ((t.list.filter fun p => p.state != .free).map Pack.serial).Nodup ↔
      ∀ a b, (t.get a).state ≠ .free → (t.get b).state ≠ .free → (t.get a).serial = (t.get b).serial → a = b := by
    rw [Table.list_eq_map, List.filter_map, List.map_map, List.nodup_map_iff_inj_on ((List.nodup_finRange 24).filter _)]
    simp only [List.mem_filter, List.mem_finRange, true_and, Function.comp_apply, bne_iff_ne]
    exact ⟨fun h a b ha hb e => h a ha b hb e, fun h a ha b hb e => h a b ha hb e⟩
  have owners : (∀ m : Fin 16, t.count (Pack.owns m) ≤ 1) ↔
      ∀ m a b, (t.get a).owns m = true → (t.get b).owns m = true → a = b :=
    forall_congr' fun m => Table.count_le_one_iff t _
  rw [Table.forall_iff t Pack.Sound, serials]
  exact ⟨fun ⟨sound, distinct, unique⟩ => ⟨sound, distinct, owners.mpr unique⟩,
    fun ⟨sound, distinct, unique⟩ => ⟨sound, distinct, owners.mp unique⟩⟩

theorem PackLine.sound_iff {l : PackLine} : l.Sound ↔ l.Consistent := by
  constructor
  · rintro ⟨use, ages, packs, serials, owners, distinct, urgent, roundRobin, recovery, run, window⟩
    exact ⟨use, ⟨(packsFit_iff _).mpr ⟨packs, serials, owners⟩, ages, distinct, urgent, roundRobin, recovery, run⟩,
      fun w opened => window w (Option.mem_toList.mpr opened)⟩
  · rintro ⟨use, ⟨table, ages, distinct, urgent, roundRobin, recovery, run⟩, window⟩
    obtain ⟨packs, serials, owners⟩ := (packsFit_iff _).mp table
    exact ⟨use, ages, packs, serials, owners, distinct, urgent, roundRobin, recovery, run,
      fun w opened => window w (Option.mem_toList.mp opened)⟩

/-! ## One record, by its state -/

theorem Pack.freeWith_sound (c : PackCounters) : (Pack.freeWith c).Sound := ⟨fun _ => rfl, nofun, nofun, nofun, fun _ => rfl⟩

theorem Pack.sound_of_present {p : Pack} (state : p.state = .present) (low : 64 ≤ p.presence) (high : p.presence ≤ 127)
    (role : p.mix = none → p.role = .listener) : p.Sound := by
  refine ⟨?_, ?_, fun _ => ⟨low, high⟩, ?_, role⟩
  all_goals exact fun other => absurd (state.symm.trans other) nofun

theorem Pack.sound_of_lost {p : Pack} (state : p.state = .lost) (presence : p.presence = 63)
    (role : p.mix = none → p.role = .listener) : p.Sound := by
  refine ⟨?_, ?_, ?_, fun _ => presence, role⟩
  all_goals exact fun other => absurd (state.symm.trans other) nofun

/-- A JOINING record is one fresh from its HELLO, but for what its OFFER and its confirms have done (R169, R172, R173). -/
theorem Pack.sound_of_joining {p : Pack} (state : p.state = .joining) (mix : p.mix = none) (role : p.role = .listener)
    (busy : p.busy = false) (presence : p.presence = 0) (attempts : p.attempts ≤ 3) (ticks : p.ticks ≤ 255)
    (first : p.offerSent = false → p.attempts = 0) : p.Sound := by
  refine ⟨?_, fun _ => ⟨mix, role, busy, presence, attempts, ticks, first⟩, ?_, ?_, fun _ => role⟩
  all_goals exact fun other => absurd (state.symm.trans other) nofun

theorem Pack.Sound.roles {p : Pack} (h : p.Sound) (none : p.mix = none) : p.role = .listener := by
  obtain ⟨_, _, _, _, roles⟩ := h
  exact roles none

/-! ## A record revised -/

/-- A record may be replaced by one that is sound too, keeps the serial unless it is FREE, and owns no mix that it did not own. -/
structure Pack.Revises (p p' : Pack) : Prop where
  sound : p.Sound → p'.Sound
  serial : p'.state ≠ .free → p.state ≠ .free ∧ p'.serial = p.serial
  owns : ∀ m, p'.owns m = true → p.owns m = true

theorem Pack.Revises.refl (p : Pack) : p.Revises p := ⟨id, fun used => ⟨used, rfl⟩, fun _ => id⟩

/-- State, serial, mix and role stand. -/
theorem Pack.Revises.of_named {p p' : Pack} (state : p'.state = p.state) (serial : p'.serial = p.serial) (mix : p'.mix = p.mix)
    (role : p'.role = p.role) (sound : p.Sound → p'.Sound) : p.Revises p' :=
  ⟨sound, fun used => ⟨state ▸ used, serial⟩, fun m => by rw [Pack.owns, Pack.owns, state, role, mix]; exact id⟩

theorem PacksFit.revised {t t' : Table Pack 24} (h : PacksFit t) (k : ∀ a, (t.get a).Revises (t'.get a)) : PacksFit t' := by
  refine ⟨fun a => (k a).sound (h.sound a), fun a b usedA usedB same => ?_, fun m a b ownsA ownsB => ?_⟩
  · obtain ⟨usedA, serialA⟩ := (k a).serial usedA
    obtain ⟨usedB, serialB⟩ := (k b).serial usedB
    exact h.serials a b usedA usedB (serialA.symm.trans (same.trans serialB))
  · exact h.owners m a b ((k a).owns m ownsA) ((k b).owns m ownsB)

theorem PacksFit.replace {t : Table Pack 24} (h : PacksFit t) {a : Fin 24} {p : Pack} (k : (t.get a).Revises p) :
    PacksFit (t.set a p) := by
  refine h.revised fun b => ?_
  rw [Table.get_set]
  split
  · rename_i here; rw [here]; exact k
  · exact .refl _

/-- Counters are not what a record is sound by. -/
theorem Pack.revises_counters (p : Pack) (c : PackCounters) : p.Revises { p with counters := c } := by
  refine .of_named rfl rfl rfl rfl fun ⟨free, joining, present, lost, role⟩ => ⟨fun state => ?_, joining, present, lost, role⟩
  rw [free state]; rfl

theorem Pack.revises_removed (p : Pack) (c : PackCounters) : p.Revises (Pack.freeWith c) :=
  ⟨fun _ => Pack.freeWith_sound c, fun used => absurd rfl used, nofun⟩

/-- Presence reloaded (R161, R170). -/
theorem Pack.revises_reloaded {p : Pack} (present : p.state = .present) (busy : Bool) (c : PackCounters) :
    p.Revises { p with presence := 127, busy := busy, counters := c } :=
  .of_named rfl rfl rfl rfl fun sound => Pack.sound_of_present present (by decide : 64 ≤ 127) (le_refl 127) sound.roles

/-- A LOST record is PRESENT again (R170). -/
theorem Pack.revises_rejoined {p : Pack} (lost : p.state = .lost) (c : PackCounters) :
    p.Revises { p with state := .present, presence := 127, busy := false, counters := c } := by
  refine ⟨fun sound => Pack.sound_of_present rfl (by decide : 64 ≤ 127) (le_refl 127) sound.roles, fun _ => ⟨?_, rfl⟩,
    fun m owns => ?_⟩
  · rw [lost]; exact nofun
  · obtain ⟨_, role, mix⟩ := Pack.owns_iff.mp owns
    exact Pack.owns_iff.mpr ⟨.inr lost, role, mix⟩

/-- A JOINING record is PRESENT after its CONFIRM (R173). -/
theorem Pack.revises_confirmed {p : Pack} (joining : p.state = .joining) (c : PackCounters) :
    p.Revises { Pack.freeWith c with state := .present, serial := p.serial, presence := 127 } := by
  refine ⟨fun _ => Pack.sound_of_present rfl (by decide : 64 ≤ 127) (le_refl 127) fun _ => rfl, fun _ => ⟨?_, rfl⟩,
    fun m owns => ?_⟩
  · rw [joining]; exact nofun
  · obtain ⟨_, _, mix⟩ := Pack.owns_iff.mp owns
    cases mix

/-- A failed attempt, with attempts left (R173). -/
theorem Pack.revises_attempt {p : Pack} (joining : p.state = .joining) (sent : p.offerSent = true) (left : p.attempts + 1 < 4) :
    p.Revises { p with attempts := p.attempts + 1, ticks := 0 } := by
  refine .of_named rfl rfl rfl rfl fun ⟨_, fresh, _⟩ => ?_
  obtain ⟨mix, role, busy, presence, _⟩ := fresh joining
  exact Pack.sound_of_joining joining mix role busy presence (Nat.le_of_lt_succ left) (Nat.zero_le _)
    fun unsent => absurd (sent.symm.trans unsent) nofun

/-- An OFFER has been carried, or is taken for carried (R157, R172). -/
theorem Pack.revises_offered {p : Pack} (joining : p.state = .joining) : p.Revises { p with offerSent := true, ticks := 0 } := by
  refine .of_named rfl rfl rfl rfl fun ⟨_, fresh, _⟩ => ?_
  obtain ⟨mix, role, busy, presence, attempts, _⟩ := fresh joining
  exact Pack.sound_of_joining joining mix role busy presence attempts (Nat.zero_le _) nofun

theorem Pack.revises_ticked (p : Pack) (now : Bool) : p.Revises (p.ticked now) := by
  by_cases joining : p.state = .joining
  · cases now with
    | true => rw [Pack.ticked_now joining]; exact Pack.revises_offered joining
    | false =>
      rw [Pack.ticked_later joining]
      split
      · refine .of_named rfl rfl rfl rfl fun ⟨_, fresh, _⟩ => ?_
        obtain ⟨mix, role, busy, presence, attempts, _, first⟩ := fresh joining
        exact Pack.sound_of_joining joining mix role busy presence attempts (Nat.min_le_right _ 255) first
      · exact .refl p
  · rw [Pack.ticked_other joining]; exact .refl p

/-- Presence falls by one, and a record that falls from 64 is LOST (R163). -/
theorem Pack.revises_aged (p : Pack) : p.Revises p.aged := by
  by_cases present : p.state = .present
  · by_cases last : p.presence = 64
    · rw [Pack.aged_lost present last]
      refine ⟨fun sound => Pack.sound_of_lost rfl rfl sound.roles, fun _ => ⟨?_, rfl⟩, fun m owns => ?_⟩
      · rw [present]; exact nofun
      · obtain ⟨_, role, mix⟩ := Pack.owns_iff.mp owns
        exact Pack.owns_iff.mpr ⟨.inl present, role, mix⟩
    · rw [Pack.aged_present present last]
      refine .of_named rfl rfl rfl rfl fun ⟨_, _, range, _, role⟩ => ?_
      obtain ⟨low, high⟩ := range present
      exact Pack.sound_of_present present (by show 64 ≤ p.presence - 1; omega) (by show p.presence - 1 ≤ 127; omega) role
  · rw [Pack.aged_other present]; exact .refl p

/-! ## New serials and new owners -/

section
variable {t : Table Pack 24} {a : Fin 24}

/-- A record replaced by one whose serial and mix are no other record's. -/
theorem PacksFit.set (h : PacksFit t) {p : Pack} (sound : p.Sound)
    (serial : p.state ≠ .free → ∀ b, b ≠ a → (t.get b).state ≠ .free → (t.get b).serial ≠ p.serial)
    (owner : ∀ m, p.owns m = true → ∀ b, b ≠ a → (t.get b).owns m = false) : PacksFit (t.set a p) := by
  refine ⟨fun b => ?_, fun b c => ?_, fun m b c => ?_⟩
  · rw [Table.get_set]
    split
    · exact sound
    · exact h.sound b
  · rw [Table.get_set, Table.get_set]
    split
    · split
      · rename_i hb hc; intro _ _ _; rw [hb, hc]
      · rename_i hc; intro used used' same; exact absurd same.symm (serial used c hc used')
    · split
      · rename_i hb _; intro used' used same; exact absurd same (serial used b hb used')
      · exact h.serials b c
  · rw [Table.get_set, Table.get_set]
    split
    · split
      · rename_i hb hc; intro _ _; rw [hb, hc]
      · rename_i hc; intro owns owns'; exact absurd ((owner m owns c hc).symm.trans owns') nofun
    · split
      · rename_i hb _; intro owns' owns; exact absurd ((owner m owns b hb).symm.trans owns') nofun
      · exact h.owners m b c

/-- A HELLO from a serial that no record holds (R169). -/
theorem PacksFit.join (h : PacksFit t) {k : Serial} (fresh : ∀ b, (t.get b).state ≠ .free → (t.get b).serial ≠ k) :
    PacksFit (t.set a { Pack.freeWith PackCounters.zero with state := .joining, serial := k }) := by
  refine h.set ?_ (fun _ b _ used => fresh b used) nofun
  exact Pack.sound_of_joining rfl rfl rfl rfl rfl (Nat.zero_le _) (Nat.zero_le _) fun _ => rfl

/-- An assignment of a PRESENT or LOST record: as owner, of a mix that no other record owns (R153). -/
theorem PacksFit.assign (h : PacksFit t) (known : (t.get a).state = .present ∨ (t.get a).state = .lost) {mix : Option (Fin 16)}
    {role : Role} (listens : mix = none → role = .listener)
    (owner : role = .owner → ∀ m, mix = some m → ∀ b, b ≠ a → (t.get b).owns m = false) :
    PacksFit (t.set a { t.get a with mix := mix, role := role }) := by
  have used : (t.get a).state ≠ .free := by rcases known with state | state <;> rw [state] <;> exact nofun
  refine h.set ?_ (fun _ b other used' same => other (h.serials b a used' used same)) fun m owns b other => ?_
  · obtain ⟨_, _, present, lost, _⟩ := h.sound a
    rcases known with state | state
    · obtain ⟨low, high⟩ := present state
      exact Pack.sound_of_present state low high listens
    · exact Pack.sound_of_lost state (lost state) listens
  · obtain ⟨_, owned, mix⟩ := Pack.owns_iff.mp owns
    exact owner owned m mix b other

end

/-! ## The owner of a mix -/

theorem PackLine.ownerOf_eq_some {l : PackLine} (h : PacksFit l.packs) {m : Fin 16} {a : Fin 24} :
    l.ownerOf m = some a ↔ (l.packs.get a).owns m = true := by
  refine Table.find?_eq_some_iff.trans ⟨And.left, fun owns => ⟨owns, fun b lower => ?_⟩⟩
  by_contra owns'
  exact absurd (h.owners m b a ((Bool.not_eq_false _).mp owns') owns) (ne_of_lt lower)

theorem PackLine.ownedByOther_iff {l : PackLine} {m : Fin 16} {a : Fin 24} :
    l.ownedByOther m a = true ↔ ∃ b, b ≠ a ∧ (l.packs.get b).owns m = true := by
  rw [PackLine.ownedByOther, List.any_eq_true]
  refine exists_congr fun b => ?_
  rw [Table.mem_where?, bne_iff_ne, and_comm]
  rfl

end Sys2Proof.Machine
end

section
/-! ASSIGN_PACK, REMOVE_PACK and PACK_TEXT: their tests in order, and what becoming FREE does (R150, R151, R153 to R155). -/

namespace Sys2Proof.Machine

/-! ## Fields -/

theorem address?_of_none {b : Byte} (h : b = 0 ∨ 25 ≤ b.toNat) : address? b = none := by
  rcases h with rfl | high
  · rfl
  · exact address?_of_ge high

theorem assignMix?_of_index {b : Byte} {m : Fin 16} (h : b.toNat = m.val) : assignMix? b = some (some m) := by
  have notNone : b ≠ 0xFF := by rintro rfl; exact absurd h (Nat.ne_of_gt (m.isLt.trans (by decide)))
  rw [assignMix?, if_neg notNone, index?_of_lt h]; rfl

theorem assignMix?_none : assignMix? 0xFF = some none := rfl

theorem assignMix?_isSome {b : Byte} (h : b.toNat < 16 ∨ b = 0xFF) : ∃ m, assignMix? b = some m := by
  rcases h with low | rfl
  · exact ⟨_, assignMix?_of_index (m := ⟨b.toNat, low⟩) rfl⟩
  · exact ⟨_, assignMix?_none⟩

theorem assignMix?_of_ge {b : Byte} (high : 16 ≤ b.toNat) (notNone : b ≠ 0xFF) : assignMix? b = none := by
  rw [assignMix?, if_neg notNone, index?_of_ge high]; rfl

theorem eq_zero_or_one {b : Byte} (h : b.toNat ≤ 1) : b = 0 ∨ b = 1 :=
  (Nat.le_one_iff_eq_zero_or_eq_one.mp h).imp (fun zero => BitVec.eq_of_toNat_eq zero) fun one => BitVec.eq_of_toNat_eq one

theorem role?_of_le {b : Byte} (h : b.toNat ≤ 1) : role? b = some (if b = 0 then .owner else .listener) := by
  rcases eq_zero_or_one h with rfl | rfl <;> rfl

theorem roleCode_byte {b : Byte} (h : b.toNat ≤ 1) : be1 (roleCode (if b = 0 then .owner else .listener)) = [b] := by
  rcases eq_zero_or_one h with rfl | rfl <;> rfl

theorem role?_of_ge {b : Byte} (h : 2 ≤ b.toNat) : role? b = none := by rw [role?, flag?_of_ge h]; rfl

/-! ## Becoming FREE (R150, R151) -/

section
variable (l : PackLine) (a : Fin 24)

theorem PackLine.freePack_get (b : Fin 24) :
    (l.freePack a).packs.get b = if b = a then Pack.freeWith (l.packs.get a).counters else l.packs.get b :=
  Table.get_modify _ _ _ _

theorem PackLine.freePack_urgentOrder : (l.freePack a).urgentOrder = l.urgentOrder.filter (· != a) := rfl

theorem PackLine.freePack_window :
    (l.freePack a).window = l.window.map fun w => if w.address = a then { w with freed := true } else w := rfl

end

/-! ## ASSIGN_PACK (R153) -/

theorem not_unknown {x : PackState} (known : x = .present ∨ x = .lost) : ¬ (x ≠ .present ∧ x ≠ .lost) := by
  rwa [not_and_or, not_not, not_not]

/-- Under the relations of the table, another record owns the mix when its owner is another record. -/
theorem PackLine.ownedByOther_iff_ownerOf {l : PackLine} (h : PacksFit l.packs) {m : Fin 16} {a : Fin 24} :
    l.ownedByOther m a = true ↔ ∃ b, b ≠ a ∧ l.ownerOf m = some b := by
  rw [PackLine.ownedByOther_iff]
  exact exists_congr fun b => and_congr_right fun _ => (PackLine.ownerOf_eq_some h).symm

section
variable {s : State} {address mix role : Byte} {a : Fin 24} {m : Option (Fin 16)} {r : Role}

theorem assignPack_badIndex (h : address? address = none ∨ assignMix? mix = none) :
    assignPack address mix role s = (s, .fail .badIndex) := by
  rcases h with none | none
  · simp only [assignPack, none]
  · cases named : address? address <;> simp only [assignPack, none, named]

variable (ha : address? address = some a) (hm : assignMix? mix = some m)
include ha hm

theorem assignPack_badRole (hr : role? role = none) : assignPack address mix role s = (s, .fail .badValue) := by
  simp only [assignPack, ha, hm, hr]

variable (hr : role? role = some r)
include hr

theorem assignPack_unknown (unknown : ¬ ((s.line.packs.get a).state = .present ∨ (s.line.packs.get a).state = .lost)) :
    assignPack address mix role s = (s, .fail .packUnknown) := by
  simp only [assignPack, ha, hm, hr, if_pos (not_or.mp unknown)]

variable (known : (s.line.packs.get a).state = .present ∨ (s.line.packs.get a).state = .lost)
include known

theorem assignPack_taken (owner : r = .owner) (taken : (m.any fun i => s.line.ownedByOther i a) = true) :
    assignPack address mix role s = (s, .fail .ownerTaken) := by
  simp only [assignPack, ha, hm, hr, if_neg (not_unknown known), if_pos (And.intro owner taken)]

variable (free : ¬ (r = .owner ∧ (m.any fun i => s.line.ownedByOther i a) = true))
include free

theorem assignPack_full (full : s.line.free = 0) : assignPack address mix role s = (s, .retry .packQueueFull) := by
  simp only [assignPack, ha, hm, hr, if_neg (not_unknown known), if_neg free, if_pos full]

/-- The line after an assignment, ASSIGNED or UNASSIGNED queued (R153). -/
def PackLine.assigned (l : PackLine) (a : Fin 24) (mix : Option (Fin 16)) (role : Role) (message : PackMessage) : PackLine :=
  { l with packs := l.packs.set a { l.packs.get a with mix := mix, role := role }
           queue := l.queue ++ [{ address := a, urgent := false, message := message, age := 0 }] }

theorem assignPack_mix (room : 1 ≤ s.line.free) {i : Fin 16} (h : m = some i) : assignPack address mix role s =
    (s.withLine (s.line.assigned a (some i) r (.assigned i r)),
     .done (be1 (addressNumber a) ++ mixByte (some i) ++ be1 (roleCode r))) := by
  subst h
  simp only [assignPack, ha, hm, hr, if_neg (not_unknown known), if_neg free, if_neg (show ¬ s.line.free = 0 by omega)]
  rfl

theorem assignPack_none (room : 1 ≤ s.line.free) (h : m = none) : assignPack address mix role s =
    (s.withLine (s.line.assigned a none .listener .unassigned),
     .done (be1 (addressNumber a) ++ mixByte none ++ be1 (roleCode .listener))) := by
  subst h
  simp only [assignPack, ha, hm, hr, if_neg (not_unknown known), if_neg free, if_neg (show ¬ s.line.free = 0 by omega)]
  rfl

end

/-! ## REMOVE_PACK and PACK_TEXT (R154, R155) -/

theorem packText_owner {text : List Byte} (short : text.length ≤ 31) (tag address c : Byte) :
    requestOwner (.packText tag (address :: c :: text)) = some (packText address (c :: text)) := if_pos short

/-- The characters of a text that R155 refuses. -/
theorem unprintable_iff {chars : List Byte} : (chars.any fun c => decide (c.toNat < 0x20 ∨ 0x7E < c.toNat)) = true ↔
    ¬ ∀ x ∈ chars, 0x20 ≤ x.toNat ∧ x.toNat ≤ 0x7E := by
  simp [imp_iff_not_or]

section
variable {s : State} {address : Byte} {a : Fin 24}

theorem removePack_badIndex (h : address? address = none) : removePack address s = (s, .fail .badIndex) := by
  simp only [removePack, h]

theorem packText_badIndex (h : address? address = none) (chars : List Byte) : packText address chars s = (s, .fail .badIndex) := by
  simp only [packText, h]

variable (ha : address? address = some a)
include ha

theorem removePack_unknown (unused : (s.line.packs.get a).state = .free) : removePack address s = (s, .fail .packUnknown) := by
  simp only [removePack, ha, if_pos unused]

section
variable (used : (s.line.packs.get a).state ≠ .free)
include used

theorem removePack_unsent (full : (s.line.freePack a).free = 0) : removePack address s =
    (s.withLine { s.line.freePack a with removedUnsent := count32 (s.line.freePack a).removedUnsent }, .done (yesNo false)) := by
  simp only [removePack, ha, if_neg used, if_pos full]

theorem removePack_queued (room : 1 ≤ (s.line.freePack a).free) : removePack address s =
    (s.withLine ((s.line.freePack a).enqueue a true .removed), .done (yesNo true)) := by
  simp only [removePack, ha, if_neg used, if_neg (show ¬ (s.line.freePack a).free = 0 by omega)]

end

variable {chars : List Byte}

theorem packText_badValue (bad : ¬ ∀ x ∈ chars, 0x20 ≤ x.toNat ∧ x.toNat ≤ 0x7E) :
    packText address chars s = (s, .fail .badValue) := by
  simp only [packText, ha, if_pos (unprintable_iff.mpr bad)]

variable (plain : ∀ x ∈ chars, 0x20 ≤ x.toNat ∧ x.toNat ≤ 0x7E)
include plain

theorem packText_unknown (unknown : ¬ ((s.line.packs.get a).state = .present ∨ (s.line.packs.get a).state = .lost)) :
    packText address chars s = (s, .fail .packUnknown) := by
  have test : (s.line.packs.get a).state = .free ∨ (s.line.packs.get a).state = .joining := by
    cases state : (s.line.packs.get a).state <;> simp_all
  simp only [packText, ha, if_neg (mt unprintable_iff.mp (not_not.mpr plain)), if_pos test]

variable (known : (s.line.packs.get a).state = .present ∨ (s.line.packs.get a).state = .lost)
include known

theorem packText_full (full : s.line.free = 0) : packText address chars s = (s, .retry .packQueueFull) := by
  have test : ¬ ((s.line.packs.get a).state = .free ∨ (s.line.packs.get a).state = .joining) := by
    rcases known with state | state <;> rw [state] <;> decide
  simp only [packText, ha, if_neg (mt unprintable_iff.mp (not_not.mpr plain)), if_neg test, if_pos full]

theorem packText_queued (room : 1 ≤ s.line.free) :
    packText address chars s = (s.withLine (s.line.enqueue a false (.text chars)), .done []) := by
  have test : ¬ ((s.line.packs.get a).state = .free ∨ (s.line.packs.get a).state = .joining) := by
    rcases known with state | state <;> rw [state] <;> decide
  simp only [packText, ha, if_neg (mt unprintable_iff.mp (not_not.mpr plain)), if_neg test,
    if_neg (show ¬ s.line.free = 0 by omega)]

end

/-! ## The statement -/

/-- Settles O40: the tests of each request in order, by the lemmas on its owner; and becoming FREE part by part. -/
theorem packRequestsAndRemoval : Obligations.PackRequestsAndRemoval := by
  unfold Obligations.PackRequestsAndRemoval
  refine ⟨fun s tag address admits => ⟨fun bad => ?_, fun a number => ?_⟩, fun l a => ?_⟩
  · have none := address?_of_none bad
    refine ⟨fun mix role => ?_, ?_, fun c text short => ?_⟩
    · exact exec_answer rfl rfl rfl admits (assignPack_badIndex (.inl none))
    · exact exec_answer rfl rfl rfl admits (removePack_badIndex none)
    · exact exec_answer rfl rfl (packText_owner short _ _ _) admits (packText_badIndex none _)
  · intro p known queued assigned
    have named : address? address = some a := address?_of_eq number
    have numbered : be1 (addressNumber a) = [address] := by rw [addressNumber, ← number, be1_toNat]
    refine ⟨fun mix role high notNone => ?_, fun mix role ok bad => ?_, fun mix role ok le unknown => ?_,
      fun known m mix role index le => ?_, fun known role le => ?_, fun unused => ?_, fun used => ?_, fun c text short => ?_⟩
    · exact exec_answer rfl rfl rfl admits (assignPack_badIndex (.inr (assignMix?_of_ge high notNone)))
    · obtain ⟨m, hm⟩ := assignMix?_isSome ok
      exact exec_answer rfl rfl rfl admits (assignPack_badRole named hm (role?_of_ge bad))
    · obtain ⟨m, hm⟩ := assignMix?_isSome ok
      exact exec_answer rfl rfl rfl admits (assignPack_unknown named hm (role?_of_le le) unknown)
    · intro taken r
      have hm := assignMix?_of_index index
      have hr := role?_of_le le
      have taken_iff (sound : s.line.Sound) : s.line.ownedByOther m a = true ↔ taken :=
        PackLine.ownedByOther_iff_ownerOf (PackLine.sound_iff.mp sound).fit.packs
      have free (may : role = 1 ∨ ¬ taken) (sound : s.line.Sound) :
          ¬ (r = .owner ∧ ((some m).any fun i => s.line.ownedByOther i a) = true) := by
        rintro ⟨owner, other⟩
        refine may.elim (fun listens => ?_) fun untaken => untaken ((taken_iff sound).mp other)
        have listener : r = .listener := if_neg (by rw [listens]; decide)
        exact absurd (owner.symm.trans listener) nofun
      refine ⟨fun owner other sound => ?_, fun may sound full => ?_, fun may sound room => ?_⟩
      · exact exec_answer rfl rfl rfl admits (assignPack_taken named hm hr known (if_pos owner) ((taken_iff sound).mpr other))
      · exact exec_answer rfl rfl rfl admits (assignPack_full named hm hr known (free may sound) full)
      · refine (exec_answer rfl rfl rfl admits (assignPack_mix named hm hr known (free may sound) room rfl)).trans ?_
        rw [numbered, mixByte, ← index, be1_toNat, roleCode_byte le]; rfl
    · have hm : assignMix? 0xFF = some none := rfl
      have hr := role?_of_le le
      have free : ¬ ((if role = 0 then Role.owner else Role.listener) = .owner ∧
          ((none : Option (Fin 16)).any fun i => s.line.ownedByOther i a) = true) := fun h => absurd h.2 nofun
      refine ⟨fun full => ?_, fun room => ?_⟩
      · exact exec_answer rfl rfl rfl admits (assignPack_full named hm hr known free full)
      · refine (exec_answer rfl rfl rfl admits (assignPack_none named hm hr known free room rfl)).trans ?_
        rw [numbered]; rfl
    · exact exec_answer rfl rfl rfl admits (removePack_unknown named unused)
    · intro l
      exact ⟨fun full => exec_answer rfl rfl rfl admits (removePack_unsent named used full),
        fun room => exec_answer rfl rfl rfl admits (removePack_queued named used room)⟩
    · intro plain command
      refine ⟨fun bad => ?_, fun plain unknown => ?_, fun plain known full => ?_, fun plain known room => ?_⟩
      · exact exec_answer rfl rfl (packText_owner short _ _ _) admits (packText_badValue named bad)
      · exact exec_answer rfl rfl (packText_owner short _ _ _) admits (packText_unknown named plain unknown)
      · exact exec_answer rfl rfl (packText_owner short _ _ _) admits (packText_full named plain known full)
      · exact exec_answer rfl rfl (packText_owner short _ _ _) admits (packText_queued named plain known room)
  · intro l'
    refine ⟨fun b other => ?_, ?_, rfl, rfl, ?_, ?_, fun w opened => ?_, rfl, rfl, rfl⟩
    · exact (l.freePack_get a b).trans (if_neg other)
    · exact (l.freePack_get a a).trans (if_pos rfl)
    · rw [PackLine.freePack_urgentOrder, List.mem_filter, bne_self_eq_false]; exact fun h => absurd h.2 nofun
    · rw [PackLine.freePack_window, Option.map_eq_none_iff]
    · rw [PackLine.freePack_window, opened]; rfl

end Sys2Proof.Machine
end

section
/-! What keeps a pack line consistent: each change of its records, its queue and its urgent order (R145 to R151). -/

namespace Sys2Proof.Machine

variable {l : PackLine}

/-! ## Entries -/

/-- A free entry is one below the capacity (R145). -/
theorem PackLine.free_pos : 1 ≤ l.free ↔ l.inUse ≤ 31 := by
  unfold PackLine.free; rw [show Config.packQueueCap = 32 from rfl]; omega

theorem PackLine.inUse_of_open (h : l.window.isSome = true) : l.inUse = l.queue.length + 1 := by
  rw [PackLine.inUse, if_pos h]

theorem PackLine.queue_le_inUse (l : PackLine) : l.queue.length ≤ l.inUse := Nat.le_add_right _ _

/-! ## Lines that differ in counters, in the announce window or in the frame -/

theorem PackLine.Fit.of_eqs (h : l.Fit) {l' : PackLine} (packs : l'.packs = l.packs) (queue : l'.queue = l.queue)
    (order : l'.urgentOrder = l.urgentOrder) (roundRobin : l'.roundRobin = l.roundRobin) (recovery : l'.recovery ≤ 8)
    (run : l'.collisionRun ≤ 15) : l'.Fit :=
  ⟨packs ▸ h.packs, queue ▸ h.ages, order ▸ h.distinct, by rw [order, packs]; exact h.urgent, roundRobin ▸ h.roundRobin, recovery,
   run⟩

theorem PackLine.Consistent.of_eqs (h : l.Consistent) {l' : PackLine} (packs : l'.packs = l.packs) (queue : l'.queue = l.queue)
    (order : l'.urgentOrder = l.urgentOrder) (roundRobin : l'.roundRobin = l.roundRobin) (window : l'.window = l.window)
    (recovery : l'.recovery ≤ 8) (run : l'.collisionRun ≤ 15) : l'.Consistent :=
  ⟨by rw [PackLine.inUse, queue, window]; exact h.room, h.fit.of_eqs packs queue order roundRobin recovery run,
   by rw [PackLine.WindowFits, window, packs]; exact h.window⟩

/-- A line that differs in nothing that the relations read. -/
theorem PackLine.Consistent.recounted (h : l.Consistent) {l' : PackLine} (packs : l'.packs = l.packs) (queue : l'.queue = l.queue)
    (order : l'.urgentOrder = l.urgentOrder) (roundRobin : l'.roundRobin = l.roundRobin) (window : l'.window = l.window)
    (recovery : l'.recovery = l.recovery) (run : l'.collisionRun = l.collisionRun) : l'.Consistent :=
  h.of_eqs packs queue order roundRobin window (recovery ▸ h.fit.recovery) (run ▸ h.fit.collisionRun)

/-! ## Records -/

/-- Records replaced: those that stand in the urgent order stay PRESENT. -/
theorem PackLine.Fit.withPacks (h : l.Fit) {t : Table Pack 24} (packs : PacksFit t)
    (present : ∀ a, (l.packs.get a).state = .present → (t.get a).state = .present) : ({ l with packs := t } : PackLine).Fit :=
  ⟨packs, h.ages, h.distinct, fun a mem => present a (h.urgent a mem), h.roundRobin, h.recovery, h.collisionRun⟩

/-- What a window that is open on a record asks of a new record: state and offer as they were, unless the old one was FREE or
LOST. -/
def Pack.HoldsWindow (p p' : Pack) : Prop :=
  p.state = .joining ∨ p.state = .present → p'.state = p.state ∧ p'.offerSent = p.offerSent

theorem Pack.holdsWindow_of_eqs {p p' : Pack} (state : p'.state = p.state) (sent : p'.offerSent = p.offerSent) :
    p.HoldsWindow p' := fun _ => ⟨state, sent⟩

theorem PackLine.Consistent.withPacks (h : l.Consistent) {t : Table Pack 24} (packs : PacksFit t)
    (holds : ∀ a, (l.packs.get a).HoldsWindow (t.get a)) : ({ l with packs := t } : PackLine).Consistent := by
  refine ⟨h.room, h.fit.withPacks packs fun a present => ?_, fun w opened unfreed => ?_⟩
  · exact (holds a (.inr present)).1.trans present
  · obtain ⟨state, sent⟩ := h.window w opened unfreed
    have granted : (l.packs.get w.address).state = .joining ∨ (l.packs.get w.address).state = .present := by
      rw [state]; exact (ite_eq_or_eq _ _ _)
    obtain ⟨sameState, sameSent⟩ := holds w.address granted
    exact ⟨sameState.trans state, fun confirm => sameSent.trans (sent confirm)⟩

/-- One record replaced. -/
theorem PackLine.Consistent.setPack (h : l.Consistent) {a : Fin 24} {p : Pack} (packs : PacksFit (l.packs.set a p))
    (holds : (l.packs.get a).HoldsWindow p) : ({ l with packs := l.packs.set a p } : PackLine).Consistent := by
  refine h.withPacks packs fun b => ?_
  rw [Table.get_set]
  split
  · rename_i here; rw [here]; exact holds
  · exact Pack.holdsWindow_of_eqs rfl rfl

/-- One record revised that keeps its state. -/
theorem PackLine.Fit.updatePack (h : l.Fit) {a : Fin 24} {f : Pack → Pack} (revises : (l.packs.get a).Revises (f (l.packs.get a)))
    (state : (f (l.packs.get a)).state = (l.packs.get a).state) : (l.updatePack a f).Fit := by
  refine h.withPacks (h.packs.replace revises) fun b present => ?_
  rw [Table.get_modify]
  split
  · rename_i here; rw [state, ← here]; exact present
  · exact present

/-! ## The urgent order -/

theorem PackLine.Fit.withOrder (h : l.Fit) {order : List (Fin 24)} (distinct : order.Nodup)
    (urgent : ∀ a ∈ order, (l.packs.get a).state = .present) : ({ l with urgentOrder := order } : PackLine).Fit :=
  ⟨h.packs, h.ages, distinct, urgent, h.roundRobin, h.recovery, h.collisionRun⟩

/-- Addresses leave the urgent order, and their records may change. -/
theorem PackLine.Fit.leaveOrder (h : l.Fit) {t : Table Pack 24} (packs : PacksFit t) {stays : Fin 24 → Bool}
    (present : ∀ a, stays a = true → (l.packs.get a).state = .present → (t.get a).state = .present) :
    ({ l with packs := t, urgentOrder := l.urgentOrder.filter stays } : PackLine).Fit := by
  refine ⟨packs, h.ages, h.distinct.filter _, fun a mem => ?_, h.roundRobin, h.recovery, h.collisionRun⟩
  obtain ⟨mem, stay⟩ := List.mem_filter.mp mem
  exact present a stay (h.urgent a mem)

/-- An address joins the urgent order at the back, once (R161). -/
theorem PackLine.Fit.joinOrder (h : l.Fit) {a : Fin 24} (present : (l.packs.get a).state = .present)
    (fresh : a ∉ l.urgentOrder) : ({ l with urgentOrder := l.urgentOrder ++ [a] } : PackLine).Fit := by
  refine h.withOrder (List.nodup_append.mpr ⟨h.distinct, List.nodup_singleton a, ?_⟩) fun b mem => ?_
  · intro b mem c here same
    rw [List.mem_singleton.mp here] at same
    exact fresh (same ▸ mem)
  · rcases List.mem_append.mp mem with mem | mem
    · exact h.urgent b mem
    · rw [List.mem_singleton.mp mem]; exact present

theorem PackLine.Consistent.filterOrder (h : l.Consistent) (stays : Fin 24 → Bool) :
    ({ l with urgentOrder := l.urgentOrder.filter stays } : PackLine).Consistent :=
  ⟨h.room, h.fit.leaveOrder h.fit.packs fun _ _ present => present, h.window⟩

/-! ## The queue -/

theorem PackLine.Fit.withQueue (h : l.Fit) {queue : List Queued} (ages : ∀ q ∈ queue, q.age ≤ 256) :
    ({ l with queue := queue } : PackLine).Fit :=
  ⟨h.packs, ages, h.distinct, h.urgent, h.roundRobin, h.recovery, h.collisionRun⟩

theorem PackLine.Fit.enqueue (h : l.Fit) (a : Fin 24) (urgent : Bool) (m : PackMessage) : (l.enqueue a urgent m).Fit := by
  refine h.withQueue fun q mem => ?_
  rcases List.mem_append.mp mem with mem | mem
  · exact h.ages q mem
  · rw [List.mem_singleton.mp mem]; exact Nat.zero_le _

theorem PackLine.enqueue_length (l : PackLine) (a : Fin 24) (urgent : Bool) (m : PackMessage) :
    (l.enqueue a urgent m).queue.length = l.queue.length + 1 := List.length_append

theorem PackLine.enqueue_inUse (l : PackLine) (a : Fin 24) (urgent : Bool) (m : PackMessage) :
    (l.enqueue a urgent m).inUse = l.inUse + 1 := by
  unfold PackLine.inUse
  rw [PackLine.enqueue_length]
  exact Nat.add_right_comm _ _ _

/-- A message is queued in a free entry (R146). -/
theorem PackLine.Consistent.enqueue (h : l.Consistent) (free : 1 ≤ l.free) (a : Fin 24) (urgent : Bool) (m : PackMessage) :
    (l.enqueue a urgent m).Consistent := by
  refine ⟨?_, h.fit.enqueue a urgent m, h.window⟩
  rw [PackLine.enqueue_inUse]
  exact Nat.succ_le_succ (PackLine.free_pos.mp free)

/-! ## Becoming FREE -/

theorem PackLine.Fit.freePack (h : l.Fit) (a : Fin 24) : (l.freePack a).Fit := by
  refine ⟨h.packs.replace (Pack.revises_removed _ _), fun q mem => h.ages q (List.mem_filter.mp mem).1, h.distinct.filter _,
    fun b mem => ?_, h.roundRobin, h.recovery, h.collisionRun⟩
  obtain ⟨mem, other⟩ := List.mem_filter.mp mem
  rw [PackLine.freePack_get, if_neg (by simpa using other)]
  exact h.urgent b mem

theorem PackLine.freePack_length_le (l : PackLine) (a : Fin 24) : (l.freePack a).queue.length ≤ l.queue.length :=
  List.length_filter_le _ _

/-- The window of a record that becomes FREE is marked; another stands on its record. -/
theorem PackLine.Consistent.freePack (h : l.Consistent) (a : Fin 24) : (l.freePack a).Consistent := by
  refine ⟨?_, h.fit.freePack a, fun w opened unfreed => ?_⟩
  · have shorter := l.freePack_length_le a
    have same : (l.freePack a).window.isSome = l.window.isSome := Option.isSome_map
    have before := h.room
    unfold PackLine.inUse at before ⊢
    rw [same]
    omega
  · rw [PackLine.freePack_window, Option.map_eq_some_iff] at opened
    obtain ⟨w', opened', marked⟩ := opened
    by_cases here : w'.address = a
    · rw [if_pos here] at marked
      rw [← marked] at unfreed
      cases unfreed
    · rw [if_neg here] at marked
      subst marked
      rw [PackLine.freePack_get, if_neg here]
      exact h.window w' opened' unfreed

end Sys2Proof.Machine
end

section
/-! The owners of the requests: which leave the pack line, and what the others do to it. -/

namespace Sys2Proof.Machine

/-! ## The line of a state -/

/-- An idle line: no window is open, and no frame stands on it (R156, R160). -/
structure PackLine.Idle (l : PackLine) : Prop where
  window : l.window = none
  announce : l.announceOpen = false
  frame : l.frame = none

/-- The part of a sound state that the pack line makes up. -/
structure State.LineConsistent (s : State) : Prop where
  line : s.line.Consistent
  idle : s.clock.mixing = false → s.line.Idle

theorem State.lineConsistent_iff {s : State} : s.LineConsistent ↔ s.LineSound := by
  rw [State.LineSound, PackLine.sound_iff]
  exact ⟨fun ⟨line, idle⟩ => ⟨line, fun rest => ⟨(idle rest).window, (idle rest).announce, (idle rest).frame⟩⟩,
    fun ⟨line, idle⟩ => ⟨line, fun rest => ⟨(idle rest).1, (idle rest).2.1, (idle rest).2.2⟩⟩⟩

/-- What leaves the line, and whether the engine mixes. -/
structure LineKept (s t : State) : Prop where
  line : t.line = s.line
  mixing : t.clock.mixing = s.clock.mixing

theorem LineKept.of_eqs {s t : State} (line : t.line = s.line) (clock : t.clock = s.clock) : LineKept s t := ⟨line, by rw [clock]⟩

theorem LineKept.refl (s : State) : LineKept s s := ⟨rfl, rfl⟩

theorem State.LineConsistent.kept {s t : State} (h : s.LineConsistent) (k : LineKept s t) : t.LineConsistent :=
  ⟨k.line ▸ h.line, fun rest => k.line ▸ h.idle (k.mixing ▸ rest)⟩

theorem State.LineConsistent.withLink {s : State} (h : s.LineConsistent) (l : Link) : (s.withLink l).LineConsistent :=
  h.kept (.of_eqs rfl rfl)

/-- A change of the line that opens no window and sends no frame. -/
structure PackLine.Edits (l l' : PackLine) : Prop where
  consistent : l.Consistent → l'.Consistent
  window : l.window = none → l'.window = none
  announce : l'.announceOpen = l.announceOpen
  frame : l'.frame = l.frame

theorem PackLine.Edits.idle {l l' : PackLine} (h : l.Edits l') (rest : l.Idle) : l'.Idle :=
  ⟨h.window rest.window, h.announce.trans rest.announce, h.frame.trans rest.frame⟩

theorem PackLine.Edits.refl (l : PackLine) : l.Edits l := ⟨id, id, rfl, rfl⟩

theorem PackLine.Edits.trans {l l' l'' : PackLine} (h : l.Edits l') (k : l'.Edits l'') : l.Edits l'' :=
  ⟨k.consistent ∘ h.consistent, k.window ∘ h.window, k.announce.trans h.announce, k.frame.trans h.frame⟩

theorem State.LineConsistent.edited {s t : State} (h : s.LineConsistent) (edits : s.line.Edits t.line)
    (mixing : t.clock.mixing = s.clock.mixing) : t.LineConsistent :=
  ⟨edits.consistent h.line, fun rest => edits.idle (h.idle (mixing ▸ rest))⟩

section
variable {l : PackLine}

theorem PackLine.edits_enqueue (free : 1 ≤ l.free) (a : Fin 24) (urgent : Bool) (m : PackMessage) :
    l.Edits (l.enqueue a urgent m) :=
  ⟨fun h => h.enqueue free a urgent m, id, rfl, rfl⟩

theorem PackLine.edits_freePack (a : Fin 24) : l.Edits (l.freePack a) :=
  ⟨fun h => h.freePack a, fun closed => by rw [PackLine.freePack_window, closed]; rfl, rfl, rfl⟩

/-- Counters alone (R209). -/
theorem PackLine.edits_counted {l' : PackLine} (packs : l'.packs = l.packs) (queue : l'.queue = l.queue)
    (order : l'.urgentOrder = l.urgentOrder) (roundRobin : l'.roundRobin = l.roundRobin) (window : l'.window = l.window)
    (recovery : l'.recovery = l.recovery) (run : l'.collisionRun = l.collisionRun) (announce : l'.announceOpen = l.announceOpen)
    (frame : l'.frame = l.frame) : l.Edits l' :=
  ⟨fun h => h.recounted packs queue order roundRobin window recovery run, fun closed => window.trans closed, announce, frame⟩

end

/-! ## Owners that leave the line -/

/-- An owner that leaves the pack line, and whether the engine mixes. -/
def Owner.LeavesLine (take : Owner) : Prop := ∀ s : State, LineKept s (take s).1

/-- An owner that keeps the pack line consistent. -/
def Owner.KeepsLine (take : Owner) : Prop := ∀ s : State, s.LineConsistent → (take s).1.LineConsistent

theorem Owner.LeavesLine.keeps {take : Owner} (h : take.LeavesLine) : take.KeepsLine := fun s consistent => consistent.kept (h s)

theorem leavesLine_bindStream (index a b c channels accept : Byte) : Owner.LeavesLine (bindStream index a b c channels accept) := by
  intro s
  unfold bindStream
  dsimp only
  repeat' split
  all_goals exact .of_eqs rfl rfl

theorem leavesLine_withBoundStream {index : Byte} {f : Fin 8 → Owner} (h : ∀ i, (f i).LeavesLine) :
    Owner.LeavesLine (withBoundStream index f) := by
  intro s
  unfold withBoundStream
  split
  · exact .refl s
  · split
    · exact h _ s
    · exact .refl s

theorem leavesLine_unbindStream (index : Byte) : Owner.LeavesLine (unbindStream index) :=
  leavesLine_withBoundStream fun i s => by dsimp only; split <;> exact .of_eqs rfl rfl

theorem leavesLine_flushStream (index : Byte) : Owner.LeavesLine (flushStream index) :=
  leavesLine_withBoundStream fun _ _ => .of_eqs rfl rfl

theorem leavesLine_setStream (index accept : Byte) : Owner.LeavesLine (setStream index accept) :=
  leavesLine_withBoundStream fun i s => by dsimp only; split <;> exact .of_eqs rfl rfl

theorem leavesLine_queryStream (index : Byte) : Owner.LeavesLine (queryStream index) := by
  intro s
  unfold queryStream
  split <;> exact .refl s

theorem leavesLine_bindSlot (slot stream channel polarity hold : Byte) :
    Owner.LeavesLine (bindSlot slot stream channel polarity hold) := by
  intro s
  unfold bindSlot
  repeat' split
  all_goals exact .of_eqs rfl rfl

theorem leavesLine_setSlot (slot polarity hold : Byte) : Owner.LeavesLine (setSlot slot polarity hold) := by
  intro s
  unfold setSlot
  repeat' split
  all_goals exact .of_eqs rfl rfl

theorem leavesLine_unbindSlot (slot : Byte) : Owner.LeavesLine (unbindSlot slot) := by
  intro s
  unfold unbindSlot
  repeat' split
  all_goals exact .of_eqs rfl rfl

theorem leavesLine_querySlot (slot : Byte) : Owner.LeavesLine (querySlot slot) := by
  intro s
  unfold querySlot
  split <;> exact .refl s

theorem leavesLine_noticeSet (cls setting : Byte) : Owner.LeavesLine (noticeSet cls setting) := by
  intro s
  unfold noticeSet
  split <;> exact .of_eqs rfl rfl

theorem leavesLine_mixSetLive (mix state kind master ceiling rel1 rel2 click : Byte) :
    Owner.LeavesLine (mixSetLive mix state kind master ceiling rel1 rel2 click) := by
  intro s
  unfold mixSetLive
  dsimp only
  repeat' split
  all_goals exact .of_eqs rfl rfl

theorem leavesLine_addSendLive (mix slot level balance self mute : Byte) :
    Owner.LeavesLine (addSendLive mix slot level balance self mute) := by
  intro s
  unfold addSendLive
  dsimp only
  repeat' split
  all_goals exact .of_eqs rfl rfl

theorem leavesLine_setSendLive (mix slot flags level balance self mute : Byte) :
    Owner.LeavesLine (setSendLive mix slot flags level balance self mute) := by
  intro s
  unfold setSendLive
  dsimp only
  repeat' split
  all_goals exact .of_eqs rfl rfl

theorem leavesLine_removeSendLive (mix slot : Byte) : Owner.LeavesLine (removeSendLive mix slot) := by
  intro s
  unfold removeSendLive
  dsimp only
  repeat' split
  all_goals exact .of_eqs rfl rfl

theorem leavesLine_queryMix (mix start : Byte) : Owner.LeavesLine (queryMix mix start) := by
  intro s
  unfold queryMix
  split <;> exact .refl s

theorem leavesLine_queryPack (address : Byte) : Owner.LeavesLine (queryPack address) := by
  intro s
  unfold queryPack
  repeat' split
  all_goals exact .refl s

theorem leavesLine_clickRequest (f : Click → Click) : Owner.LeavesLine (clickRequest f) := fun _ => .of_eqs rfl rfl

theorem leavesLine_meterSet (meters a b : Byte) : Owner.LeavesLine (meterSet meters a b) := by
  intro s
  unfold meterSet
  dsimp only
  repeat' split
  all_goals exact .of_eqs rfl rfl

/-! ## Owners of the Cue Controller -/

theorem leavesLine_withOpenCue {b : Fin 4} {f : CueWork → Owner} (h : ∀ w, (f w).LeavesLine) :
    Owner.LeavesLine (withOpenCue b f) := by
  intro s
  unfold withOpenCue
  split
  · exact .refl s
  · split
    · exact .refl s
    · exact h _ s

theorem leavesLine_withBank {bank : Byte} {f : Fin 4 → Owner} (h : ∀ b, (f b).LeavesLine) : Owner.LeavesLine (withBank bank f) := by
  intro s
  unfold withBank
  split
  · exact .refl s
  · exact h _ s

theorem leavesLine_editTarget {target bank : Byte} {live : Owner} {cue : Fin 4 → Owner} (hl : live.LeavesLine)
    (hc : ∀ b, (cue b).LeavesLine) : Owner.LeavesLine (editTarget target bank live cue) := by
  unfold editTarget
  split
  · exact hl
  · split
    · split
      · exact hc _
      · exact .refl
    · exact .refl

theorem leavesLine_mixSetCue (b : Fin 4) (mix state kind master ceiling rel1 rel2 : Byte) :
    Owner.LeavesLine (mixSetCue b mix state kind master ceiling rel1 rel2) := by
  intro s
  unfold mixSetCue
  split
  · exact .refl s
  · split
    · exact leavesLine_withOpenCue (fun _ _ => .of_eqs rfl rfl) s
    · exact .refl s

theorem leavesLine_addSendCue (b : Fin 4) (mix slot level balance self mute : Byte) :
    Owner.LeavesLine (addSendCue b mix slot level balance self mute) := by
  intro s
  unfold addSendCue
  split
  · split
    · refine leavesLine_withOpenCue (fun w s => ?_) s
      dsimp only
      repeat' split
      all_goals exact .of_eqs rfl rfl
    · exact .refl s
  · exact .refl s

theorem leavesLine_setSendCue (b : Fin 4) (mix slot flags level balance self mute : Byte) :
    Owner.LeavesLine (setSendCue b mix slot flags level balance self mute) := by
  intro s
  unfold setSendCue
  split
  · split
    · exact .refl s
    · refine leavesLine_withOpenCue (fun w s => ?_) s
      dsimp only
      split <;> exact .of_eqs rfl rfl
  · exact .refl s

theorem leavesLine_removeSendCue (b : Fin 4) (mix slot : Byte) : Owner.LeavesLine (removeSendCue b mix slot) := by
  intro s
  unfold removeSendCue
  split
  · refine leavesLine_withOpenCue (fun w s => ?_) s
    dsimp only
    split <;> exact .of_eqs rfl rfl
  · exact .refl s

theorem leavesLine_openCue (bank row : Byte) : Owner.LeavesLine (openCue bank row) := by
  intro s
  unfold openCue
  repeat' split
  all_goals exact .of_eqs rfl rfl

theorem leavesLine_takeLive (bank m1 m2 : Byte) : Owner.LeavesLine (takeLive bank m1 m2) :=
  leavesLine_withBank fun _ => leavesLine_withOpenCue fun _ _ => .of_eqs rfl rfl

theorem leavesLine_storeCue (bank : Byte) : Owner.LeavesLine (storeCue bank) :=
  leavesLine_withBank fun _ => leavesLine_withOpenCue fun _ _ => .of_eqs rfl rfl

theorem leavesLine_closeCue (bank writeback : Byte) : Owner.LeavesLine (closeCue bank writeback) := by
  refine leavesLine_withBank fun b => ?_
  dsimp only
  split
  · exact .refl
  · refine leavesLine_withOpenCue fun w s => ?_
    split <;> exact .of_eqs rfl rfl

theorem leavesLine_applyCueRequest (bank mode m1 m2 : Byte) : Owner.LeavesLine (applyCueRequest bank mode m1 m2) := by
  refine leavesLine_withBank fun b => ?_
  dsimp only
  split
  · exact .refl
  · refine leavesLine_withOpenCue fun w s => ?_
    split
    · exact .refl s
    · have frame := State.applyCue_frame s b w .cut (mixMask m1 m2) .immediate
      generalize s.applyCue b w .cut (mixMask m1 m2) .immediate = made at frame ⊢
      exact .of_eqs frame.line frame.clock

theorem leavesLine_queryCue (bank mix start : Byte) : Owner.LeavesLine (queryCue bank mix start) := by
  intro s
  unfold queryCue
  split <;> exact .refl s

theorem leavesLine_queryScene (scene mix start : Byte) : Owner.LeavesLine (queryScene scene mix start) := by
  intro s
  unfold queryScene
  split <;> exact .refl s

end Sys2Proof.Machine
end

section
/-! The owners that change the pack line, or the engine: SET_TRIM, the pack requests, QUERY_COUNTERS, RESET, FORMAT, START and STOP;
and with them every request row. -/

namespace Sys2Proof.Machine

/-! ## Messages of requests (R97, R153 to R155) -/

theorem PackLine.edits_offerTrims (l : PackLine) (m : Fin 16) (message : PackMessage) : l.Edits (l.offerTrims m message) := by
  unfold PackLine.offerTrims
  split
  · exact .refl l
  · split
    · exact .refl l
    · split
      · exact PackLine.edits_counted rfl rfl rfl rfl rfl rfl rfl rfl rfl
      · exact PackLine.edits_enqueue (by omega) _ _ _

theorem keepsLine_setTrim (mix volume self others dim : Byte) : Owner.KeepsLine (setTrim mix volume self others dim) := by
  intro s h
  unfold setTrim
  split
  · exact h
  · split
    · exact h
    · exact h.edited (s.line.edits_offerTrims _ _) rfl

/-- An assignment that R153 admits: as owner, of a mix that no other record owns. -/
theorem PackLine.edits_assigned {l : PackLine} {a : Fin 24} {mix : Option (Fin 16)} {role : Role}
    (known : (l.packs.get a).state = .present ∨ (l.packs.get a).state = .lost) (listens : mix = none → role = .listener)
    (free : ¬ (role = .owner ∧ (mix.any fun i => l.ownedByOther i a) = true)) (room : 1 ≤ l.free) (message : PackMessage) :
    l.Edits (l.assigned a mix role message) := by
  have unowned : role = .owner → ∀ m, mix = some m → ∀ b, b ≠ a → (l.packs.get b).owns m = false := by
    rintro owner m rfl b other
    by_contra owns
    exact free ⟨owner, PackLine.ownedByOther_iff.mpr ⟨b, other, (Bool.not_eq_false _).mp owns⟩⟩
  exact ⟨fun h => (h.setPack (h.fit.packs.assign known listens unowned) (Pack.holdsWindow_of_eqs rfl rfl)).enqueue room a false
    message, id, rfl, rfl⟩

theorem keepsLine_assignPack (address mix role : Byte) : Owner.KeepsLine (assignPack address mix role) := by
  intro s h
  cases ha : address? address with
  | none => rw [assignPack_badIndex (.inl ha)]; exact h
  | some a =>
    cases hm : assignMix? mix with
    | none => rw [assignPack_badIndex (.inr hm)]; exact h
    | some m =>
      cases hr : role? role with
      | none => rw [assignPack_badRole ha hm hr]; exact h
      | some r =>
        by_cases known : (s.line.packs.get a).state = .present ∨ (s.line.packs.get a).state = .lost
        · by_cases taken : r = .owner ∧ (m.any fun i => s.line.ownedByOther i a) = true
          · rw [assignPack_taken ha hm hr known taken.1 taken.2]; exact h
          · by_cases full : s.line.free = 0
            · rw [assignPack_full ha hm hr known taken full]; exact h
            · have room : 1 ≤ s.line.free := Nat.one_le_iff_ne_zero.mpr full
              cases mix' : m with
              | none =>
                rw [assignPack_none ha hm hr known taken room mix']
                exact h.edited (PackLine.edits_assigned known (fun _ => rfl) (fun owned => absurd owned.1 nofun) room _) rfl
              | some i =>
                rw [assignPack_mix ha hm hr known taken room mix']
                exact h.edited (PackLine.edits_assigned (mix := some i) known nofun (mix' ▸ taken) room _) rfl
        · rw [assignPack_unknown ha hm hr known]; exact h

theorem keepsLine_removePack (address : Byte) : Owner.KeepsLine (removePack address) := by
  intro s h
  cases ha : address? address with
  | none => rw [removePack_badIndex ha]; exact h
  | some a =>
    by_cases unused : (s.line.packs.get a).state = .free
    · rw [removePack_unknown ha unused]; exact h
    · have freed := PackLine.edits_freePack (l := s.line) a
      by_cases full : (s.line.freePack a).free = 0
      · rw [removePack_unsent ha unused full]
        exact h.edited (freed.trans (PackLine.edits_counted rfl rfl rfl rfl rfl rfl rfl rfl rfl)) rfl
      · have room : 1 ≤ (s.line.freePack a).free := Nat.one_le_iff_ne_zero.mpr full
        rw [removePack_queued ha unused room]
        exact h.edited (freed.trans (PackLine.edits_enqueue room _ _ _)) rfl

theorem keepsLine_packText (address : Byte) (chars : List Byte) : Owner.KeepsLine (packText address chars) := by
  intro s h
  unfold packText
  dsimp only
  repeat' split
  case h_2.isFalse.isFalse.isFalse full => exact h.edited (PackLine.edits_enqueue (Nat.one_le_iff_ne_zero.mpr full) _ _ _) rfl
  all_goals exact h

/-! ## QUERY_COUNTERS (R208) -/

theorem keepsLine_clearGroup {s : State} (h : s.LineConsistent) (g : Group) : (clearGroup s g).LineConsistent := by
  cases g with
  | link | stage | stream | slotMiss => exact h.kept (.of_eqs rfl rfl)
  | clock => exact h.kept ⟨rfl, rfl⟩
  | queue | line => exact h.edited (PackLine.edits_counted rfl rfl rfl rfl rfl rfl rfl rfl rfl) rfl
  | pack a =>
    refine h.edited ⟨fun consistent => ?_, id, rfl, rfl⟩ rfl
    exact consistent.setPack (consistent.fit.packs.replace (Pack.revises_counters _ _)) (Pack.holdsWindow_of_eqs rfl rfl)

theorem keepsLine_queryCounters (group index clear : Byte) : Owner.KeepsLine (queryCounters group index clear) := by
  intro s h
  unfold queryCounters
  repeat' split
  case h_4.isTrue => exact keepsLine_clearGroup h _
  all_goals exact h

/-! ## The engine (R17, R21 to R25) -/

/-- RESET takes the OFFERs for carried, and leaves queue and windows empty (R157, R184). -/
theorem PackLine.Consistent.softReset {l : PackLine} (h : l.Consistent) : l.softReset.Consistent := by
  have each (a : Fin 24) : l.softReset.packs.get a =
      if (l.packs.get a).state = .joining then { l.packs.get a with offerSent := true, ticks := 0 } else l.packs.get a :=
    Table.get_map _ _ a
  refine ⟨Nat.zero_le _, ⟨h.fit.packs.revised fun a => ?_, nofun, h.fit.distinct, fun a mem => ?_, h.fit.roundRobin, Nat.zero_le _,
    Nat.zero_le _⟩, nofun⟩
  · rw [each]
    split
    · exact Pack.revises_offered ‹_›
    · exact .refl _
  · rw [each]
    have present := h.fit.urgent a mem
    split
    · exact present
    · exact present

theorem keepsLine_resetPart : Owner.KeepsLine resetPart := fun _ h => ⟨h.line.softReset, fun _ => ⟨rfl, rfl, rfl⟩⟩

/-- Entry into STOPPED takes the frame off a line that has no window open (R25). -/
theorem State.enterStopped_line {s : State} (line : s.line.Consistent) (window : s.line.window = none)
    (announce : s.line.announceOpen = false) : s.enterStopped.LineConsistent :=
  ⟨line.recounted rfl rfl rfl rfl rfl rfl rfl, fun _ => ⟨window, announce, rfl⟩⟩

theorem keepsLine_setFormat (r1 r2 r3 r4 lag i1 i2 i3 : Byte) : Owner.KeepsLine (setFormat r1 r2 r3 r4 lag i1 i2 i3) := by
  intro s h
  unfold setFormat
  dsimp only
  repeat' split
  case isFalse.isFalse.isFalse engine _ =>
    have rest := h.idle (Clock.mixing_eq_false (fun runs => engine (by simp [runs])) fun holds => engine (by simp [holds]))
    exact State.enterStopped_line h.line rest.window rest.announce
  all_goals exact h

theorem keepsLine_startEngine : Owner.KeepsLine startEngine := by
  intro s h
  unfold startEngine
  split
  case h_2 engine =>
    have rest : s.clock.mixing = false := Clock.mixing_eq_false (by simp [engine]) (by simp [engine])
    exact h.kept ⟨rfl, rest.symm⟩
  all_goals exact h

theorem keepsLine_stopEngine : Owner.KeepsLine stopEngine := by
  intro s h
  unfold stopEngine
  split
  case h_3 engine =>
    have rest := h.idle (Clock.mixing_eq_false (by simp [engine]) (by simp [engine]))
    exact State.enterStopped_line h.line rest.window rest.announce
  all_goals exact h

/-! ## Every request row -/

theorem keepsLine_zeroField {o : Owner} {f : List Byte} {take : Owner} (keeps : o.KeepsLine) (h : zeroField o f = some take) :
    take.KeepsLine := by
  rw [zeroField_eq] at h
  refine withFields_all 1 (fun z => ?_) h
  show Owner.KeepsLine (if z = 0 then o else refuse .badValue)
  split
  · exact keeps
  · exact fun _ consistent => consistent

theorem keepsLine_packTextOwner {f : List Byte} {take : Owner} (h : packTextOwner f = some take) : take.KeepsLine := by
  rcases f with _ | ⟨address, _ | ⟨c, rest⟩⟩
  · cases h
  · cases h
  · simp only [packTextOwner, Option.ite_none_right_eq_some, Option.some.injEq] at h
    obtain ⟨_, rfl⟩ := h
    exact keepsLine_packText _ _

/-- The owner of every request row keeps the line consistent. -/
theorem requestOwner_keepsLine {i : Instr} {take : Owner} (h : requestOwner i = some take) : take.KeepsLine := by
  cases i with
  | ident | status => exact keepsLine_zeroField (fun _ consistent => consistent) h
  | reset => exact keepsLine_zeroField keepsLine_resetPart h
  | noticeSet => exact withFields_all 2 (fun a b => (leavesLine_noticeSet a b).keeps) h
  | format => exact withFields_all 8 keepsLine_setFormat h
  | start => exact keepsLine_zeroField keepsLine_startEngine h
  | stop => exact keepsLine_zeroField keepsLine_stopEngine h
  | bindStream => exact withFields_all 6 (fun a b c d e f => (leavesLine_bindStream a b c d e f).keeps) h
  | unbindStream => exact withFields_all 1 (fun a => (leavesLine_unbindStream a).keeps) h
  | flushStream => exact withFields_all 1 (fun a => (leavesLine_flushStream a).keeps) h
  | setStream => exact withFields_all 2 (fun a b => (leavesLine_setStream a b).keeps) h
  | queryStream => exact withFields_all 1 (fun a => (leavesLine_queryStream a).keeps) h
  | bindSlot => exact withFields_all 5 (fun a b c d e => (leavesLine_bindSlot a b c d e).keeps) h
  | setSlot => exact withFields_all 3 (fun a b c => (leavesLine_setSlot a b c).keeps) h
  | unbindSlot => exact withFields_all 1 (fun a => (leavesLine_unbindSlot a).keeps) h
  | querySlot => exact withFields_all 1 (fun a => (leavesLine_querySlot a).keeps) h
  | mixSetLive | mixSetCue =>
    exact withFields_all 10 (fun _ _ c d e f g h i j =>
      (leavesLine_editTarget (leavesLine_mixSetLive c d e f g h i j) fun k => leavesLine_mixSetCue k c d e f g h i).keeps) h
  | addSendLive | addSendCue =>
    exact withFields_all 8 (fun _ _ c d e f g h =>
      (leavesLine_editTarget (leavesLine_addSendLive c d e f g h) fun k => leavesLine_addSendCue k c d e f g h).keeps) h
  | setSendLive | setSendCue =>
    exact withFields_all 9 (fun _ _ c d e f g h i =>
      (leavesLine_editTarget (leavesLine_setSendLive c d e f g h i) fun k => leavesLine_setSendCue k c d e f g h i).keeps) h
  | removeSendLive | removeSendCue =>
    exact withFields_all 4 (fun _ _ c d =>
      (leavesLine_editTarget (leavesLine_removeSendLive c d) fun k => leavesLine_removeSendCue k c d).keeps) h
  | setTrim => exact withFields_all 5 keepsLine_setTrim h
  | queryMix => exact withFields_all 2 (fun a b => (leavesLine_queryMix a b).keeps) h
  | openCue => exact withFields_all 2 (fun a b => (leavesLine_openCue a b).keeps) h
  | takeLive => exact withFields_all 3 (fun a b c => (leavesLine_takeLive a b c).keeps) h
  | storeCue => exact withFields_all 1 (fun a => (leavesLine_storeCue a).keeps) h
  | closeCue => exact withFields_all 2 (fun a b => (leavesLine_closeCue a b).keeps) h
  | applyCue => exact withFields_all 4 (fun a b c d => (leavesLine_applyCueRequest a b c d).keeps) h
  | queryCue => exact withFields_all 3 (fun a b c => (leavesLine_queryCue a b c).keeps) h
  | queryScene => exact withFields_all 3 (fun a b c => (leavesLine_queryScene a b c).keeps) h
  | assignPack => exact withFields_all 3 keepsLine_assignPack h
  | removePack => exact withFields_all 1 keepsLine_removePack h
  | packText => exact keepsLine_packTextOwner h
  | queryPack => exact withFields_all 1 (fun a => (leavesLine_queryPack a).keeps) h
  | clickSet => exact withFields_all 6 (fun _ _ _ _ _ _ => (leavesLine_clickRequest _).keeps) h
  | clickStart | clickStop => exact keepsLine_zeroField (leavesLine_clickRequest _).keeps h
  | meterSet => exact withFields_all 3 (fun a b c => (leavesLine_meterSet a b c).keeps) h
  | queryCounters => exact withFields_all 3 keepsLine_queryCounters h
  | powerOn | linkByteReceived | interByteGapExpiry | unknownKindRequest | transmitEnd | syncFrame | audioFrame
  | malformedStageFrame | syncWatchExpiry | holdoverTimerExpiry | announceWindowClose | grantedWindowClose
  | upstreamSignalAfterIdle => cases h

end Sys2Proof.Machine
end

section
/-! The closes of the upstream windows keep the pack line consistent (R160 to R163, R168 to R173). -/

namespace Sys2Proof.Machine

theorem PackLine.updatePack_get (l : PackLine) (a b : Fin 24) (f : Pack → Pack) :
    (l.updatePack a f).packs.get b = if b = a then f (l.packs.get a) else l.packs.get b := Table.get_modify _ _ _ _

/-! ## The announce window (R168 to R171) -/

section
variable {s : State}

theorem State.refuseJoin_line (h : s.line.Consistent) (k : Serial) (r : JoinRefusal) : (s.refuseJoin k r).line.Consistent := by
  rw [State.refuseJoin, State.raisePack_line]
  exact h.recounted rfl rfl rfl rfl rfl rfl rfl

/-- A HELLO from an unknown serial takes the lowest FREE record (R169). -/
theorem State.helloUnknown_line (h : s.line.Consistent) {k : Serial}
    (fresh : ∀ a, (s.line.packs.get a).state ≠ .free → (s.line.packs.get a).serial ≠ k) : (s.helloUnknown k).line.Consistent := by
  unfold State.helloUnknown
  split
  · exact State.refuseJoin_line h _ _
  · rename_i a found
    split
    · exact State.refuseJoin_line h _ _
    · rename_i full
      have unused : (s.line.packs.get a).state = .free := by simpa using (Table.find?_eq_some_iff.mp found).1
      have joined := h.setPack (a := a) (h.fit.packs.join fresh) fun granted => by
        rw [unused] at granted
        exact granted.elim nofun nofun
      exact joined.enqueue (Nat.one_le_iff_ne_zero.mpr full) a true _

/-- A HELLO from a known serial: a PRESENT record is reloaded, a LOST one PRESENT again; each is offered its address (R170). -/
theorem State.helloKnown_line (h : s.line.Consistent) (k : Serial) (a : Fin 24) : (s.helloKnown k a).line.Consistent := by
  unfold State.helloKnown
  split
  · exact State.refuseJoin_line h _ _
  · rename_i full
    have room : 1 ≤ s.line.free := Nat.one_le_iff_ne_zero.mpr full
    split
    · rename_i present
      have reloaded := h.fit.packs.replace (Pack.revises_reloaded present (s.line.packs.get a).busy
        (s.line.packs.get a).counters)
      exact (h.setPack reloaded (Pack.holdsWindow_of_eqs rfl rfl)).enqueue room a true _
    · rename_i lost
      rw [State.raisePack_line]
      have rejoined := h.setPack (h.fit.packs.replace (Pack.revises_rejoined lost
        { (s.line.packs.get a).counters with rejoins := count32 (s.line.packs.get a).counters.rejoins })) fun granted => by
        rw [lost] at granted
        exact granted.elim nofun nofun
      exact (rejoined.filterOrder (· != a)).enqueue room a true _
    · exact h.enqueue room a true _

theorem State.hello_line (h : s.line.Consistent) (k : Serial) : (s.hello k).line.Consistent := by
  unfold State.hello
  split
  · exact State.helloKnown_line h k _
  · rename_i unknown
    refine State.helloUnknown_line h fun a used same => ?_
    have test := Table.find?_eq_none_iff.mp unknown a
    simp [used, same] at test

theorem State.collision_line (h : s.line.Consistent) : s.collision.line.Consistent := by
  unfold State.collision
  split
  · exact h.of_eqs rfl rfl rfl rfl rfl (le_refl 8) ‹_›
  · rw [State.raisePack_line]
    exact h.of_eqs rfl rfl rfl rfl rfl (Nat.zero_le 8) (Nat.zero_le 15)

theorem State.closeAnnounce_line (h : s.line.Consistent) (heard : Option (List Byte)) :
    (s.closeAnnounce heard).line.Consistent := by
  unfold State.closeAnnounce
  split
  · have closed : ({ s.line with announceOpen := false } : PackLine).Consistent := h.recounted rfl rfl rfl rfl rfl rfl rfl
    have ended : ({ s.line with announceOpen := false, collisionRun := 0 } : PackLine).Consistent :=
      h.of_eqs rfl rfl rfl rfl rfl h.fit.recovery (Nat.zero_le 15)
    dsimp only
    split
    · exact ended
    · split
      · exact State.hello_line (s := s.withLine { s.line with announceOpen := false, collisionRun := 0 }) ended _
      · exact State.collision_line (s := s.withLine { s.line with announceOpen := false }) closed
  · exact h

end

/-! ## The granted window: the message may take the reserved entry (R151) -/

/-- A line whose window closes: all but the window, and a queue within the capacity. -/
structure PackLine.Closing (l : PackLine) : Prop where
  fit : l.Fit
  length : l.queue.length ≤ 32

section
variable {l : PackLine} {a : Fin 24}

/-- A count in a record. -/
theorem PackLine.Fit.count (h : l.Fit) (a : Fin 24) (f : PackCounters → PackCounters) :
    (l.updatePack a (Pack.countIn · f)).Fit := h.updatePack (Pack.revises_counters _ _) rfl

theorem PackLine.Fit.requested (h : l.Fit) (a : Fin 24) (refused : Bool) : (l.requested a refused).Fit :=
  h.updatePack (f := fun p => p.requested refused) (Pack.revises_counters _ _) rfl

theorem PackLine.Fit.countUpstreamError (h : l.Fit) : l.countUpstreamError.Fit :=
  h.of_eqs rfl rfl rfl rfl h.recovery h.collisionRun

/-- NOTHING and REQUEST reload presence and set the flags (R161, R162). -/
theorem PackLine.Fit.takeFlags (h : l.Fit) (present : (l.packs.get a).state = .present) (flags : Byte) :
    (l.takeFlags a flags).Fit := by
  have reloaded := h.updatePack (a := a) (f := fun p =>
    { p with presence := 127, busy := flags.getLsbD 0, counters := { p.counters with answers := count32 p.counters.answers } })
    (Pack.revises_reloaded present _ _) rfl
  unfold PackLine.takeFlags
  dsimp only
  split
  · split
    · exact reloaded
    · rename_i fresh
      have fresh : a ∉ l.urgentOrder := by simpa using fresh
      refine reloaded.joinOrder ?_ fresh
      rw [PackLine.updatePack_get, if_pos rfl]
      exact present
  · exact reloaded.leaveOrder reloaded.packs fun _ _ present => present

end

section
variable {s : State} {a : Fin 24}

/-- A request queues at most one message (R175 to R179). -/
theorem State.decideRequest_closing (h : s.line.Fit) (room : s.line.queue.length ≤ 31) (kind : Byte) (value : Int) (more : Bool) :
    (s.decideRequest a kind value more).line.Closing := by
  have replied (refused urgent : Bool) (m : PackMessage) : ((s.line.requested a refused).enqueue a urgent m).Closing := by
    refine ⟨(h.requested a refused).enqueue a urgent m, ?_⟩
    rw [PackLine.enqueue_length]
    exact Nat.succ_le_succ room
  cases known : packRequest? kind with
  | none =>
    rw [State.decideRequest_unknown known]
    exact ⟨h.of_eqs rfl rfl rfl rfl h.recovery h.collisionRun, Nat.le_succ_of_le room⟩
  | some r =>
    cases mix : (s.line.packs.get a).mix with
    | none => rw [State.decideRequest_noMix known mix]; exact replied true false _
    | some i =>
      by_cases refused : (s.line.packs.get a).role = .listener ∧ r ≠ .queryTrims
      · rw [State.decideRequest_notOwner known mix refused.1 refused.2]; exact replied true false _
      · have may : (s.line.packs.get a).role = .owner ∨ r = .queryTrims := by
          cases role : (s.line.packs.get a).role with
          | owner => exact .inl rfl
          | listener => exact .inr (by_contra fun other => refused ⟨role, other⟩)
        rw [State.decideRequest_carriedOut known mix may]
        dsimp only
        rw [State.withLine_line]
        split
        · exact replied false _ _
        · exact ⟨h.requested a false, Nat.le_succ_of_le room⟩

theorem State.closePoll_closing (h : s.line.Fit) (present : (s.line.packs.get a).state = .present)
    (room : s.line.queue.length ≤ 31) (heard : Option (List Byte)) : (s.closePoll a heard).line.Closing := by
  have silent : (s.line.countSilent a).Fit := h.count a _
  unfold State.closePoll
  split
  · exact ⟨silent, Nat.le_succ_of_le room⟩
  · split
    · exact ⟨h.takeFlags present _, Nat.le_succ_of_le room⟩
    · exact State.decideRequest_closing (s := s.withLine (s.line.takeFlags a _)) (h.takeFlags present _) room _ _ _
    · exact ⟨silent.countUpstreamError, Nat.le_succ_of_le room⟩

/-- An attempt fails: the record waits for the next confirm, or becomes FREE (R173). -/
theorem State.confirmFailed_closing (h : s.line.Fit) (joining : (s.line.packs.get a).state = .joining)
    (sent : (s.line.packs.get a).offerSent = true) (length : s.line.queue.length ≤ 32) : (s.confirmFailed a).line.Closing := by
  unfold State.confirmFailed
  dsimp only
  split
  · rename_i left
    exact ⟨h.updatePack (f := fun p => { p with attempts := p.attempts + 1, ticks := 0 }) (Pack.revises_attempt joining sent left)
      rfl, length⟩
  · rw [State.raisePack_line]
    have freed := h.freePack a
    exact ⟨freed.of_eqs rfl rfl rfl rfl freed.recovery freed.collisionRun, (s.line.freePack_length_le a).trans length⟩

/-- The record joins (R173). -/
theorem State.confirmed_closing (h : s.line.Fit) (joining : (s.line.packs.get a).state = .joining)
    (length : s.line.queue.length ≤ 32) : (s.confirmed a).line.Closing := by
  unfold State.confirmed
  dsimp only
  rw [State.raisePack_line]
  have joined := h.leaveOrder (h.packs.replace (Pack.revises_confirmed joining
      { (s.line.packs.get a).counters with answers := count32 (s.line.packs.get a).counters.answers }))
    (stays := (· != a)) fun b other present => by rw [Table.get_set_ne _ _ (by simpa using other)]; exact present
  exact ⟨joined.of_eqs rfl rfl rfl rfl joined.recovery joined.collisionRun, length⟩

theorem State.closeConfirm_closing (h : s.line.Fit) (joining : (s.line.packs.get a).state = .joining)
    (sent : (s.line.packs.get a).offerSent = true) (length : s.line.queue.length ≤ 32) (heard : Option (List Byte)) :
    (s.closeConfirm a heard).line.Closing := by
  have silent : (s.line.countSilent a).Fit := h.count a _
  have record : (s.line.countSilent a).packs.get a =
      (s.line.packs.get a).countIn fun c => { c with silent := count32 c.silent } := by
    rw [PackLine.countSilent, PackLine.updatePack_get, if_pos rfl]
  have joining' : ((s.line.countSilent a).packs.get a).state = .joining := by rw [record]; exact joining
  have sent' : ((s.line.countSilent a).packs.get a).offerSent = true := by rw [record]; exact sent
  unfold State.closeConfirm
  split
  · exact State.confirmFailed_closing (s := s.withLine (s.line.countSilent a)) silent joining' sent' length
  · split
    · exact State.confirmed_closing h joining length
    · exact State.confirmFailed_closing (s := s.withLine (s.line.countSilent a).countUpstreamError) silent.countUpstreamError
        joining' sent' length

/-- The presence decrease takes the lost out of the urgent order (R163). -/
theorem PackLine.Closing.decreased {l : PackLine} (h : l.Closing) : l.decreased.Closing := by
  refine ⟨?_, (List.length_filter_le _ _).trans h.length⟩
  have packs : PacksFit (l.packs.map Pack.aged) := h.fit.packs.revised fun a => by rw [Table.get_map]; exact Pack.revises_aged _
  refine ⟨packs, fun q mem => h.fit.ages q (List.mem_filter.mp mem).1, h.fit.distinct.filter _, fun a mem => ?_, h.fit.roundRobin,
    h.fit.recovery, h.fit.collisionRun⟩
  obtain ⟨mem, stays⟩ := List.mem_filter.mp mem
  have present := h.fit.urgent a mem
  have heard : (l.packs.get a).presence ≠ 64 := fun last => by rw [PackLine.falls_iff.mpr ⟨present, last⟩] at stays; cases stays
  rw [PackLine.decreased_get, Pack.aged_present present heard]
  exact present

/-- Then the reservation is released. -/
theorem State.windowEnds_line (h : s.line.Closing) : s.windowEnds.line.Consistent := by
  have decreased := h.decreased
  rw [← State.decreasePresence_line] at decreased
  have fit := decreased.fit
  exact ⟨decreased.length, fit.of_eqs rfl rfl rfl rfl fit.recovery fit.collisionRun, nofun⟩

/-- An announce window that hears nothing leaves the granted one. -/
theorem State.closeAnnounce_none_window (s : State) : (s.closeAnnounce none).line.window = s.line.window := by
  unfold State.closeAnnounce
  split <;> rfl

/-- The close of a granted window that is open. -/
theorem State.closeGranted_line (h : s.line.Consistent) {w : GrantWindow} (opened : s.line.window = some w)
    (heard : Option (List Byte)) : (s.closeGranted w heard).line.Consistent := by
  have room : s.line.queue.length ≤ 31 := by
    have use := h.room
    rw [PackLine.inUse_of_open (by rw [opened]; rfl)] at use
    omega
  obtain ⟨confirm, a, freed⟩ := w
  cases freed with
  | true => rw [State.closeGranted_freed rfl]; exact State.windowEnds_line ⟨h.fit, Nat.le_succ_of_le room⟩
  | false =>
    obtain ⟨state, sent⟩ := h.window _ opened rfl
    cases confirm with
    | true =>
      rw [State.closeGranted_confirm]
      exact State.windowEnds_line (State.closeConfirm_closing h.fit state (sent rfl) (Nat.le_succ_of_le room) heard)
    | false =>
      rw [State.closeGranted_poll]
      exact State.windowEnds_line (State.closePoll_closing h.fit state room heard)

theorem State.closeGrantedWindow_line (h : s.line.Consistent) (heard : Option (List Byte)) :
    (s.closeGrantedWindow heard).line.Consistent := by
  cases opened : s.line.window with
  | none => rw [State.closeGrantedWindow_closed opened]; exact h
  | some w =>
    rw [State.closeGrantedWindow_open opened]
    exact State.closeGranted_line (State.closeAnnounce_line h none) (s.closeAnnounce_none_window.trans opened) heard

theorem State.closeWindows_line (h : s.line.Consistent) : s.closeWindows.line.Consistent :=
  State.closeGrantedWindow_line (State.closeAnnounce_line h none) none

end

end Sys2Proof.Machine
end

section
/-! Every step keeps the pack line: the downstream frame, boundaries, and every other command. -/

namespace Sys2Proof.Machine

/-! ## The downstream frame (R152) -/

section
variable {l : PackLine}

/-- Carriage and ticks keep the relations, and queue nothing. -/
theorem PackLine.ready_fit (h : l.Fit) : l.ready.Fit := by
  have state (a : Fin 24) (present : (l.packs.get a).state = .present) : (l.tickedPacks.get a).state = .present := by
    rw [PackLine.tickedPacks_get, Pack.ticked_other (by rw [present]; exact nofun)]; exact present
  have packs : PacksFit l.tickedPacks := h.packs.revised fun a => by rw [PackLine.tickedPacks_get]; exact Pack.revises_ticked _ _
  exact ⟨packs, fun q => age_le_of_mem_agedQueue, h.distinct, fun a mem => state a (h.urgent a mem), h.roundRobin, h.recovery,
    h.collisionRun⟩

theorem PackLine.ready_length_le (l : PackLine) : l.ready.queue.length ≤ l.queue.length :=
  (agedQueue_length_le _).trans List.length_eraseP_le

/-- The arbiter opens a window on a record of its kind, and only with an entry free for it (R151, R165). -/
theorem PackLine.granted_consistent (h : l.Fit) (length : l.queue.length ≤ 32) : l.granted.Consistent := by
  have counted (a : Fin 24) (b : Fin 24) : ((l.packs.set a (l.packs.get a).granted).get b).state = (l.packs.get b).state
      ∧ ((l.packs.set a (l.packs.get a).granted).get b).offerSent = (l.packs.get b).offerSent := by
    rw [Table.get_set]
    split
    · rename_i here; rw [here]; exact ⟨rfl, rfl⟩
    · exact ⟨rfl, rfl⟩
  have packs (a : Fin 24) : PacksFit (l.packs.set a (l.packs.get a).granted) := h.packs.replace (Pack.revises_counters _ _)
  have urgent (a : Fin 24) : ∀ b ∈ l.urgentOrder, ((l.packs.set a (l.packs.get a).granted).get b).state = .present :=
    fun b mem => (counted a b).1.trans (h.urgent b mem)
  have reserved (free : 1 ≤ l.free) : l.queue.length + 1 ≤ 32 :=
    Nat.succ_le_succ (l.queue_le_inUse.trans (PackLine.free_pos.mp free))
  cases choice : l.choose with
  | mk grant u =>
    cases grant with
    | idle =>
      rw [PackLine.granted_idle choice]
      exact ⟨length, h.of_eqs rfl rfl rfl rfl h.recovery h.collisionRun, nofun⟩
    | confirm a =>
      obtain ⟨_, _, first⟩ := PackLine.choose_confirm choice
      obtain ⟨joining, sent, _⟩ := Pack.due_iff.mp (Table.find?_eq_some_iff.mp first).1
      have free : 1 ≤ l.free := PackLine.choose_free (by rw [choice]; exact nofun)
      rw [PackLine.granted_confirm choice]
      refine ⟨reserved free, ⟨packs a, h.ages, h.distinct, urgent a, h.roundRobin, h.recovery, h.collisionRun⟩,
        fun w opened _ => ?_⟩
      obtain rfl := Option.some.inj opened
      exact ⟨(counted a a).1.trans joining, fun _ => (counted a a).2.trans sent⟩
    | poll a =>
      have free : 1 ≤ l.free := PackLine.choose_free (by rw [choice]; exact nofun)
      rw [PackLine.granted_poll choice]
      refine ⟨reserved free, ⟨packs a, h.ages, h.distinct, urgent a, ?_, h.recovery, h.collisionRun⟩, fun w opened _ => ?_⟩
      · show (if u = true then l.roundRobin else a.val + 1) ≤ 24
        split
        · exact h.roundRobin
        · exact a.isLt
      · obtain rfl := Option.some.inj opened
        exact ⟨(counted a a).1.trans (PackLine.choose_poll_present choice), nofun⟩

/-- A frame leaves the line consistent, whatever window has closed before it. -/
theorem PackLine.Consistent.sendFrame (h : l.Consistent) (n : BlockNo) (blocks : List OutBlock) :
    (l.sendFrame n blocks).Consistent := by
  have length : l.ready.queue.length ≤ 32 := l.ready_length_le.trans (l.queue_le_inUse.trans h.room)
  have granted := PackLine.granted_consistent (PackLine.ready_fit h.fit) length
  rw [PackLine.sendFrame_eq]
  exact granted.of_eqs rfl rfl rfl rfl rfl ((Nat.sub_le _ _).trans h.fit.recovery) granted.fit.collisionRun

end

/-! ## Requests -/

section
variable {s : State}

/-- A deferral marks the clock or a cue slot. -/
theorem LineKept.answer (s : State) (kind tag : Byte) (a : Answer) : LineKept s (s.answer kind tag a) := by
  obtain ⟨_, _, _, _, _, line, _⟩ := State.answer_frame s kind tag a
  exact ⟨line, (State.answer_kept s kind tag a).mixing⟩

/-- The taking of a request keeps the line if its owner does. -/
theorem State.LineConsistent.takeRequest {o : Option Owner} (h : s.LineConsistent)
    (keeps : ∀ take, o = some take → take.KeepsLine) (kind tag : Byte) : (takeRequest kind tag o s).LineConsistent := by
  rcases takeRequest_cases kind tag o s with full | ⟨e, refused⟩ | ⟨take, owner, _, decided⟩
  · rw [full]; exact h.withLink _
  · rw [refused]; exact h.withLink _
  · rw [decided]; exact (keeps take owner s h).kept (.answer _ _ _ _)

/-- A request row, of a known or an unknown kind. -/
theorem State.LineConsistent.request {t : State} (h : s.LineConsistent) {i : Instr} {kind : Byte} (hk : kindOf i = some kind)
    (run : exec i s = .next t) : t.LineConsistent := by
  obtain ⟨tag, unknown | known⟩ := exec_request_cases hk s
  · cases unknown.symm.trans run
    unfold takeUnknownKind
    split
    · exact h.withLink _
    · exact h.withLink _
  · cases known.symm.trans run
    exact h.takeRequest (fun take own => requestOwner_keepsLine own) kind tag

/-- A received byte is taken, discarded, or completes a request. -/
theorem State.LineConsistent.byte {t : State} (h : s.LineConsistent) {time : Time} {b : Byte}
    (run : exec (.linkByteReceived time b) s = .next t) : t.LineConsistent := by
  cases event : (s.link.settleGap time).rx.receive time b with
  | mk rx e =>
    cases e with
    | taken => cases (exec_byte_taken event).symm.trans run; exact h.withLink _
    | discarded => cases (exec_byte_discarded event).symm.trans run; exact h.withLink _
    | complete body =>
      have decoded := (exec_byte_complete event).symm.trans run
      rcases State.takeBody_eq (s.withLink { s.link.settleGap time with rx := rx }) body with ⟨i, kind, hk, eq⟩ | eq
      · exact (h.withLink _).request hk (eq.symm.trans decoded)
      · cases eq.symm.trans decoded; exact h.withLink _

/-! ## Upstream windows: none is open while the engine rests (R160) -/

theorem State.LineConsistent.closeAnnounce (h : s.LineConsistent) (heard : Option (List Byte)) :
    (s.closeAnnounce heard).LineConsistent := by
  refine ⟨State.closeAnnounce_line h.line heard, fun rest => ?_⟩
  rw [(State.closeAnnounce_window s heard).clock] at rest
  have idle := h.idle rest
  rw [State.closeAnnounce_closed idle.announce]
  exact idle

theorem State.LineConsistent.closeGrantedWindow (h : s.LineConsistent) (heard : Option (List Byte)) :
    (s.closeGrantedWindow heard).LineConsistent := by
  refine ⟨State.closeGrantedWindow_line h.line heard, fun rest => ?_⟩
  rw [(State.closeGrantedWindow_window s heard).clock] at rest
  have idle := h.idle rest
  rw [State.closeGrantedWindow_closed idle.window]
  exact idle

theorem State.LineConsistent.signalAfterIdle {t : State} (h : s.LineConsistent) (run : exec .upstreamSignalAfterIdle s = .next t) :
    t.LineConsistent := by
  change execUpstreamSignalAfterIdle s = .next t at run
  unfold execUpstreamSignalAfterIdle at run
  cases run
  split
  · exact h.edited (PackLine.edits_counted rfl rfl rfl rfl rfl rfl rfl rfl rfl) rfl
  · exact h

/-! ## Boundaries -/

theorem State.mixingBoundary_line (s : State) (c : Clock) (n : BlockNo) (relocked : Bool) :
    ∃ blocks, (s.mixingBoundary c n relocked).line = s.closeWindows.line.sendFrame n blocks := by
  rw [State.mixingBoundary_eq]
  obtain ⟨_, _, _, _, _, _, _, line⟩ := State.mixBlock_fields
    (((s.closeWindows.withClock c).withRing (if relocked then s.ring.consume fun e => !inWindow (n - 1) e.block else s.ring)
      ).completeDeferred n) s n
  rw [(State.completeDeferred_frame _ n).line] at line
  exact ⟨_, line⟩

/-- After a boundary that mixes a block the engine mixes. -/
theorem State.LineConsistent.mixingBoundary (h : s.LineConsistent) {c : Clock} (mixing : c.mixing = true) (n : BlockNo)
    (relocked : Bool) : (s.mixingBoundary c n relocked).LineConsistent := by
  obtain ⟨blocks, line⟩ := State.mixingBoundary_line s c n relocked
  obtain ⟨clock, _⟩ := State.mixingBoundary_frame s c n relocked
  refine ⟨?_, fun rest => ?_⟩
  · rw [line]; exact (State.closeWindows_line h.line).sendFrame n blocks
  · rw [clock, mixing] at rest
    exact absurd rest nofun

/-- The stopping boundary leaves no window open and no frame on the line (R24, R25). -/
theorem State.LineConsistent.stoppingBoundary (h : s.LineConsistent) (t : Time) (bySync : Bool) :
    (s.stoppingBoundary t bySync).LineConsistent := by
  obtain ⟨window, announce⟩ := State.closeWindows_closed s
  have line := State.stoppingBoundary_line s t bySync
  refine ⟨?_, fun _ => ?_⟩
  · rw [line]; exact (State.closeWindows_line h.line).recounted rfl rfl rfl rfl rfl rfl rfl
  · rw [line]; exact ⟨window, announce, rfl⟩

/-! ## Sync frames, audio frames, timers -/

theorem State.LineConsistent.syncBoundary (h : s.LineConsistent) (f : Format) (t : Time) (block : BlockNo) :
    (s.syncBoundary f t block).LineConsistent := by
  unfold State.syncBoundary
  dsimp only
  split
  · exact h.stoppingBoundary t true
  · split
    · exact h.mixingBoundary rfl _ _
    · exact h.mixingBoundary rfl _ _

theorem State.LineConsistent.ownSync (h : s.LineConsistent) (f : Format) (t : Time) (block : BlockNo) :
    (s.ownSync f t block).LineConsistent := by
  unfold State.ownSync
  split
  case h_1 => exact h.mixingBoundary rfl _ _
  case h_2 =>
    split
    · exact h.kept ⟨rfl, rfl⟩
    · exact h.syncBoundary f t block
  case h_3 engine =>
    split
    · have mixing : s.clock.mixing = true := Clock.mixing_iff.mpr (.inr engine)
      have running : (s.clock.afterRealign f block).mixing = true := by
        unfold Clock.afterRealign; dsimp only; split <;> rfl
      exact h.kept ⟨rfl, running.trans mixing.symm⟩
    · exact h.syncBoundary f t block
  case h_4 => exact h
  case h_5 => exact h

theorem State.LineConsistent.takeSync (h : s.LineConsistent) (t : Time) (id : StreamId) (block : BlockNo) :
    (s.takeSync t id block).LineConsistent := by
  unfold State.takeSync
  split
  · exact h.kept ⟨rfl, rfl⟩
  · split
    · exact h.kept ⟨rfl, rfl⟩
    · split
      · exact h.ownSync _ t block
      · exact h.kept ⟨rfl, rfl⟩

theorem LineKept.takeAudio (s : State) (f : List Byte) : LineKept s (s.takeAudio f) := by
  unfold State.takeAudio
  dsimp only
  repeat' split
  case h_2.isFalse.isFalse.isFalse =>
    unfold State.windowAndStore
    dsimp only
    repeat' split
    all_goals exact .of_eqs rfl rfl
  all_goals exact .of_eqs rfl rfl

theorem State.LineConsistent.stageFrame (h : s.LineConsistent) (t : Time) (f : List Byte) : (s.stageFrame t f).LineConsistent := by
  unfold State.stageFrame
  split
  · exact h.kept (.of_eqs rfl rfl)
  · split
    · exact h.kept (.takeAudio s f)
    · split
      · split
        · exact h.takeSync _ _ _
        · exact h.kept (.of_eqs rfl rfl)
      · exact h.kept (.of_eqs rfl rfl)

theorem State.LineConsistent.timerExpiry (h : s.LineConsistent) (e : EngineState) : (s.timerExpiry e).LineConsistent := by
  unfold State.timerExpiry
  split
  · split
    · unfold State.expire
      split
      · exact h.stoppingBoundary _ false
      · exact h.mixingBoundary rfl _ _
    · exact h
  · exact h

/-! ## Every command -/

theorem exec_keeps_line {c : Instr} {t : State} (h : s.LineConsistent) (run : exec c s = .next t) : t.LineConsistent := by
  cases kind : kindOf c with
  | some k => exact h.request kind run
  | none =>
    cases c
    case powerOn =>
      cases run
      exact State.LineConsistent.kept (State.lineConsistent_iff.mpr resetIsSound.line) (.of_eqs rfl rfl)
    case linkByteReceived => exact h.byte run
    case interByteGapExpiry | transmitEnd => cases run; exact h.withLink _
    case syncFrame | audioFrame | malformedStageFrame => cases run; exact h.stageFrame _ _
    case syncWatchExpiry | holdoverTimerExpiry => cases run; exact h.timerExpiry _
    case announceWindowClose heard => cases run; exact h.closeAnnounce heard
    case grantedWindowClose heard => cases run; exact h.closeGrantedWindow heard
    case upstreamSignalAfterIdle => exact h.signalAfterIdle run
    all_goals cases kind

/-- Settles O59: a step idles or carries out the command at the front, and every command keeps the pack line. -/
theorem stepKeepsPackLine : Obligations.StepKeepsPackLine := by
  unfold Obligations.StepKeepsPackLine
  intro s t sound run
  have before : s.LineConsistent := State.lineConsistent_iff.mpr sound.line
  refine State.lineConsistent_iff.mp ?_
  unfold step at run
  split at run
  · cases run; exact before
  · rename_i rest _
    exact exec_keeps_line (s := s.withPending rest) (before.kept (.of_eqs rfl rfl)) run

end

end Sys2Proof.Machine
end

section
/-! The close of an announce window (R160, R168 to R171): silence, a collision or a storm, a HELLO by the record of its serial; and
a signal after an IDLE grant (R160, R174). -/

namespace Sys2Proof.Machine

/-! ## PACK notices (R13, R180) -/

/-- A PACK notice changes the link only. -/
theorem State.raisePack_eq (s : State) (n : Notice) :
    s.raisePack n = s.withLink (if s.link.packNotices then s.link.pushNotice n else s.link) := by
  unfold State.raisePack
  split <;> rfl

/-- A LOST record that is PRESENT again (R170). -/
def Pack.rejoined (p : Pack) : Pack :=
  { p with state := .present, presence := 127, busy := false,
           counters := { p.counters with rejoins := count32 p.counters.rejoins } }

/-! ## The record that a HELLO finds (R169, R170) -/

section
variable {s : State} {k : Serial} {a : Fin 24}

theorem State.hello_known (fit : PacksFit s.line.packs) (used : (s.line.packs.get a).state ≠ .free)
    (serial : (s.line.packs.get a).serial = k) : s.hello k = s.helloKnown k a := by
  have found : (s.line.packs.find? fun p => p.state != .free && p.serial == k) = some a := by
    refine Table.find?_eq_some (by simp [used, serial]) fun b below => ?_
    have other : (s.line.packs.get b).state ≠ .free → (s.line.packs.get b).serial ≠ k := fun used' same =>
      below.ne (fit.serials b a used' used (same.trans serial.symm))
    simpa using other
  rw [State.hello, found]

theorem State.hello_fresh (fresh : ∀ b, (s.line.packs.get b).state ≠ .free → (s.line.packs.get b).serial ≠ k) :
    s.hello k = s.helloUnknown k := by
  have notFound : (s.line.packs.find? fun p => p.state != .free && p.serial == k) = none :=
    Table.find?_eq_none fun b => by simpa using fresh b
  rw [State.hello, notFound]

/-! ## A HELLO refused (R171) -/

/-- Without a free entry a serial is refused that has a record, or could take one. -/
theorem State.hello_queueFull (full : s.line.free = 0)
    (place : (∃ b, (s.line.packs.get b).state ≠ .free ∧ (s.line.packs.get b).serial = k) ∨ ∃ b, (s.line.packs.get b).state = .free) :
    s.hello k = s.refuseJoin k .queueFull := by
  unfold State.hello
  split
  · rw [State.helloKnown, if_pos full]
  · rename_i unknown
    have vacant : ∃ b, (s.line.packs.get b).state = .free := by
      refine place.resolve_left fun ⟨b, used, serial⟩ => ?_
      have test := Table.find?_eq_none_iff.mp unknown b
      simp [used, serial] at test
    unfold State.helloUnknown
    split
    · rename_i occupied
      obtain ⟨b, free⟩ := vacant
      have test := Table.find?_eq_none_iff.mp occupied b
      simp [free] at test
    · exact if_pos full

theorem State.helloUnknown_tableFull (occupied : ∀ b, (s.line.packs.get b).state ≠ .free) :
    s.helloUnknown k = s.refuseJoin k .tableFull := by
  rw [State.helloUnknown, Table.find?_eq_none fun b => by simpa using occupied b]

/-! ## A HELLO admitted (R169, R170) -/

variable (room : 1 ≤ s.line.free)
include room

/-- A new serial takes the lowest FREE record. -/
theorem State.helloUnknown_joins (free : (s.line.packs.get a).state = .free)
    (lowest : ∀ b, b < a → (s.line.packs.get b).state ≠ .free) :
    s.helloUnknown k = s.withLine ((s.line.updatePack a fun _ =>
      { Pack.freeWith PackCounters.zero with state := .joining, serial := k }).offer k a) := by
  rw [State.helloUnknown, Table.find?_eq_some (by simpa using free) fun b below => by simpa using lowest b below]
  exact if_neg (Nat.one_le_iff_ne_zero.mp room)

theorem State.helloKnown_joining (joining : (s.line.packs.get a).state = .joining) :
    s.helloKnown k a = s.withLine (s.line.offer k a) := by
  rw [State.helloKnown, if_neg (Nat.one_le_iff_ne_zero.mp room), joining]

theorem State.helloKnown_present (present : (s.line.packs.get a).state = .present) :
    s.helloKnown k a = s.withLine ((s.line.updatePack a fun p => { p with presence := 127 }).offer k a) := by
  rw [State.helloKnown, if_neg (Nat.one_le_iff_ne_zero.mp room), present]

/-- A LOST record is PRESENT again; it stands in no urgent order, so none is changed. -/
theorem State.helloKnown_lost (fit : s.line.Fit) (lost : (s.line.packs.get a).state = .lost) :
    s.helloKnown k a = (s.withLine ((s.line.updatePack a Pack.rejoined).offer k a)).raisePack
      (packNotice s .rejoin (addressNumber a) (packInfo (s.line.packs.get a) none)) := by
  have order : s.line.urgentOrder.filter (· != a) = s.line.urgentOrder := by
    refine List.filter_eq_self.mpr fun b mem => ?_
    have other : b ≠ a := by
      rintro rfl
      exact absurd ((fit.urgent b mem).symm.trans lost) nofun
    simpa using other
  have record : (s.line.updatePack a Pack.rejoined).packs.get a = (s.line.packs.get a).rejoined := by
    rw [PackLine.updatePack_get, if_pos rfl]
  unfold State.helloKnown
  rw [if_neg (Nat.one_le_iff_ne_zero.mp room), lost]
  change ((s.withLine (PackLine.offer { s.line.updatePack a Pack.rejoined with
    urgentOrder := s.line.urgentOrder.filter (· != a) } k a)).raisePack
      (packNotice s .rejoin (addressNumber a) (packInfo ((s.line.updatePack a Pack.rejoined).packs.get a) none))) = _
  rw [order, record]
  rfl

end

/-! ## What an announce window hears (R160, R168) -/

/-- The state with its announce window closed, and the run of collisions that this leaves. -/
def State.announced (s : State) (run : Nat) : State := s.withLine { s.line with announceOpen := false, collisionRun := run }

section
variable {s : State} (opened : s.line.announceOpen = true)
include opened

theorem State.closeAnnounce_silent : s.closeAnnounce none = s.announced 0 := by
  rw [State.closeAnnounce, if_pos opened]; rfl

variable {signal : List Byte}

theorem State.closeAnnounce_hello {k : Serial} (heard : upstreamMessage signal = some (.hello k)) :
    s.closeAnnounce (some signal) = (s.announced 0).hello k := by
  rw [State.closeAnnounce, if_pos opened]
  simp only [heard]
  rfl

theorem exec_announceWindowClose_hello {k : Serial} (heard : upstreamMessage signal = some (.hello k)) :
    exec (.announceWindowClose (some signal)) s = .next ((s.announced 0).hello k) :=
  congrArg Host.Outcome.next (State.closeAnnounce_hello opened heard)

theorem State.closeAnnounce_collision (notHello : ∀ k, upstreamMessage signal ≠ some (.hello k)) :
    s.closeAnnounce (some signal) = (s.announced s.line.collisionRun).collision := by
  rw [State.closeAnnounce, if_pos opened]
  cases heard : upstreamMessage signal with
  | none => simp only [heard]; rfl
  | some message =>
    cases message with
    | hello k => exact absurd heard (notHello k)
    | confirm | nothing | request => simp only [heard]; rfl

end

theorem State.collision_counted {s : State} (below : s.line.collisionRun < 15) :
    s.collision = s.withLine { s.line with
      collisionRun := s.line.collisionRun + 1, recovery := 8, collisions := count32 s.line.collisions } := if_pos below

/-- The sixteenth collision in a row. -/
theorem State.collision_storm {s : State} (last : s.line.collisionRun = 15) :
    s.collision = (s.withLine { s.line with
      collisionRun := 0, recovery := 0, collisions := count32 s.line.collisions
      announceStorms := count32 s.line.announceStorms }).raisePack
        (packNotice s .announceStorm 0 (.pack 0 none none none none)) := if_neg (by omega)

/-! ## The statements -/

/-- Settles O43: the two tests that refuse a HELLO. -/
theorem refusedHello : Obligations.RefusedHello := by
  unfold Obligations.RefusedHello
  intro s signal serial opened heard held vacant refused
  have close := exec_announceWindowClose_hello opened heard
  refine ⟨fun unheld occupied => ?_, fun place full => ?_⟩
  · have fresh : ∀ a, (s.line.packs.get a).state ≠ .free → (s.line.packs.get a).serial ≠ serial := fun a used same =>
      unheld ⟨a, used, same⟩
    rw [close, State.hello_fresh (s := s.announced 0) fresh,
      State.helloUnknown_tableFull (s := s.announced 0) fun a free => occupied ⟨a, free⟩]
    rfl
  · rw [close, State.hello_queueFull (s := s.announced 0) full place]
    rfl

/-- Settles O44: what was heard decides, and for a HELLO the record of its serial. -/
theorem announceWindowAndIdleSignal : Obligations.AnnounceWindowAndIdleSignal := by
  unfold Obligations.AnnounceWindowAndIdleSignal
  refine ⟨fun s opened => ?_, fun s engine closed f frame idle => ?_⟩
  · intro closed offered collided
    refine ⟨congrArg Host.Outcome.next (State.closeAnnounce_silent opened), fun signal notHello => ?_,
      fun signal serial heard room => ?_⟩
    · have close : exec (.announceWindowClose (some signal)) s = .next (s.announced s.line.collisionRun).collision :=
        congrArg Host.Outcome.next (State.closeAnnounce_collision opened notHello)
      refine ⟨fun below => ?_, fun last => ?_⟩
      · rw [close, State.collision_counted (s := s.announced s.line.collisionRun) below]; rfl
      · rw [close, State.collision_storm (s := s.announced s.line.collisionRun) last, State.raisePack_eq]; rfl
    · have close := exec_announceWindowClose_hello opened heard
      refine ⟨fun a fresh free lowest => ?_, fun a sound known => ?_⟩
      · rw [close, State.hello_fresh (s := s.announced 0) fresh,
          State.helloUnknown_joins (s := s.announced 0) room free lowest]
        rfl
      · intro p
        have fit : s.line.Fit := (PackLine.sound_iff.mp sound).fit
        have fitClosed : (s.announced 0).line.Fit := fit.of_eqs rfl rfl rfl rfl fit.recovery (Nat.zero_le 15)
        have found (used : p.state ≠ .free) : exec (.announceWindowClose (some signal)) s
            = .next ((s.announced 0).helloKnown serial a) :=
          close.trans (congrArg Host.Outcome.next (State.hello_known fitClosed.packs used known))
        refine ⟨fun joining => ?_, fun present => ?_, fun lost => ?_⟩
        · rw [found (by rw [joining]; exact nofun), State.helloKnown_joining (s := s.announced 0) room joining]; rfl
        · rw [found (by rw [present]; exact nofun), State.helloKnown_present (s := s.announced 0) room present]; rfl
        · rw [found (by rw [lost]; exact nofun), State.helloKnown_lost (s := s.announced 0) room fitClosed lost,
            State.raisePack_eq, ← known]
          rfl
  · have counts : s.clock.mixing = true ∧ s.line.frame.map DownFrame.grant = some .idle ∧ ¬ s.line.announceOpen = true :=
      ⟨Clock.mixing_iff.mpr engine, by rw [frame, Option.map_some, idle], by rw [closed]; exact nofun⟩
    exact congrArg Host.Outcome.next (if_pos counts)

end Sys2Proof.Machine
end

section
/-! The close of a CONFIRM window (R159, R161, R163, R173, R180): the join, a failed attempt, and the fourth failure. -/

namespace Sys2Proof.Machine

/-- A record set and then changed. -/
theorem Table.modify_set {α : Type} {n : Nat} (t : Table α n) (i : Fin n) (v : α) (f : α → α) :
    (t.set i v).modify i f = t.set i (f v) := by
  rw [Table.modify, Table.get_set_same, Table.set_set]

/-- The record with one silent window more (R161). -/
def Pack.silenced (p : Pack) : Pack := p.countIn fun c => { c with silent := count32 c.silent }

/-- The line after a CONFIRM window without the record's CONFIRM: SILENT, and an upstream error for a signal (R161). -/
def PackLine.unconfirmed (l : PackLine) (a : Fin 24) (heard : Option (List Byte)) : PackLine :=
  { l with packs := l.packs.set a (l.packs.get a).silenced
           upstreamErrors := if heard.isSome then count32 l.upstreamErrors else l.upstreamErrors }

section
variable {l : PackLine} {a : Fin 24} {heard : Option (List Byte)}

theorem PackLine.unconfirmed_get : (l.unconfirmed a heard).packs.get a = (l.packs.get a).silenced := Table.get_set_same _ _ _

/-- A further change of the record. -/
theorem PackLine.unconfirmed_updatePack (f : Pack → Pack) : (l.unconfirmed a heard).updatePack a f =
    { l.unconfirmed a heard with packs := l.packs.set a (f (l.packs.get a).silenced) } :=
  congrArg (fun t => { l.unconfirmed a heard with packs := t }) (Table.modify_set _ _ _ f)

/-- The record becomes FREE while its window is open: the window is marked (R150, R151). -/
theorem PackLine.unconfirmed_freePack {confirm freed : Bool}
    (opened : l.window = some { confirm := confirm, address := a, freed := freed }) :
    (l.unconfirmed a heard).freePack a = { l.unconfirmed a heard with
      packs := l.packs.set a (Pack.freeWith (l.packs.get a).silenced.counters)
      queue := l.queue.filter (·.address != a)
      queueDropped := addCount32 l.queueDropped (l.queue.filter (·.address == a)).length
      urgentOrder := l.urgentOrder.filter (· != a)
      window := some { confirm := confirm, address := a, freed := true } } := by
  have marked : (l.unconfirmed a heard).window.map (fun w => if w.address = a then { w with freed := true } else w) =
      some { confirm := confirm, address := a, freed := true } := by
    rw [show (l.unconfirmed a heard).window = l.window from rfl, opened, Option.map_some, if_pos rfl]
  unfold PackLine.freePack
  rw [PackLine.unconfirmed_updatePack, ← marked]
  rfl

end

section
variable {s : State} {a : Fin 24}

theorem State.closeConfirm_confirmed {signal : List Byte}
    (heard : upstreamMessage signal = some (.confirm (s.line.packs.get a).serial)) :
    s.closeConfirm a (some signal) = s.confirmed a := if_pos heard

theorem State.closeConfirm_unconfirmed {heard : Option (List Byte)}
    (other : ∀ signal, heard = some signal → upstreamMessage signal ≠ some (.confirm (s.line.packs.get a).serial)) :
    s.closeConfirm a heard = (s.withLine (s.line.unconfirmed a heard)).confirmFailed a := by
  cases heard with
  | none => rfl
  | some signal => exact if_neg (other signal rfl)

/-! ## The join (R173) -/

theorem State.confirmed_eq (s : State) (a : Fin 24) :
    s.confirmed a =
      let p := s.line.packs.get a
      (s.withLine { s.line with
        packs := s.line.packs.set a { Pack.freeWith { p.counters with answers := count32 p.counters.answers } with
          state := .present, serial := p.serial, presence := 127 }
        urgentOrder := s.line.urgentOrder.filter (· != a), joins := count32 s.line.joins }).raisePack
          (packNotice s .joined (a.val + 1) (.pack p.serial none (some .listener) none none)) := by
  unfold State.confirmed
  dsimp only
  rw [PackLine.updatePack_get, if_pos rfl]
  rfl

/-! ## A failed attempt (R173) -/

theorem State.confirmFailed_again (few : (s.line.packs.get a).attempts ≤ 2) :
    s.confirmFailed a = s.withLine (s.line.updatePack a fun p => { p with attempts := p.attempts + 1, ticks := 0 }) :=
  if_pos (by omega)

/-- The fourth failure: the record becomes FREE. -/
theorem State.confirmFailed_last (last : (s.line.packs.get a).attempts = 3) :
    s.confirmFailed a = (s.withLine { s.line.freePack a with joinFailures := count32 s.line.joinFailures }).raisePack
      (packNotice s .joinFailed (addressNumber a) (.pack (s.line.packs.get a).serial none none none none)) :=
  if_neg (by omega)

end

/-- Settles O48: presence falls and the reservation is released after what `State.closeConfirm` makes of what was heard. -/
theorem confirmWindow : Obligations.ConfirmWindow := by
  unfold Obligations.ConfirmWindow
  intro s a closed opened p ends
  have close (heard : Option (List Byte)) : exec (.grantedWindowClose heard) s = .next (s.closeConfirm a heard).windowEnds := by
    refine congrArg Host.Outcome.next ?_
    rw [State.closeGrantedWindow_open opened, State.closeAnnounce_closed closed, State.closeGranted_confirm]
  refine ⟨fun signal heard => ?_, fun heard other => ?_⟩
  · rw [close, State.closeConfirm_confirmed heard, State.confirmed_eq, State.raisePack_eq]
    rfl
  · intro errors silent
    have attempts : ((s.line.unconfirmed a heard).packs.get a).attempts = p.attempts := by rw [PackLine.unconfirmed_get]; rfl
    rw [close, State.closeConfirm_unconfirmed other]
    refine ⟨fun few => ?_, fun last => ?_⟩
    · rw [State.confirmFailed_again (s := s.withLine (s.line.unconfirmed a heard)) (attempts.le.trans few), State.withLine_line,
        PackLine.unconfirmed_updatePack]
      rfl
    · rw [State.confirmFailed_last (s := s.withLine (s.line.unconfirmed a heard)) (attempts.trans last), State.raisePack_eq,
        State.withLine_line, PackLine.unconfirmed_get, PackLine.unconfirmed_freePack opened]
      rfl

end Sys2Proof.Machine
end

section
/-! The click, one sample period after the other (R187 to R190): a running click, the burst of a beat, and the last beat of a
count. -/

namespace Sys2Proof.Machine

/-! ## One sample period -/

/-- The click of a sample period once a beat that is due has begun (R187 step 1). -/
def Click.current (c : Click) : Click := if c.state = .beating ∧ c.countdown = 0 then c.beat else c

/-- The click after the sample of a period (R187 steps 3 and 4). -/
def Click.played (c : Click) : Click :=
  let next := { c with burst := c.burst.bind burstNext }
  match c.state with
  | .beating => { next with countdown := c.countdown - 1 }
  | _ => if next.burst = none then next.toIdle else next

theorem Click.tick_idle {c : Click} (idle : c.state = .idle) : c.tick = (c, none) := by
  unfold Click.tick; rw [idle]

theorem Click.tick_eq {c : Click} (sounds : c.state ≠ .idle) : c.tick = (c.current.played, c.current.burst.map burstSample) := by
  unfold Click.tick Click.current
  split
  · contradiction
  · dsimp only
    generalize (if c.state = .beating ∧ c.countdown = 0 then c.beat else c) = d
    obtain ⟨_, _, _, state, _⟩ := d
    cases state <;> rfl

theorem Click.current_beat {c : Click} (beating : c.state = .beating) (due : c.countdown = 0) : c.current = c.beat :=
  if_pos ⟨beating, due⟩

theorem Click.current_running {c : Click} (between : c.countdown ≠ 0) : c.current = c := if_neg fun due => between due.2

theorem Click.current_lastBurst {c : Click} (last : c.state = .lastBurst) : c.current = c :=
  if_neg (by simp [last])

theorem Click.played_beating {c : Click} (beating : c.state = .beating) :
    c.played = { c with burst := c.burst.bind burstNext, countdown := c.countdown - 1 } := by
  unfold Click.played; rw [beating]

theorem Click.played_sounding {c : Click} (last : c.state = .lastBurst) (more : c.burst.bind burstNext ≠ none) :
    c.played = { c with burst := c.burst.bind burstNext } := by
  unfold Click.played; rw [last]; exact if_neg more

theorem Click.played_ended {c : Click} (last : c.state = .lastBurst) (ended : c.burst.bind burstNext = none) :
    c.played = ({ c with burst := none } : Click).toIdle := by
  unfold Click.played; rw [last, ended]; exact if_pos rfl

/-! ## Several sample periods -/

theorem Click.ticks_add (m n : Nat) (c : Click) : (c.ticks (m + n)).1 = ((c.ticks m).1.ticks n).1 := by
  induction m generalizing c with
  | zero => rw [Nat.zero_add]; rfl
  | succ m ih => rw [Nat.succ_add]; exact ih c.tick.1

theorem Click.ticks_succ (n : Nat) (c : Click) : (c.ticks (n + 1)).1 = (c.ticks n).1.tick.1 := Click.ticks_add n 1 c

/-- The samples of a run are those of its periods. -/
theorem Click.ticks_sample {k n : Nat} (early : k < n) (c : Click) : (c.ticks n).2[k]? = some (c.ticks k).1.tick.2 := by
  induction n generalizing c k with
  | zero => exact absurd early (Nat.not_lt_zero k)
  | succ n ih =>
    change (c.tick.2 :: (c.tick.1.ticks n).2)[k]? = _
    cases k with
    | zero => rfl
    | succ k => exact ih (Nat.lt_of_succ_lt_succ early) c.tick.1

theorem Click.ticks_idle {c : Click} (idle : c.state = .idle) (n : Nat) : (c.ticks n).1 = c := by
  induction n with
  | zero => rfl
  | succ n ih => rw [Click.ticks_succ, ih, Click.tick_idle idle]

/-- A period in which a beat begins goes on from the beat. -/
theorem Click.ticks_beat {c : Click} (beating : c.state = .beating) (due : c.countdown = 0) (started : c.beat.current = c.beat)
    (sounds : c.beat.state ≠ .idle) (n : Nat) : c.ticks (n + 1) = c.beat.ticks (n + 1) := by
  have first : c.tick = c.beat.tick := by
    rw [Click.tick_eq sounds, started, Click.tick_eq (by rw [beating]; exact nofun), Click.current_beat beating due]
  simp only [Click.ticks, first]

/-! ## Bursts (R188, R189) -/

/-- A burst some periods on. -/
def burstAfter : Nat → Option Burst → Option Burst
  | 0, b => b
  | n + 1, b => (burstAfter n b).bind burstNext

/-- A burst that has begun lasts 256 periods. -/
theorem burstAfter_started (accent : Bool) (k : Nat) :
    burstAfter k (some { position := 0, accent := accent })
      = if k < 256 then some { position := k, accent := accent } else none := by
  induction k with
  | zero => rfl
  | succ k ih =>
    rw [burstAfter, ih]
    by_cases more : k + 1 < 256
    · rw [if_pos (Nat.lt_of_succ_lt more), if_pos more]
      exact if_pos more
    · rw [if_neg more]
      split
      · exact if_neg more
      · rfl

/-- A BEATING click up to its next beat: the countdown and the burst go on. -/
theorem Click.ticks_running {c : Click} (beating : c.state = .beating) {k : Nat} (within : k ≤ c.countdown) :
    (c.ticks k).1 = { c with countdown := c.countdown - k, burst := burstAfter k c.burst } := by
  induction k with
  | zero => rfl
  | succ k ih =>
    rw [Click.ticks_succ, ih (Nat.le_of_succ_le within)]
    generalize running : ({ c with countdown := c.countdown - k, burst := burstAfter k c.burst } : Click) = d
    have goesOn : d.state = .beating := by rw [← running]; exact beating
    have between : d.countdown ≠ 0 := by rw [← running]; exact Nat.sub_ne_zero_of_lt within
    rw [Click.tick_eq (by rw [goesOn]; exact nofun), Click.current_running between, Click.played_beating goesOn, ← running]
    rfl

/-- A click in its last burst, as long as the burst lasts. -/
theorem Click.ticks_sounding {c : Click} (last : c.state = .lastBurst) {k : Nat}
    (sounding : ∀ j ≤ k, burstAfter j c.burst ≠ none) : (c.ticks k).1 = { c with burst := burstAfter k c.burst } := by
  induction k with
  | zero => rfl
  | succ k ih =>
    rw [Click.ticks_succ, ih fun j early => sounding j (Nat.le_succ_of_le early)]
    generalize now : ({ c with burst := burstAfter k c.burst } : Click) = d
    have stays : d.state = .lastBurst := by rw [← now]; exact last
    have more : d.burst.bind burstNext ≠ none := by rw [← now]; exact sounding (k + 1) (Nat.le_refl _)
    rw [Click.tick_eq (by rw [stays]; exact nofun), Click.current_lastBurst stays, Click.played_sounding stays more, ← now]
    rfl

/-- The sample of a BEATING click before its next beat is that of its burst (R189). -/
theorem Click.ticks_running_sample {c : Click} (beating : c.state = .beating) {k n : Nat} (early : k < n)
    (within : n ≤ c.countdown) : (c.ticks n).2[k]? = some ((burstAfter k c.burst).map burstSample) := by
  have before : k < c.countdown := early.trans_le within
  rw [Click.ticks_sample early, Click.ticks_running beating before.le]
  generalize running : ({ c with countdown := c.countdown - k, burst := burstAfter k c.burst } : Click) = d
  have goesOn : d.state = .beating := by rw [← running]; exact beating
  have between : d.countdown ≠ 0 := by rw [← running]; exact Nat.sub_ne_zero_of_lt before
  rw [Click.tick_eq (by rw [goesOn]; exact nofun), Click.current_running between, ← running]

/-- A click in the burst of the last beat, at the end of the burst (R187 step 4). -/
theorem Click.ticks_burstEnds {c : Click} (last : c.state = .lastBurst) {k : Nat}
    (sounding : ∀ j ≤ k, burstAfter j c.burst ≠ none) (ended : burstAfter (k + 1) c.burst = none) :
    (c.ticks (k + 1)).1 = ({ c with burst := none } : Click).toIdle := by
  rw [Click.ticks_succ, Click.ticks_sounding last sounding]
  generalize now : ({ c with burst := burstAfter k c.burst } : Click) = d
  have stays : d.state = .lastBurst := by rw [← now]; exact last
  have ended' : d.burst.bind burstNext = none := by rw [← now]; exact ended
  rw [Click.tick_eq (by rw [stays]; exact nofun), Click.current_lastBurst stays, Click.played_ended stays ended', ← now]

/-- The sample of a burst at a position, in half-periods of 16 or 24 (R189). -/
theorem burstSample_eq (position : Nat) (accented : Prop) [Decidable accented] :
    burstSample { position := position, accent := decide accented }
      = if position / (if accented then 16 else 24) % 2 = 0 then 2097152 else -2097152 := by
  simp only [burstSample, decide_eq_true_eq]

/-! ## Ranges (R185, R187, R188) -/

/-- The click's ranges and what its states mean, by name. -/
structure Click.InRange (c : Click) : Prop where
  period : 2400 ≤ c.period ∧ c.period ≤ 192000
  accent : 1 ≤ c.accent ∧ c.accent ≤ 16
  count : c.count ≤ 64
  countdown : c.countdown ≤ 192000
  beatIndex : c.beatIndex ≤ 15
  burst : ∀ b, c.burst = some b → b.position ≤ 255
  pendingPeriod : ∀ p, c.pendingPeriod = some p → 2400 ≤ p ∧ p ≤ 192000
  idle : c.state = .idle → c.burst = none ∧ c.countdown = 0 ∧ c.beatIndex = 0
  lastBurst : c.state = .lastBurst → c.burst ≠ none
  beating : c.state = .beating → c.beatsRemaining ≠ some 0
  beatsRemaining : ∀ n, c.beatsRemaining = some n → n ≤ 64

theorem Click.sound_iff {c : Click} : c.Sound ↔ c.InRange := by
  simp only [Click.Sound, Option.mem_toList]
  exact ⟨fun ⟨p, p', a, a', k, d, i, b, q, idle, last, beating, left⟩ =>
      ⟨⟨p, p'⟩, ⟨a, a'⟩, k, d, i, b, q, idle, last, beating, left⟩,
    fun ⟨⟨p, p'⟩, ⟨a, a'⟩, k, d, i, b, q, idle, last, beating, left⟩ =>
      ⟨p, p', a, a', k, d, i, b, q, idle, last, beating, left⟩⟩

/-- The beats remaining that a beat counts down: the count where count reload is set (R188). -/
def Click.remaining (c : Click) : Option Nat :=
  if c.countReload then (if c.count = 0 then none else some c.count) else c.beatsRemaining

theorem Click.beat_state (c : Click) : c.beat.state = if c.remaining.map (· - 1) = some 0 then .lastBurst else c.state := rfl

section
variable {c : Click}

theorem Click.InRange.remaining_ne_zero (h : c.InRange) (beating : c.state = .beating) : c.remaining ≠ some 0 := by
  unfold Click.remaining
  split
  · split
    · exact nofun
    · rename_i counts; exact fun zero => counts (Option.some.inj zero)
  · exact h.beating beating

theorem Click.InRange.remaining_le (h : c.InRange) {n : Nat} (left : c.remaining = some n) : n ≤ 64 := by
  unfold Click.remaining at left
  split at left
  · split at left
    · cases left
    · cases left; exact h.count
  · exact h.beatsRemaining n left

theorem Click.InRange.nextPeriod (h : c.InRange) :
    2400 ≤ c.pendingPeriod.getD c.period ∧ c.pendingPeriod.getD c.period ≤ 192000 := by
  cases pending : c.pendingPeriod with
  | none => exact h.period
  | some p => exact h.pendingPeriod p pending

/-- The beats that a beat leaves: none only at the last one of a count. -/
theorem Click.InRange.left_eq_zero (h : c.InRange) (beating : c.state = .beating) :
    c.remaining.map (· - 1) = some 0 ↔ c.remaining = some 1 := by
  have counts := h.remaining_ne_zero beating
  cases left : c.remaining with
  | none => simp
  | some n =>
    rw [left] at counts
    have pos : n ≠ 0 := fun zero => counts (congrArg some zero)
    simp only [Option.map_some, Option.some.injEq]
    omega

theorem Click.InRange.beat_goesOn (h : c.InRange) (beating : c.state = .beating) (more : c.remaining ≠ some 1) :
    c.beat.state = c.state := if_neg (mt (h.left_eq_zero beating).mp more)

theorem Click.beat_last (last : c.remaining = some 1) : c.beat.state = .lastBurst := by
  rw [Click.beat_state, last]; rfl

theorem Click.InRange.beat (h : c.InRange) (beating : c.state = .beating) : c.beat.InRange where
  period := h.nextPeriod
  accent := h.accent
  count := h.count
  countdown := h.nextPeriod.2
  beatIndex := by
    have wraps : (c.beatIndex % c.accent + 1) % c.accent < c.accent := Nat.mod_lt _ h.accent.1
    exact Nat.le_of_lt_succ (wraps.trans_le h.accent.2)
  burst := by rintro b ⟨⟩; exact Nat.zero_le _
  pendingPeriod := nofun
  idle := fun idle => by
    rw [Click.beat_state, beating] at idle
    split at idle <;> cases idle
  lastBurst := nofun
  beating := fun goesOn left => absurd ((if_pos left).symm.trans goesOn) nofun
  beatsRemaining := fun n left => by
    obtain ⟨m, before, rfl⟩ := Option.map_eq_some_iff.mp left
    exact (Nat.sub_le m 1).trans (h.remaining_le before)

theorem burstNext_position {b next : Burst} (goesOn : burstNext b = some next) : next.position ≤ 255 := by
  obtain ⟨more, moved⟩ := Option.ite_none_right_eq_some.mp goesOn
  cases moved
  exact Nat.le_of_lt_succ more

theorem Click.InRange.played (h : c.InRange) (sounds : c.state ≠ .idle) : c.played.InRange := by
  have position (b : Burst) (goesOn : c.burst.bind burstNext = some b) : b.position ≤ 255 := by
    obtain ⟨_, _, next⟩ := Option.bind_eq_some_iff.mp goesOn
    exact burstNext_position next
  cases state : c.state with
  | idle => contradiction
  | beating =>
    rw [Click.played_beating state]
    exact { h with
      countdown := (Nat.sub_le _ _).trans h.countdown, burst := position
      idle := fun idle => absurd idle sounds, lastBurst := fun last => absurd (state.symm.trans last) nofun }
  | lastBurst =>
    by_cases ended : c.burst.bind burstNext = none
    · rw [Click.played_ended state ended]
      exact { h with
        countdown := Nat.zero_le _, beatIndex := Nat.zero_le _, burst := nofun, idle := fun _ => ⟨rfl, rfl, rfl⟩
        lastBurst := nofun, beating := nofun, beatsRemaining := nofun }
    · rw [Click.played_sounding state ended]
      exact { h with burst := position, idle := fun idle => absurd idle sounds, lastBurst := fun _ => ended }

theorem Click.InRange.tick (h : c.InRange) : c.tick.1.InRange := by
  by_cases idle : c.state = .idle
  · rw [Click.tick_idle idle]; exact h
  · rw [Click.tick_eq idle]
    by_cases due : c.state = .beating ∧ c.countdown = 0
    · rw [Click.current_beat due.1 due.2]
      have begun := h.beat due.1
      exact begun.played fun rests => absurd (begun.idle rests).1 nofun
    · rw [Click.current, if_neg due]
      exact h.played idle

theorem Click.InRange.ticks (h : c.InRange) (n : Nat) : (c.ticks n).1.InRange := by
  induction n with
  | zero => exact h
  | succ n ih => rw [Click.ticks_succ]; exact ih.tick

end

/-! ## The statement -/

/-- Settles O50: a beat is the click that `Click.beat` gives, running on to its next beat or through its last burst. -/
theorem beatsAndLastBeat : Obligations.BeatsAndLastBeat := by
  unfold Obligations.BeatsAndLastBeat
  refine ⟨?_, fun c sound beating due last => ?_⟩
  · intro c sound beating due remaining more period accented half
    have h := Click.sound_iff.mp sound
    have goesOn : c.beat.state = .beating := (h.beat_goesOn beating more).trans beating
    have long : 2400 ≤ period := h.nextPeriod.1
    have between : c.beat.countdown ≠ 0 := Nat.ne_zero_of_lt long
    have begun (n : Nat) : c.ticks (n + 1) = c.beat.ticks (n + 1) :=
      Click.ticks_beat beating due (Click.current_running between) (by rw [goesOn]; exact nofun) n
    refine ⟨fun k within => ?_, fun k within => ?_⟩
    · intro c'
      have running : c' = _ := (congrArg Prod.fst (begun k)).trans (Click.ticks_running goesOn within)
      rw [running]
      simp only [Click.beat, burstAfter_started, Nat.succ_lt_succ_iff, Click.mk.injEq, true_and, and_true]
      exact ⟨rfl, h.beat_goesOn beating more, rfl, rfl, rfl⟩
    · obtain ⟨n, whole⟩ : ∃ n, period = n + 1 := Nat.exists_eq_add_one.mpr (by omega)
      rw [whole, begun n, ← whole, Click.ticks_running_sample goesOn within (Nat.le_refl _)]
      show some ((burstAfter k (some { position := 0, accent := decide accented })).map burstSample) = _
      rw [burstAfter_started]
      split
      · exact congrArg (some ∘ some) (burstSample_eq k accented)
      · rfl
  · have stops := Click.beat_last last
    have begun (n : Nat) : (c.ticks (n + 1)).1 = (c.beat.ticks (n + 1)).1 :=
      congrArg Prod.fst (Click.ticks_beat beating due (Click.current_lastBurst stops) (by rw [stops]; exact nofun) n)
    have burst (k : Nat) : burstAfter k c.beat.burst = _ := burstAfter_started _ k
    have sounding (k : Nat) (early : k < 256) : burstAfter k c.beat.burst ≠ none := by
      rw [burst, if_pos early]; exact nofun
    have ended : (c.ticks 256).1 = ({ c.beat with burst := none } : Click).toIdle :=
      (begun 255).trans (Click.ticks_burstEnds stops (fun j early => sounding j (Nat.lt_succ_of_le early)) (burst 256))
    refine ⟨fun k early => ?_, ?_⟩
    · rw [begun, Click.ticks_sounding stops fun j within => sounding j (by omega)]; exact stops
    · rw [ended]
      refine ⟨rfl, rfl, rfl, rfl, rfl, rfl, fun k later => ?_⟩
      obtain ⟨n, rfl⟩ := Nat.exists_eq_add_of_le later
      rw [Click.ticks_add, ended, Click.ticks_idle rfl]

end Sys2Proof.Machine
end

section
/-! CLICK_SET, CLICK_START and CLICK_STOP: the click that each leaves by the click state (R191 to R193), and its ranges. -/

namespace Sys2Proof.Machine

section
variable {c : Click}

theorem Click.setTo_beating (beating : c.state = .beating) (period accent count : Nat) :
    c.setTo period accent count =
      { c with pendingPeriod := some period, accent := accent, count := count, countReload := true } := by
  unfold Click.setTo; rw [beating]

theorem Click.setTo_other (other : c.state ≠ .beating) (period accent count : Nat) :
    c.setTo period accent count =
      { c with period := period, pendingPeriod := none, accent := accent, count := count, countReload := false } := by
  unfold Click.setTo
  split
  · contradiction
  · rfl

theorem Click.stopRequested_other (other : c.state ≠ .beating) :
    c.stopRequested = { c with pendingPeriod := none, countReload := false } := by
  unfold Click.stopRequested
  dsimp only
  split
  · contradiction
  · rfl

theorem Click.stopRequested_burst (beating : c.state = .beating) (burst : c.burst ≠ none) :
    c.stopRequested = { c with state := .lastBurst, pendingPeriod := none, countReload := false } := by
  unfold Click.stopRequested; rw [beating]; exact if_pos (Option.isSome_iff_ne_none.mpr burst)

theorem Click.stopRequested_silent (beating : c.state = .beating) (silent : c.burst = none) :
    c.stopRequested = ({ c with pendingPeriod := none, countReload := false } : Click).toIdle := by
  unfold Click.stopRequested; rw [beating, silent]; rfl

/-! ## Ranges -/

theorem Click.InRange.setTo (h : c.InRange) {period accent count : Nat} (periods : 2400 ≤ period ∧ period ≤ 192000)
    (accents : 1 ≤ accent ∧ accent ≤ 16) (counts : count ≤ 64) : (c.setTo period accent count).InRange := by
  by_cases beating : c.state = .beating
  · rw [Click.setTo_beating beating]
    exact { h with pendingPeriod := by rintro p ⟨⟩; exact periods, accent := accents, count := counts }
  · rw [Click.setTo_other beating]
    exact { h with period := periods, pendingPeriod := nofun, accent := accents, count := counts }

theorem Click.InRange.started (h : c.InRange) : c.started.InRange :=
  { h with
    countdown := Nat.zero_le _, beatIndex := Nat.zero_le _, burst := nofun, idle := nofun, lastBurst := nofun
    beating := fun _ none => by
      obtain ⟨counts, zero⟩ := Option.ite_none_left_eq_some.mp none
      exact counts (Option.some.inj zero)
    beatsRemaining := fun n left => by
      obtain ⟨_, all⟩ := Option.ite_none_left_eq_some.mp left
      cases all
      exact h.count }

theorem Click.InRange.stopRequested (h : c.InRange) : c.stopRequested.InRange := by
  by_cases beating : c.state = .beating
  · by_cases silent : c.burst = none
    · rw [Click.stopRequested_silent beating silent]
      exact { h with
        countdown := Nat.zero_le _, beatIndex := Nat.zero_le _, pendingPeriod := nofun, idle := fun _ => ⟨silent, rfl, rfl⟩
        lastBurst := nofun, beating := nofun, beatsRemaining := nofun }
    · rw [Click.stopRequested_burst beating silent]
      exact { h with pendingPeriod := nofun, idle := nofun, lastBurst := fun _ => silent, beating := nofun }
  · rw [Click.stopRequested_other beating]
    exact { h with pendingPeriod := nofun }

/-- The click on entry into STOPPED keeps its settings (R195). -/
theorem Click.InRange.stopped (h : c.InRange) : c.stopped.InRange where
  period := h.period
  accent := h.accent
  count := h.count
  countdown := Nat.zero_le _
  beatIndex := Nat.zero_le _
  burst := nofun
  pendingPeriod := nofun
  idle := fun _ => ⟨rfl, rfl, rfl⟩
  lastBurst := nofun
  beating := nofun
  beatsRemaining := nofun

end

/-! ## The statement -/

/-- An admitted click request leaves the click that its change gives, and reports it (R196). -/
theorem takeRequest_click {s : State} {tag : Byte} (admits : s.Admits tag) (kind : Byte) {f : Click → Click} {c : Click}
    (changed : f s.click = c) :
    takeRequest kind tag (some (clickRequest f)) s = (s.withClick c).reply .done kind tag (clickReport c) := by
  rw [takeRequest_admitted admits, ← changed]; rfl

/-- Settles O49: each request is taken with the change of the click that its click state decides. -/
theorem clickRequests : Obligations.ClickRequests := by
  unfold Obligations.ClickRequests
  intro s tag admits c answered
  have settled (command : Instr) (kind : Byte) {f : Click → Click}
      (row : exec command s = .next (takeRequest kind tag (some (clickRequest f)) s)) {c' : Click} (changed : f c = c') :
      answered command kind c' := row.trans (congrArg _ (takeRequest_click admits kind changed))
  refine ⟨fun p1 p2 p3 p4 accent count => ?_, ?_, fun other => ?_, fun beating burst => ?_, fun beating silent => ?_⟩
  · intro period a k
    have clamped : clampNat 0 64 count.toNat = k := Nat.zero_max _
    refine ⟨fun other => ?_, fun beating => ?_⟩
    · exact settled _ _ rfl (clamped ▸ Click.setTo_other other _ _ _)
    · exact settled _ _ rfl (clamped ▸ Click.setTo_beating beating _ _ _)
  · exact settled _ _ rfl rfl
  · exact settled _ _ rfl (Click.stopRequested_other other)
  · exact settled _ _ rfl (Click.stopRequested_burst beating burst)
  · exact settled _ _ rfl (Click.stopRequested_silent beating silent)

end Sys2Proof.Machine
end

section
/-! Counters at or below their tops (R207, R209): the relations themselves, block by block, and what each operation of the link,
the clock, the stage receiver and the meter unit does to them. -/

namespace Sys2Proof.Machine

theorem count32_le (n : Nat) : count32 n ≤ Config.top32 := Nat.min_le_right _ _

theorem addCount32_le (n k : Nat) : addCount32 n k ≤ Config.top32 := Nat.min_le_right _ _

/-- A counter that an event may count. -/
theorem ite_count32_le {p : Prop} [Decidable p] {n : Nat} (h : n ≤ Config.top32) :
    (if p then count32 n else n) ≤ Config.top32 := by
  split
  · exact count32_le n
  · exact h

/-! ## The relations -/

/-- The counters of the control link. -/
structure Link.InRange (l : Link) : Prop where
  linkErrors : l.linkErrors ≤ Config.top32
  overrun : l.overrun ≤ Config.top32
  noticesLost : l.noticesLost ≤ Config.top32

/-- The counters of the block clock. -/
structure Clock.InRange (c : Clock) : Prop where
  syncBoundaries : c.syncBoundaries ≤ Config.top32
  holdoverBoundaries : c.holdoverBoundaries ≤ Config.top32
  earlySyncs : c.earlySyncs ≤ Config.top32
  foreignSyncs : c.foreignSyncs ≤ Config.top32
  idleSyncs : c.idleSyncs ≤ Config.top32
  relocks : c.relocks ≤ Config.top32
  realigns : c.realigns ≤ Config.top32
  holdoverEntries : c.holdoverEntries ≤ Config.top32

/-- The counters of a stream record. -/
structure StreamCounters.InRange (c : StreamCounters) : Prop where
  stored : c.stored ≤ Config.top32
  late : c.late ≤ Config.top32
  ahead : c.ahead ≤ Config.top32
  duplicate : c.duplicate ≤ Config.top32
  damagedDropped : c.damagedDropped ≤ Config.top32
  damagedKept : c.damagedKept ≤ Config.top32
  fullRejected : c.fullRejected ≤ Config.top32
  formatRejected : c.formatRejected ≤ Config.top32
  idleDiscarded : c.idleDiscarded ≤ Config.top32

/-- The counters of the stage receiver, and those of every stream record. -/
structure Stage.InRange (g : Stage) : Prop where
  streams : ∀ i, (g.streams.get i).counters.InRange
  unmatched : g.unmatched ≤ Config.top32
  malformed : g.malformed ≤ Config.top32
  syncRejected : g.syncRejected ≤ Config.top32

/-- The counters of a pack record. -/
structure PackCounters.InRange (c : PackCounters) : Prop where
  grants : c.grants ≤ Config.top32
  answers : c.answers ≤ Config.top32
  silent : c.silent ≤ Config.top32
  requests : c.requests ≤ Config.top32
  refusals : c.refusals ≤ Config.top32
  losses : c.losses ≤ Config.top32
  rejoins : c.rejoins ≤ Config.top32

/-- The counters of the pack line, and those of every pack record. -/
structure PackLine.InRange (l : PackLine) : Prop where
  packs : ∀ a, (l.packs.get a).counters.InRange
  queueAgedOut : l.queueAgedOut ≤ Config.top32
  queueDropped : l.queueDropped ≤ Config.top32
  trimsUnsent : l.trimsUnsent ≤ Config.top32
  removedUnsent : l.removedUnsent ≤ Config.top32
  joins : l.joins ≤ Config.top32
  joinFailures : l.joinFailures ≤ Config.top32
  refusedJoins : l.refusedJoins ≤ Config.top32
  collisions : l.collisions ≤ Config.top32
  announceStorms : l.announceStorms ≤ Config.top32
  upstreamErrors : l.upstreamErrors ≤ Config.top32
  badRequests : l.badRequests ≤ Config.top32

/-- The part of a sound state that the click, the meter unit and the counters make up, but for the misses of the slots. -/
structure State.InRange (s : State) : Prop where
  link : s.link.InRange
  clock : s.clock.InRange
  stage : s.stage.InRange
  line : s.line.InRange
  click : s.click.InRange
  meter : s.meter.Sound

/-! ## The counters as R207 lists them -/

/-- A list of counters at or below the top of 32 bits. -/
def Counted (ns : List Nat) : Prop := ∀ n ∈ ns, n ≤ 4294967295

theorem counted_cons {n : Nat} {ns : List Nat} : Counted (n :: ns) ↔ n ≤ Config.top32 ∧ Counted ns := List.forall_mem_cons

theorem counted_nil : Counted [] := nofun

theorem Link.inRange_iff {l : Link} : Counted [l.linkErrors, l.overrun, l.noticesLost] ↔ l.InRange := by
  simp only [counted_cons, counted_nil, and_true]
  exact ⟨fun ⟨a, b, c⟩ => ⟨a, b, c⟩, fun ⟨a, b, c⟩ => ⟨a, b, c⟩⟩

theorem Clock.inRange_iff {c : Clock} :
    Counted [c.syncBoundaries, c.holdoverBoundaries, c.earlySyncs, c.foreignSyncs, c.idleSyncs, c.relocks, c.realigns,
      c.holdoverEntries] ↔ c.InRange := by
  simp only [counted_cons, counted_nil, and_true]
  exact ⟨fun ⟨a, b, c, d, e, f, g, h⟩ => ⟨a, b, c, d, e, f, g, h⟩, fun ⟨a, b, c, d, e, f, g, h⟩ => ⟨a, b, c, d, e, f, g, h⟩⟩

theorem StreamCounters.inRange_iff {c : StreamCounters} : Counted (streamCounterList c) ↔ c.InRange := by
  simp only [streamCounterList, counted_cons, counted_nil, and_true]
  exact ⟨fun ⟨a, b, c, d, e, f, g, h, i⟩ => ⟨a, b, c, d, e, f, g, h, i⟩,
    fun ⟨a, b, c, d, e, f, g, h, i⟩ => ⟨a, b, c, d, e, f, g, h, i⟩⟩

theorem PackCounters.inRange_iff {c : PackCounters} : Counted (packCounterList c) ↔ c.InRange := by
  simp only [packCounterList, counted_cons, counted_nil, and_true]
  exact ⟨fun ⟨a, b, c, d, e, f, g⟩ => ⟨a, b, c, d, e, f, g⟩, fun ⟨a, b, c, d, e, f, g⟩ => ⟨a, b, c, d, e, f, g⟩⟩

theorem Stage.inRange_iff {g : Stage} :
    Counted [g.unmatched, g.malformed, g.syncRejected] ∧ (∀ r ∈ g.streams.list, Counted (streamCounterList r.counters))
      ↔ g.InRange := by
  simp only [counted_cons, counted_nil, and_true, Table.forall_iff, StreamCounters.inRange_iff]
  exact ⟨fun ⟨⟨a, b, c⟩, records⟩ => ⟨records, a, b, c⟩, fun ⟨records, a, b, c⟩ => ⟨⟨a, b, c⟩, records⟩⟩

theorem PackLine.inRange_iff {l : PackLine} :
    Counted [l.queueAgedOut, l.queueDropped, l.trimsUnsent, l.removedUnsent, l.joins, l.joinFailures, l.refusedJoins, l.collisions,
        l.announceStorms, l.upstreamErrors, l.badRequests] ∧ (∀ p ∈ l.packs.list, Counted (packCounterList p.counters))
      ↔ l.InRange := by
  simp only [counted_cons, counted_nil, and_true, Table.forall_iff, PackCounters.inRange_iff]
  exact ⟨fun ⟨⟨a, b, c, d, e, f, g, h, i, j, k⟩, records⟩ => ⟨records, a, b, c, d, e, f, g, h, i, j, k⟩,
    fun ⟨records, a, b, c, d, e, f, g, h, i, j, k⟩ => ⟨⟨a, b, c, d, e, f, g, h, i, j, k⟩, records⟩⟩

theorem State.deviceCounters_eq (s : State) : s.deviceCounters =
    [s.link.linkErrors, s.link.overrun, s.link.noticesLost]
      ++ ([s.clock.syncBoundaries, s.clock.holdoverBoundaries, s.clock.earlySyncs, s.clock.foreignSyncs, s.clock.idleSyncs,
        s.clock.relocks, s.clock.realigns, s.clock.holdoverEntries]
      ++ ([s.stage.unmatched, s.stage.malformed, s.stage.syncRejected]
      ++ [s.line.queueAgedOut, s.line.queueDropped, s.line.trimsUnsent, s.line.removedUnsent, s.line.joins, s.line.joinFailures,
        s.line.refusedJoins, s.line.collisions, s.line.announceStorms, s.line.upstreamErrors, s.line.badRequests])) := rfl

theorem State.countersSound_iff {s : State} :
    s.CountersSound ↔
      (s.link.InRange ∧ s.clock.InRange ∧ s.stage.InRange ∧ s.line.InRange) ∧ ∀ k ∈ s.slots.list, k.misses ≤ 65535 := by
  rw [State.CountersSound, State.deviceCounters_eq, ← Link.inRange_iff, ← Clock.inRange_iff, ← Stage.inRange_iff,
    ← PackLine.inRange_iff]
  simp only [Counted, List.forall_mem_append]
  exact ⟨fun ⟨⟨link, clock, stage, line⟩, streams, packs, misses⟩ => ⟨⟨link, clock, ⟨stage, streams⟩, line, packs⟩, misses⟩,
    fun ⟨⟨link, clock, ⟨stage, streams⟩, line, packs⟩, misses⟩ => ⟨⟨link, clock, stage, line⟩, streams, packs, misses⟩⟩

theorem State.Sound.inRange {s : State} (h : s.Sound) : s.InRange := by
  obtain ⟨⟨link, clock, stage, line⟩, _⟩ := State.countersSound_iff.mp h.counters
  exact ⟨link, clock, stage, line, Click.sound_iff.mp h.click, h.meter⟩

/-! ## The control link (R3, R9, R12, R13, R17) -/

section
variable {l : Link}

theorem Link.InRange.pushReply (h : l.InRange) (r : Reply) : (l.pushReply r).InRange := by
  rw [Link.pushReply_eq]; exact { h with }

theorem Link.InRange.complete (h : l.InRange) (d : Deferred) (o : CompleteOutcome) : (l.complete d o).InRange := by
  rw [Link.complete_eq]; exact { h with }

theorem Link.InRange.startTx (h : l.InRange) : l.startTx.InRange := by
  rw [Link.startTx_eq]; exact { h with }

theorem Link.InRange.pushNotice (h : l.InRange) (n : Notice) : (l.pushNotice n).InRange := by
  rcases Nat.lt_or_ge l.notices.length 64 with room | full
  · rw [Link.pushNotice_of_room room]
    exact Link.InRange.startTx (l := { l with notices := l.notices ++ [n] }) { h with }
  · rw [Link.pushNotice_of_full full]
    exact { h with noticesLost := count32_le _ }

theorem Link.InRange.pushNotices (ns : List Notice) : ∀ {l : Link}, l.InRange → (ns.foldl Link.pushNotice l).InRange := by
  induction ns with
  | nil => exact fun h => h
  | cons n rest ih => exact fun h => ih (h.pushNotice n)

theorem Link.InRange.raised {s t : State} (h : s.link.InRange) (raises : Raises s t) : t.link.InRange := by
  obtain ⟨ns, link⟩ := raises
  rw [link]
  exact h.pushNotices ns

theorem Link.InRange.endTx (h : l.InRange) : l.endTx.InRange := by
  unfold Link.endTx
  split
  · exact h
  · have started := Link.InRange.startTx (l := { l with replies := l.replies.tail, tx := .idle }) { h with }
    exact { started with }
  · have started := Link.InRange.startTx (l := { l with notices := l.notices.tail, tx := .idle }) { h with }
    exact { started with }

theorem Link.InRange.discardFrame (h : l.InRange) : l.discardFrame.InRange := { h with linkErrors := count32_le _ }

theorem Link.InRange.abortDeferred (h : l.InRange) : l.abortDeferred.InRange := by
  unfold Link.abortDeferred
  generalize l.deferred = ds
  induction ds generalizing l with
  | nil => exact h
  | cons d rest ih => exact ih (h.complete d .aborted)

theorem Link.InRange.noticeSet {l' : Link} {cls setting : Byte} (h : l.InRange) (set : l.noticeSet? cls setting = some l') :
    l'.InRange := by
  unfold Link.noticeSet? at set
  split at set
  case h_6 => cases set
  all_goals
    obtain ⟨_, _, rfl⟩ := Option.map_eq_some_iff.mp set
    exact { h with }

end

/-! ## The block clock (R25 to R37) -/

section
variable {c : Clock}

theorem Clock.InRange.stopped (h : c.InRange) : c.stopped.InRange := { h with }

theorem Clock.InRange.softReset (h : c.InRange) : c.softReset.InRange := { h with }

theorem Clock.InRange.afterSync (h : c.InRange) (f : Format) (t : Time) (n : BlockNo) : (c.afterSync f t n).InRange :=
  { h with syncBoundaries := count32_le _ }

theorem Clock.InRange.afterRelock (h : c.InRange) (f : Format) (t : Time) (n : BlockNo) (jump : Int) :
    (c.afterRelock f t n jump).InRange :=
  { h.afterSync f t n with relocks := count32_le _ }

theorem Clock.InRange.afterExpiry (h : c.InRange) (f : Format) (t : Time) : (c.afterExpiry f t).InRange :=
  { h with holdoverBoundaries := count32_le _, holdoverEntries := ite_count32_le h.holdoverEntries }

theorem Clock.InRange.afterRealign (h : c.InRange) (f : Format) (block : BlockNo) : (c.afterRealign f block).InRange := by
  unfold Clock.afterRealign
  dsimp only
  split
  · exact { h with realigns := count32_le _ }
  · exact { h with realigns := count32_le _ }

end

/-! ## The stage receiver (R41 to R53, R60) -/

theorem StreamCounters.inRange_zero : StreamCounters.zero.InRange := by constructor <;> exact Nat.zero_le _

/-- One stream record replaced. -/
theorem Stage.InRange.setStream {g : Stage} (h : g.InRange) (i : Fin 8) {r : Stream} (counted : r.counters.InRange) :
    ({ g with streams := g.streams.set i r } : Stage).InRange :=
  { h with
    streams := fun j => by
      dsimp only
      rw [Table.get_set]
      split
      · exact counted
      · exact h.streams j }

theorem Stage.InRange.countIn {g : Stage} (h : g.InRange) (i : Fin 8) {f : StreamCounters → StreamCounters}
    (counted : (g.streams.get i).counters.InRange → (f (g.streams.get i).counters).InRange) : (g.countIn i f).InRange :=
  h.setStream i (counted (h.streams i))

/-! ## The meter unit (R198 to R201) -/

theorem clampNat_within {lo hi : Nat} (ordered : lo ≤ hi) (n : Nat) : lo ≤ clampNat lo hi n ∧ clampNat lo hi n ≤ hi :=
  ⟨Nat.le_max_left _ _, Nat.max_le.mpr ⟨ordered, Nat.min_le_left _ _⟩⟩

/-- The meter unit after a boundary: it counts, and at an interval end it goes on with the interval that waits (R199). -/
theorem Meter.Sound.boundary {m : Meter} (h : m.Sound) (computed : Table Bool 16) :
    (if (m.counted computed).intervalEnds then (m.counted computed).nextInterval else m.counted computed).Sound := by
  obtain ⟨low, high, waiting, begun, within, sequence⟩ := h
  split
  · have next : 8 ≤ m.pendingInterval.getD m.interval ∧ m.pendingInterval.getD m.interval ≤ 1024 := by
      cases pending : m.pendingInterval with
      | none => exact ⟨low, high⟩
      | some i => exact waiting i (by rw [pending]; exact List.mem_singleton_self i)
    refine ⟨next.1, next.2, nofun, Nat.le_trans (by decide) next.1, Nat.le_refl _, ?_⟩
    show (if m.on then (m.sequence + 1) % 65536 else m.sequence) < 65536
    split
    · exact Nat.mod_lt _ (by decide)
    · exact sequence
  · rename_i goesOn
    have left : m.countdown - 1 ≠ 0 := by simpa [Meter.intervalEnds, Meter.counted] using goesOn
    exact ⟨low, high, waiting, Nat.one_le_iff_ne_zero.mpr left, (Nat.sub_le _ _).trans within, sequence⟩

/-- A fresh interval (R198). -/
theorem Meter.Sound.fresh {m : Meter} (h : m.Sound) (on : Bool) {interval : Nat} (range : 8 ≤ interval ∧ interval ≤ 1024) :
    (m.fresh on interval).Sound := by
  obtain ⟨_, _, _, _, _, sequence⟩ := h
  exact ⟨range.1, range.2, nofun, Nat.le_trans (by decide) range.1, Nat.le_refl _, sequence⟩

/-- An interval that waits for the end of the present one (R198). -/
theorem Meter.Sound.withPending {m : Meter} (h : m.Sound) {interval : Nat} (range : 8 ≤ interval ∧ interval ≤ 1024) :
    ({ m with pendingInterval := some interval } : Meter).Sound := by
  obtain ⟨low, high, _, begun, within, sequence⟩ := h
  refine ⟨low, high, fun i mem => ?_, begun, within, sequence⟩
  rw [List.mem_singleton.mp mem]
  exact range

end Sys2Proof.Machine
end

section
/-! Counters of the pack line (R145 to R183): what its operations and the closes of the upstream windows do to them. -/

namespace Sys2Proof.Machine

/-! ## A state with one block replaced -/

section
variable {s : State}

theorem State.InRange.withLink (h : s.InRange) {l : Link} (link : l.InRange) : (s.withLink l).InRange := { h with link := link }

theorem State.InRange.withClock (h : s.InRange) {c : Clock} (clock : c.InRange) : (s.withClock c).InRange :=
  { h with clock := clock }

theorem State.InRange.withStage (h : s.InRange) {g : Stage} (stage : g.InRange) : (s.withStage g).InRange :=
  { h with stage := stage }

theorem State.InRange.withLine (h : s.InRange) {l : PackLine} (line : l.InRange) : (s.withLine l).InRange := { h with line := line }

theorem State.InRange.raisePack (h : s.InRange) (n : Notice) : (s.raisePack n).InRange := by
  unfold State.raisePack
  split
  · exact h.withLink (h.link.pushNotice n)
  · exact h

theorem State.InRange.raiseQueues (h : s.InRange) (queues : List (List NoticeGroup)) : (s.raiseQueues queues).InRange := by
  obtain ⟨ns, d, raised⟩ := State.raiseQueues_eq s queues
  rw [raised]
  exact { h.withLink (h.link.pushNotices ns) with }

end

/-! ## Operations of the line -/

theorem PackCounters.inRange_zero : PackCounters.zero.InRange := by constructor <;> exact Nat.zero_le _

section
variable {l : PackLine} {a : Fin 24}

/-- One pack record replaced. -/
theorem PackLine.InRange.setPack (h : l.InRange) {p : Pack} (counted : p.counters.InRange) :
    ({ l with packs := l.packs.set a p } : PackLine).InRange :=
  { h with
    packs := fun b => by
      dsimp only
      rw [Table.get_set]
      split
      · exact counted
      · exact h.packs b }

theorem PackLine.InRange.updatePack (h : l.InRange) {f : Pack → Pack}
    (counted : (l.packs.get a).counters.InRange → (f (l.packs.get a)).counters.InRange) : (l.updatePack a f).InRange :=
  h.setPack (counted (h.packs a))

theorem PackLine.InRange.enqueue (h : l.InRange) (urgent : Bool) (m : PackMessage) : (l.enqueue a urgent m).InRange := { h with }

theorem PackLine.InRange.discard (h : l.InRange) (p : Queued → Bool) : (l.discard p).InRange :=
  { h with queueDropped := addCount32_le _ _ }

theorem PackLine.InRange.freePack (h : l.InRange) (a : Fin 24) : (l.freePack a).InRange := by
  have freed := (h.updatePack (a := a) (f := fun p => Pack.freeWith p.counters) id).discard fun q => q.address == a
  exact { freed with }

theorem PackLine.InRange.countSilent (h : l.InRange) : (l.countSilent a).InRange :=
  h.updatePack fun counted => { counted with silent := count32_le _ }

theorem PackLine.InRange.countUpstreamError (h : l.InRange) : l.countUpstreamError.InRange :=
  { h with upstreamErrors := count32_le _ }

theorem PackLine.InRange.takeFlags (h : l.InRange) (flags : Byte) : (l.takeFlags a flags).InRange := by
  have taken := h.updatePack (a := a)
    (f := fun p => { p with presence := 127, busy := flags.getLsbD 0
                            counters := { p.counters with answers := count32 p.counters.answers } })
    fun counted => { counted with answers := count32_le _ }
  exact { taken with }

theorem PackLine.InRange.requested (h : l.InRange) (refused : Bool) : (l.requested a refused).InRange :=
  h.updatePack (f := fun p => p.requested refused) fun counted =>
    { counted with requests := count32_le _, refusals := ite_count32_le counted.refusals }

theorem PackLine.InRange.offerTrims (h : l.InRange) (m : Fin 16) (message : PackMessage) : (l.offerTrims m message).InRange := by
  unfold PackLine.offerTrims
  split
  · exact h
  · split
    · exact h
    · split
      · exact { h with trimsUnsent := count32_le _ }
      · exact h.enqueue _ _

theorem Pack.aged_inRange {p : Pack} (counted : p.counters.InRange) : p.aged.counters.InRange := by
  unfold Pack.aged
  split
  · split
    · exact { counted with losses := count32_le _ }
    · exact counted
  · exact counted

theorem PackLine.InRange.decreased (h : l.InRange) : l.decreased.InRange :=
  { h with
    packs := fun a => by rw [PackLine.decreased_get]; exact Pack.aged_inRange (h.packs a)
    queueDropped := addCount32_le _ _ }

/-- RESET keeps the counters of the line and of its records (R157, R184). -/
theorem PackLine.InRange.softReset (h : l.InRange) : l.softReset.InRange :=
  { h with
    packs := fun a => by
      have record : l.softReset.packs.get a =
          if (l.packs.get a).state = .joining then { l.packs.get a with offerSent := true, ticks := 0 } else l.packs.get a :=
        Table.get_map _ _ a
      rw [record]
      split
      · exact h.packs a
      · exact h.packs a }

/-! ## The downstream frame (R152) -/

theorem Pack.ticked_counters (p : Pack) (now : Bool) : (p.ticked now).counters = p.counters := by
  unfold Pack.ticked
  repeat' split
  all_goals rfl

theorem PackLine.InRange.ready (h : l.InRange) : l.ready.InRange :=
  { h with
    packs := fun a => by
      show (l.tickedPacks.get a).counters.InRange
      rw [PackLine.tickedPacks_get, Pack.ticked_counters]
      exact h.packs a
    queueAgedOut := addCount32_le _ _ }

theorem PackLine.InRange.granted (h : l.InRange) : l.granted.InRange := by
  have counted (a : Fin 24) : ({ l with packs := l.packs.set a (l.packs.get a).granted } : PackLine).InRange :=
    h.setPack { h.packs a with grants := count32_le _ }
  cases choice : l.choose with
  | mk grant urgent =>
    cases grant with
    | idle => rw [PackLine.granted_idle choice]; exact { h with }
    | confirm a => rw [PackLine.granted_confirm choice]; exact { counted a with }
    | poll a => rw [PackLine.granted_poll choice]; exact { counted a with }

theorem PackLine.InRange.sendFrame (h : l.InRange) (n : BlockNo) (blocks : List OutBlock) : (l.sendFrame n blocks).InRange := by
  rw [PackLine.sendFrame_eq]
  exact { h.ready.granted with }

end

/-! ## The announce window (R168 to R171) -/

section
variable {s : State} {a : Fin 24}

theorem State.InRange.refuseJoin (h : s.InRange) (k : Serial) (r : JoinRefusal) : (s.refuseJoin k r).InRange := by
  refine State.InRange.raisePack (h.withLine ?_) _
  exact { h.line with refusedJoins := count32_le _ }

theorem State.InRange.helloUnknown (h : s.InRange) (k : Serial) : (s.helloUnknown k).InRange := by
  unfold State.helloUnknown
  split
  · exact h.refuseJoin k _
  · split
    · exact h.refuseJoin k _
    · exact h.withLine ((h.line.updatePack fun _ => PackCounters.inRange_zero).enqueue _ _)

theorem State.InRange.helloKnown (h : s.InRange) (k : Serial) (a : Fin 24) : (s.helloKnown k a).InRange := by
  unfold State.helloKnown
  split
  · exact h.refuseJoin k _
  · split
    · exact h.withLine ((h.line.updatePack id).enqueue _ _)
    · have rejoined := h.line.updatePack (a := a)
        (f := fun p => { p with state := .present, presence := 127, busy := false
                                counters := { p.counters with rejoins := count32 p.counters.rejoins } })
        fun counted => { counted with rejoins := count32_le _ }
      refine State.InRange.raisePack (h.withLine ?_) _
      exact { rejoined with }
    · exact h.withLine (h.line.enqueue _ _)

theorem State.InRange.hello (h : s.InRange) (k : Serial) : (s.hello k).InRange := by
  unfold State.hello
  split
  · exact h.helloKnown k _
  · exact h.helloUnknown k

theorem State.InRange.collision (h : s.InRange) : s.collision.InRange := by
  unfold State.collision
  split
  · exact h.withLine { h.line with collisions := count32_le _ }
  · refine State.InRange.raisePack (h.withLine ?_) _
    exact { h.line with collisions := count32_le _, announceStorms := count32_le _ }

theorem State.InRange.closeAnnounce (h : s.InRange) (heard : Option (List Byte)) : (s.closeAnnounce heard).InRange := by
  unfold State.closeAnnounce
  split
  · have closed : (s.withLine { s.line with announceOpen := false }).InRange := h.withLine { h.line with }
    have quiet : (s.withLine { s.line with announceOpen := false, collisionRun := 0 }).InRange := h.withLine { h.line with }
    dsimp only
    split
    · exact quiet
    · split
      · exact quiet.hello _
      · exact closed.collision
  · exact h

/-! ## The granted window (R161 to R163, R173 to R179) -/

theorem State.InRange.decideRequest (h : s.InRange) (a : Fin 24) (kind : Byte) (value : Int) (more : Bool) :
    (s.decideRequest a kind value more).InRange := by
  have counted (refused : Bool) : (s.line.requested a refused).InRange := h.line.requested refused
  cases known : packRequest? kind with
  | none =>
    rw [State.decideRequest_unknown known]
    exact h.withLine { h.line with badRequests := count32_le _ }
  | some r =>
    cases mix : (s.line.packs.get a).mix with
    | none => rw [State.decideRequest_noMix known mix]; exact h.withLine ((counted true).enqueue _ _)
    | some i =>
      by_cases refused : (s.line.packs.get a).role = .listener ∧ r ≠ .queryTrims
      · rw [State.decideRequest_notOwner known mix refused.1 refused.2]
        exact h.withLine ((counted true).enqueue _ _)
      · have may : (s.line.packs.get a).role = .owner ∨ r = .queryTrims := by
          cases role : (s.line.packs.get a).role with
          | owner => exact .inl rfl
          | listener => exact .inr (by_contra fun other => refused ⟨role, other⟩)
        rw [State.decideRequest_carriedOut known mix may]
        dsimp only
        split
        · exact { h with line := (counted false).enqueue _ _ }
        · exact { h with line := counted false }

theorem State.InRange.closePoll (h : s.InRange) (a : Fin 24) (heard : Option (List Byte)) : (s.closePoll a heard).InRange := by
  unfold State.closePoll
  split
  · exact h.withLine h.line.countSilent
  · split
    · exact h.withLine (h.line.takeFlags _)
    · exact (h.withLine (h.line.takeFlags _)).decideRequest _ _ _ _
    · exact h.withLine h.line.countSilent.countUpstreamError

theorem State.InRange.confirmFailed (h : s.InRange) (a : Fin 24) : (s.confirmFailed a).InRange := by
  unfold State.confirmFailed
  dsimp only
  split
  · exact h.withLine (h.line.updatePack id)
  · refine State.InRange.raisePack (h.withLine ?_) _
    exact { h.line.freePack a with joinFailures := count32_le _ }

theorem State.InRange.confirmed (h : s.InRange) (a : Fin 24) : (s.confirmed a).InRange := by
  have joined : (s.line.updatePack a fun p =>
      { Pack.freeWith { p.counters with answers := count32 p.counters.answers } with
        state := .present, serial := p.serial, presence := 127 }).InRange :=
    h.line.updatePack fun counted => { counted with answers := count32_le _ }
  refine State.InRange.raisePack (h.withLine ?_) _
  exact { joined with joins := count32_le _ }

theorem State.InRange.closeConfirm (h : s.InRange) (a : Fin 24) (heard : Option (List Byte)) : (s.closeConfirm a heard).InRange := by
  unfold State.closeConfirm
  split
  · exact (h.withLine h.line.countSilent).confirmFailed a
  · split
    · exact h.confirmed a
    · exact (h.withLine h.line.countSilent.countUpstreamError).confirmFailed a

theorem State.InRange.decreasePresence (h : s.InRange) : s.decreasePresence.InRange := by
  rw [State.decreasePresence_eq]
  split
  · exact (h.withLine h.line.decreased).raiseQueues _
  · exact h.withLine h.line.decreased

theorem State.InRange.closeGranted (h : s.InRange) (w : GrantWindow) (heard : Option (List Byte)) :
    (s.closeGranted w heard).InRange := by
  have ended {t : State} (k : t.InRange) : (t.decreasePresence.withLine { t.decreasePresence.line with window := none }).InRange :=
    k.decreasePresence.withLine { k.decreasePresence.line with }
  unfold State.closeGranted
  dsimp only
  split
  · exact ended h
  · split
    · exact ended (h.closeConfirm _ heard)
    · exact ended (h.closePoll _ heard)

theorem State.InRange.closeGrantedWindow (h : s.InRange) (heard : Option (List Byte)) : (s.closeGrantedWindow heard).InRange := by
  unfold State.closeGrantedWindow
  split
  · exact h
  · exact (h.closeAnnounce none).closeGranted _ heard

theorem State.InRange.closeWindows (h : s.InRange) : s.closeWindows.InRange := (h.closeAnnounce none).closeGrantedWindow none

end

end Sys2Proof.Machine
end

section
/-! The owners of the requests: which leave the click, the meter unit and every block with a counter, and what the others do to
them. -/

namespace Sys2Proof.Machine

/-! ## Owners that leave the click, the meter unit and the counters -/

/-- The blocks that hold a counter, the click and the meter unit. -/
def State.measured (s : State) : Link × Clock × Stage × PackLine × Click × Meter :=
  (s.link, s.clock, s.stage, s.line, s.click, s.meter)

theorem State.InRange.of_measured {s t : State} (h : s.InRange) (same : t.measured = s.measured) : t.InRange := by
  obtain ⟨link, clock, stage, line, click, meter⟩ := h
  simp only [State.measured, Prod.mk.injEq] at same
  obtain ⟨link', clock', stage', line', click', meter'⟩ := same
  exact ⟨link' ▸ link, clock' ▸ clock, stage' ▸ stage, line' ▸ line, click' ▸ click, meter' ▸ meter⟩

/-- An owner that keeps the ranges. -/
def Owner.KeepsRanges (take : Owner) : Prop := ∀ s : State, s.InRange → (take s).1.InRange

/-- An owner that touches no block with a counter, nor the click, nor the meter unit. -/
def Owner.LeavesMeasured (take : Owner) : Prop := ∀ s : State, (take s).1.measured = s.measured

theorem Owner.LeavesMeasured.keeps {take : Owner} (h : take.LeavesMeasured) : take.KeepsRanges :=
  fun s ranges => ranges.of_measured (h s)

theorem leavesMeasured_withBoundStream {index : Byte} {f : Fin 8 → Owner} (h : ∀ i, (f i).LeavesMeasured) :
    Owner.LeavesMeasured (withBoundStream index f) := by
  intro s
  unfold withBoundStream
  split
  · rfl
  · split
    · exact h _ s
    · rfl

theorem leavesMeasured_flushStream (index : Byte) : Owner.LeavesMeasured (flushStream index) :=
  leavesMeasured_withBoundStream fun _ _ => rfl

theorem leavesMeasured_queryStream (index : Byte) : Owner.LeavesMeasured (queryStream index) := by
  intro s
  unfold queryStream
  split <;> rfl

theorem leavesMeasured_bindSlot (slot stream channel polarity hold : Byte) :
    Owner.LeavesMeasured (bindSlot slot stream channel polarity hold) := by
  intro s
  unfold bindSlot
  repeat' split
  all_goals rfl

theorem leavesMeasured_setSlot (slot polarity hold : Byte) : Owner.LeavesMeasured (setSlot slot polarity hold) := by
  intro s
  unfold setSlot
  repeat' split
  all_goals rfl

theorem leavesMeasured_unbindSlot (slot : Byte) : Owner.LeavesMeasured (unbindSlot slot) := by
  intro s
  unfold unbindSlot
  repeat' split
  all_goals rfl

theorem leavesMeasured_querySlot (slot : Byte) : Owner.LeavesMeasured (querySlot slot) := by
  intro s
  unfold querySlot
  split <;> rfl

theorem leavesMeasured_mixSetLive (mix state kind master ceiling rel1 rel2 click : Byte) :
    Owner.LeavesMeasured (mixSetLive mix state kind master ceiling rel1 rel2 click) := by
  intro s
  unfold mixSetLive
  dsimp only
  repeat' split
  all_goals rfl

theorem leavesMeasured_addSendLive (mix slot level balance self mute : Byte) :
    Owner.LeavesMeasured (addSendLive mix slot level balance self mute) := by
  intro s
  unfold addSendLive
  dsimp only
  repeat' split
  all_goals rfl

theorem leavesMeasured_setSendLive (mix slot flags level balance self mute : Byte) :
    Owner.LeavesMeasured (setSendLive mix slot flags level balance self mute) := by
  intro s
  unfold setSendLive
  dsimp only
  repeat' split
  all_goals rfl

theorem leavesMeasured_removeSendLive (mix slot : Byte) : Owner.LeavesMeasured (removeSendLive mix slot) := by
  intro s
  unfold removeSendLive
  dsimp only
  repeat' split
  all_goals rfl

theorem leavesMeasured_queryMix (mix start : Byte) : Owner.LeavesMeasured (queryMix mix start) := by
  intro s
  unfold queryMix
  split <;> rfl

theorem leavesMeasured_queryPack (address : Byte) : Owner.LeavesMeasured (queryPack address) := by
  intro s
  unfold queryPack
  repeat' split
  all_goals rfl

/-! ## Owners of the Cue Controller -/

theorem leavesMeasured_withOpenCue {b : Fin 4} {f : CueWork → Owner} (h : ∀ w, (f w).LeavesMeasured) :
    Owner.LeavesMeasured (withOpenCue b f) := by
  intro s
  unfold withOpenCue
  split
  · rfl
  · split
    · rfl
    · exact h _ s

theorem leavesMeasured_withBank {bank : Byte} {f : Fin 4 → Owner} (h : ∀ b, (f b).LeavesMeasured) :
    Owner.LeavesMeasured (withBank bank f) := by
  intro s
  unfold withBank
  split
  · rfl
  · exact h _ s

theorem leavesMeasured_editTarget {target bank : Byte} {live : Owner} {cue : Fin 4 → Owner} (hl : live.LeavesMeasured)
    (hc : ∀ b, (cue b).LeavesMeasured) : Owner.LeavesMeasured (editTarget target bank live cue) := by
  unfold editTarget
  split
  · exact hl
  · split
    · split
      · exact hc _
      · exact fun _ => rfl
    · exact fun _ => rfl

theorem leavesMeasured_mixSetCue (b : Fin 4) (mix state kind master ceiling rel1 rel2 : Byte) :
    Owner.LeavesMeasured (mixSetCue b mix state kind master ceiling rel1 rel2) := by
  intro s
  unfold mixSetCue
  split
  · rfl
  · split
    · exact leavesMeasured_withOpenCue (fun _ _ => rfl) s
    · rfl

theorem leavesMeasured_addSendCue (b : Fin 4) (mix slot level balance self mute : Byte) :
    Owner.LeavesMeasured (addSendCue b mix slot level balance self mute) := by
  intro s
  unfold addSendCue
  split
  · split
    · refine leavesMeasured_withOpenCue (fun w s => ?_) s
      dsimp only
      repeat' split
      all_goals rfl
    · rfl
  · rfl

theorem leavesMeasured_setSendCue (b : Fin 4) (mix slot flags level balance self mute : Byte) :
    Owner.LeavesMeasured (setSendCue b mix slot flags level balance self mute) := by
  intro s
  unfold setSendCue
  split
  · split
    · rfl
    · refine leavesMeasured_withOpenCue (fun w s => ?_) s
      dsimp only
      split <;> rfl
  · rfl

theorem leavesMeasured_removeSendCue (b : Fin 4) (mix slot : Byte) : Owner.LeavesMeasured (removeSendCue b mix slot) := by
  intro s
  unfold removeSendCue
  split
  · refine leavesMeasured_withOpenCue (fun w s => ?_) s
    dsimp only
    split <;> rfl
  · rfl

theorem leavesMeasured_openCue (bank row : Byte) : Owner.LeavesMeasured (openCue bank row) := by
  intro s
  unfold openCue
  repeat' split
  all_goals rfl

theorem leavesMeasured_takeLive (bank m1 m2 : Byte) : Owner.LeavesMeasured (takeLive bank m1 m2) :=
  leavesMeasured_withBank fun _ => leavesMeasured_withOpenCue fun _ _ => rfl

theorem leavesMeasured_storeCue (bank : Byte) : Owner.LeavesMeasured (storeCue bank) :=
  leavesMeasured_withBank fun _ => leavesMeasured_withOpenCue fun _ _ => rfl

theorem leavesMeasured_closeCue (bank writeback : Byte) : Owner.LeavesMeasured (closeCue bank writeback) := by
  refine leavesMeasured_withBank fun b => ?_
  dsimp only
  split
  · exact fun _ => rfl
  · refine leavesMeasured_withOpenCue fun w s => ?_
    split <;> rfl

theorem State.applyCue_measured (s : State) (b : Fin 4) (w : CueWork) (mode : ApplyMode) (mask : MixMask) (m : ApplyAt) :
    (s.applyCue b w mode mask m).1.measured = s.measured := by
  have frame := State.applyCue_frame s b w mode mask m
  rw [State.measured, State.applyCue_link, frame.clock, frame.stage, frame.line, frame.click, frame.meter]
  rfl

theorem leavesMeasured_applyCueRequest (bank mode m1 m2 : Byte) : Owner.LeavesMeasured (applyCueRequest bank mode m1 m2) := by
  refine leavesMeasured_withBank fun b => ?_
  dsimp only
  split
  · exact fun _ => rfl
  · refine leavesMeasured_withOpenCue fun w s => ?_
    split
    · rfl
    · have same := State.applyCue_measured s b w .cut (mixMask m1 m2) .immediate
      generalize s.applyCue b w .cut (mixMask m1 m2) .immediate = made at same ⊢
      exact same

theorem leavesMeasured_queryCue (bank mix start : Byte) : Owner.LeavesMeasured (queryCue bank mix start) := by
  intro s
  unfold queryCue
  split <;> rfl

theorem leavesMeasured_queryScene (scene mix start : Byte) : Owner.LeavesMeasured (queryScene scene mix start) := by
  intro s
  unfold queryScene
  split <;> rfl

/-! ## Stream records (R41, R42, R44) -/

theorem keepsRanges_withBoundStream {index : Byte} {f : Fin 8 → Owner} (h : ∀ i, (f i).KeepsRanges) :
    Owner.KeepsRanges (withBoundStream index f) := by
  intro s ranges
  unfold withBoundStream
  split
  · exact ranges
  · split
    · exact h _ s ranges
    · exact ranges

theorem keepsRanges_bindStream (index a b c channels accept : Byte) :
    Owner.KeepsRanges (bindStream index a b c channels accept) := by
  intro s h
  unfold bindStream
  dsimp only
  repeat' split
  case h_2.isFalse => exact h.withStage (h.stage.setStream _ StreamCounters.inRange_zero)
  all_goals exact h

theorem keepsRanges_unbindStream (index : Byte) : Owner.KeepsRanges (unbindStream index) := by
  refine keepsRanges_withBoundStream fun i s h => ?_
  dsimp only
  split
  · exact h
  · have unbound := h.withStage (h.stage.setStream i (r := Stream.unbound) StreamCounters.inRange_zero)
    exact { unbound with }

theorem keepsRanges_setStream (index accept : Byte) : Owner.KeepsRanges (setStream index accept) := by
  refine keepsRanges_withBoundStream fun i s h => ?_
  dsimp only
  split
  · exact h
  · exact h.withStage (h.stage.setStream i (h.stage.streams i))

/-! ## The pack line (R96, R153 to R155) -/

theorem keepsRanges_setTrim (mix volume self others dim : Byte) : Owner.KeepsRanges (setTrim mix volume self others dim) := by
  intro s h
  unfold setTrim
  repeat' split
  case h_2 => exact { h with line := h.line.offerTrims _ _ }
  all_goals exact h

theorem keepsRanges_assignPack (address mix role : Byte) : Owner.KeepsRanges (assignPack address mix role) := by
  intro s h
  unfold assignPack
  dsimp only
  split
  · split
    · exact h
    · split
      · exact h
      · split
        · exact h
        · split
          · exact h
          · split
            · exact h.withLine ((h.line.updatePack id).enqueue _ _)
            · exact h.withLine ((h.line.updatePack id).enqueue _ _)
  · exact h

theorem keepsRanges_removePack (address : Byte) : Owner.KeepsRanges (removePack address) := by
  intro s h
  unfold removePack
  dsimp only
  repeat' split
  case h_2.isFalse.isTrue => exact h.withLine { h.line.freePack _ with removedUnsent := count32_le _ }
  case h_2.isFalse.isFalse => exact h.withLine ((h.line.freePack _).enqueue _ _)
  all_goals exact h

theorem keepsRanges_packText (address : Byte) (chars : List Byte) : Owner.KeepsRanges (packText address chars) := by
  intro s h
  unfold packText
  dsimp only
  repeat' split
  case h_2.isFalse.isFalse.isFalse => exact h.withLine (h.line.enqueue _ _)
  all_goals exact h

/-! ## The click and the meter unit (R191 to R193, R198) -/

theorem keepsRanges_clickRequest {f : Click → Click} (keeps : ∀ c : Click, c.InRange → (f c).InRange) :
    Owner.KeepsRanges (clickRequest f) := fun s h => { h with click := keeps s.click h.click }

theorem keepsRanges_clickSet (a b c d accent count : Byte) : Owner.KeepsRanges (clickSetOwner a b c d accent count) :=
  keepsRanges_clickRequest fun _ h =>
    h.setTo (clampNat_within (by decide) _) (clampNat_within (by decide) _) (clampNat_within (by decide) _).2

theorem keepsRanges_meterSet (meters a b : Byte) : Owner.KeepsRanges (meterSet meters a b) := by
  intro s h
  have range := clampNat_within (lo := 8) (hi := 1024) (by decide) (nat16 a b)
  unfold meterSet
  split
  · exact h
  · dsimp only
    split
    · exact { h with meter := h.meter.withPending range }
    · exact { h with meter := h.meter.fresh _ range }

/-! ## QUERY_COUNTERS (R208) -/

theorem State.InRange.clearGroup {s : State} (h : s.InRange) (g : Group) : (clearGroup s g).InRange := by
  have zero : 0 ≤ Config.top32 := Nat.zero_le _
  cases g with
  | link => exact h.withLink ⟨zero, zero, zero⟩
  | clock => exact h.withClock ⟨zero, zero, zero, zero, zero, zero, zero, zero⟩
  | stage => exact h.withStage ⟨h.stage.streams, zero, zero, zero⟩
  | stream i => exact h.withStage (h.stage.setStream i StreamCounters.inRange_zero)
  | slotMiss => exact { h with }
  | queue => exact h.withLine { h.line with queueAgedOut := zero, queueDropped := zero, trimsUnsent := zero, removedUnsent := zero }
  | line => exact h.withLine { h.line with
      joins := zero, joinFailures := zero, refusedJoins := zero, collisions := zero, announceStorms := zero
      upstreamErrors := zero, badRequests := zero }
  | pack a => exact h.withLine (h.line.setPack PackCounters.inRange_zero)

theorem keepsRanges_queryCounters (group index clear : Byte) : Owner.KeepsRanges (queryCounters group index clear) := by
  intro s h
  unfold queryCounters
  repeat' split
  case h_4.isTrue => exact h.clearGroup _
  all_goals exact h

/-! ## The link and the engine (R14, R17, R21 to R25) -/

theorem keepsRanges_noticeSet (cls setting : Byte) : Owner.KeepsRanges (noticeSet cls setting) := by
  intro s h
  unfold noticeSet
  split
  · exact h
  · rename_i set; exact h.withLink (h.link.noticeSet set)

theorem State.InRange.enterStopped {s : State} (h : s.InRange) : s.enterStopped.InRange where
  link := h.link
  clock := h.clock.stopped
  stage := h.stage
  line := { h.line with }
  click := h.click.stopped
  meter := h.meter

theorem keepsRanges_resetPart : Owner.KeepsRanges resetPart := by
  intro s h
  obtain ⟨_, _, _, _, click, meter⟩ := resetIsSound.inRange
  exact
    { link := { h.link.abortDeferred with }
      clock := h.clock.softReset
      stage := { h.stage with
        streams := fun i => by
          show ((Table.fill Stream.unbound : Table Stream 8).get i).counters.InRange
          rw [Table.get_fill]
          exact StreamCounters.inRange_zero }
      line := h.line.softReset
      click := click
      meter := meter }

theorem keepsRanges_setFormat (r1 r2 r3 r4 lag i1 i2 i3 : Byte) : Owner.KeepsRanges (setFormat r1 r2 r3 r4 lag i1 i2 i3) := by
  intro s h
  unfold setFormat
  dsimp only
  repeat' split
  case h_2.isFalse.isFalse.isFalse => exact State.InRange.enterStopped (h.withClock { h.clock with })
  all_goals exact h

theorem keepsRanges_startEngine : Owner.KeepsRanges startEngine := by
  intro s h
  unfold startEngine
  split
  case h_2 => exact h.withClock { h.clock with }
  all_goals exact h

theorem keepsRanges_stopEngine : Owner.KeepsRanges stopEngine := by
  intro s h
  unfold stopEngine
  split
  case h_3 => exact h.enterStopped
  all_goals exact h

/-! ## Every request row -/

theorem keepsRanges_zeroField {o : Owner} {f : List Byte} {take : Owner} (keeps : o.KeepsRanges) (h : zeroField o f = some take) :
    take.KeepsRanges := by
  rw [zeroField_eq] at h
  refine withFields_all 1 (fun z => ?_) h
  show Owner.KeepsRanges (if z = 0 then o else refuse .badValue)
  split
  · exact keeps
  · exact fun _ ranges => ranges

theorem keepsRanges_packTextOwner {f : List Byte} {take : Owner} (h : packTextOwner f = some take) : take.KeepsRanges := by
  rcases f with _ | ⟨address, _ | ⟨c, rest⟩⟩
  · cases h
  · cases h
  · simp only [packTextOwner, Option.ite_none_right_eq_some, Option.some.injEq] at h
    obtain ⟨_, rfl⟩ := h
    exact keepsRanges_packText _ _

/-- The owner of every request row keeps the ranges. -/
theorem requestOwner_keepsRanges {i : Instr} {take : Owner} (h : requestOwner i = some take) : take.KeepsRanges := by
  cases i with
  | ident | status => exact keepsRanges_zeroField (fun _ ranges => ranges) h
  | reset => exact keepsRanges_zeroField keepsRanges_resetPart h
  | noticeSet => exact withFields_all 2 keepsRanges_noticeSet h
  | format => exact withFields_all 8 keepsRanges_setFormat h
  | start => exact keepsRanges_zeroField keepsRanges_startEngine h
  | stop => exact keepsRanges_zeroField keepsRanges_stopEngine h
  | bindStream => exact withFields_all 6 keepsRanges_bindStream h
  | unbindStream => exact withFields_all 1 keepsRanges_unbindStream h
  | flushStream => exact withFields_all 1 (fun a => (leavesMeasured_flushStream a).keeps) h
  | setStream => exact withFields_all 2 keepsRanges_setStream h
  | queryStream => exact withFields_all 1 (fun a => (leavesMeasured_queryStream a).keeps) h
  | bindSlot => exact withFields_all 5 (fun a b c d e => (leavesMeasured_bindSlot a b c d e).keeps) h
  | setSlot => exact withFields_all 3 (fun a b c => (leavesMeasured_setSlot a b c).keeps) h
  | unbindSlot => exact withFields_all 1 (fun a => (leavesMeasured_unbindSlot a).keeps) h
  | querySlot => exact withFields_all 1 (fun a => (leavesMeasured_querySlot a).keeps) h
  | mixSetLive | mixSetCue =>
    exact withFields_all 10 (fun _ _ c d e f g h i j => (leavesMeasured_editTarget
      (leavesMeasured_mixSetLive c d e f g h i j) fun k => leavesMeasured_mixSetCue k c d e f g h i).keeps) h
  | addSendLive | addSendCue =>
    exact withFields_all 8 (fun _ _ c d e f g h => (leavesMeasured_editTarget
      (leavesMeasured_addSendLive c d e f g h) fun k => leavesMeasured_addSendCue k c d e f g h).keeps) h
  | setSendLive | setSendCue =>
    exact withFields_all 9 (fun _ _ c d e f g h i => (leavesMeasured_editTarget
      (leavesMeasured_setSendLive c d e f g h i) fun k => leavesMeasured_setSendCue k c d e f g h i).keeps) h
  | removeSendLive | removeSendCue =>
    exact withFields_all 4 (fun _ _ c d => (leavesMeasured_editTarget
      (leavesMeasured_removeSendLive c d) fun k => leavesMeasured_removeSendCue k c d).keeps) h
  | setTrim => exact withFields_all 5 keepsRanges_setTrim h
  | queryMix => exact withFields_all 2 (fun a b => (leavesMeasured_queryMix a b).keeps) h
  | openCue => exact withFields_all 2 (fun a b => (leavesMeasured_openCue a b).keeps) h
  | takeLive => exact withFields_all 3 (fun a b c => (leavesMeasured_takeLive a b c).keeps) h
  | storeCue => exact withFields_all 1 (fun a => (leavesMeasured_storeCue a).keeps) h
  | closeCue => exact withFields_all 2 (fun a b => (leavesMeasured_closeCue a b).keeps) h
  | applyCue => exact withFields_all 4 (fun a b c d => (leavesMeasured_applyCueRequest a b c d).keeps) h
  | queryCue => exact withFields_all 3 (fun a b c => (leavesMeasured_queryCue a b c).keeps) h
  | queryScene => exact withFields_all 3 (fun a b c => (leavesMeasured_queryScene a b c).keeps) h
  | assignPack => exact withFields_all 3 keepsRanges_assignPack h
  | removePack => exact withFields_all 1 keepsRanges_removePack h
  | packText => exact keepsRanges_packTextOwner h
  | queryPack => exact withFields_all 1 (fun a => (leavesMeasured_queryPack a).keeps) h
  | clickSet => exact withFields_all 6 keepsRanges_clickSet h
  | clickStart => exact keepsRanges_zeroField (keepsRanges_clickRequest fun _ c => c.started) h
  | clickStop => exact keepsRanges_zeroField (keepsRanges_clickRequest fun _ c => c.stopRequested) h
  | meterSet => exact withFields_all 3 keepsRanges_meterSet h
  | queryCounters => exact withFields_all 3 keepsRanges_queryCounters h
  | powerOn | linkByteReceived | interByteGapExpiry | unknownKindRequest | transmitEnd | syncFrame | audioFrame
  | malformedStageFrame | syncWatchExpiry | holdoverTimerExpiry | announceWindowClose | grantedWindowClose
  | upstreamSignalAfterIdle => cases h

end Sys2Proof.Machine
end

section
/-! Every step keeps the click, the meter unit and the counters in range: requests, boundaries, stage frames and every other
command. -/

namespace Sys2Proof.Machine

section
variable {s : State}

/-! ## Requests -/

theorem State.InRange.reply (h : s.InRange) (code : ReplyCode) (kind tag : Byte) (fields : List Byte) :
    (s.reply code kind tag fields).InRange := h.withLink (h.link.pushReply _)

/-- A deferral marks the clock or a cue slot (R8). -/
theorem State.InRange.markDeferred (h : s.InRange) (job : DeferredJob) : (s.markDeferred job).InRange := by
  cases job with
  | stop => exact h.withClock { h.clock with }
  | apply => exact { h with }

theorem State.InRange.deferRequest (h : s.InRange) (kind tag : Byte) (job : DeferredJob) : (s.deferRequest kind tag job).InRange := by
  unfold State.deferRequest
  split
  · exact h.reply _ _ _ _
  · split
    · exact h.reply _ _ _ _
    · split
      · exact h.reply _ _ _ _
      · have listed : (s.withLink { s.link with deferred := s.link.deferred ++ [{ tag := tag, job := job }] }).InRange :=
          h.withLink { h.link with }
        exact (listed.markDeferred job).reply _ _ _ _

theorem State.InRange.answer (h : s.InRange) (kind tag : Byte) (a : Answer) : (s.answer kind tag a).InRange := by
  cases a with
  | done | data | retry | fail => exact h.reply _ _ _ _
  | wouldDefer job => exact h.deferRequest kind tag job

theorem State.InRange.overrun (h : s.InRange) : (s.withLink { s.link with overrun := count32 s.link.overrun }).InRange :=
  h.withLink { h.link with overrun := count32_le _ }

theorem State.InRange.takeRequest {o : Option Owner} (h : s.InRange) (keeps : ∀ take, o = some take → take.KeepsRanges)
    (kind tag : Byte) : (takeRequest kind tag o s).InRange := by
  rcases takeRequest_cases kind tag o s with full | ⟨e, refused⟩ | ⟨take, owner, _, decided⟩
  · rw [full]; exact h.overrun
  · rw [refused]; exact h.reply _ _ _ _
  · rw [decided]; exact (keeps take owner s h).answer _ _ _

/-- A request row, of a known or an unknown kind. -/
theorem State.InRange.request {t : State} (h : s.InRange) {i : Instr} {kind : Byte} (hk : kindOf i = some kind)
    (run : exec i s = .next t) : t.InRange := by
  obtain ⟨tag, unknown | known⟩ := exec_request_cases hk s
  · cases unknown.symm.trans run
    unfold takeUnknownKind
    split
    · exact h.overrun
    · exact h.reply _ _ _ _
  · cases known.symm.trans run
    exact h.takeRequest (fun take own => requestOwner_keepsRanges own) kind tag

/-- A link in which a frame may have been discarded (R2). -/
theorem Link.InRange.discarded {l l' : Link} (h : l.InRange) (either : l' = l ∨ l' = l.discardFrame) : l'.InRange := by
  rcases either with rfl | rfl
  · exact h
  · exact h.discardFrame

/-- A received byte is taken, discarded, or completes a request. -/
theorem State.InRange.byte {t : State} (h : s.InRange) {time : Time} {b : Byte} (run : exec (.linkByteReceived time b) s = .next t) :
    t.InRange := by
  have settled : (s.link.settleGap time).InRange := h.link.discarded (s.link.settleGap_cases time)
  cases event : (s.link.settleGap time).rx.receive time b with
  | mk rx e =>
    have received : (s.withLink { s.link.settleGap time with rx := rx }).InRange := h.withLink { settled with }
    cases e with
    | taken => cases (exec_byte_taken event).symm.trans run; exact received
    | discarded =>
      cases (exec_byte_discarded event).symm.trans run
      exact h.withLink { settled with linkErrors := count32_le _ }
    | complete body =>
      have decoded := (exec_byte_complete event).symm.trans run
      rcases State.takeBody_eq (s.withLink { s.link.settleGap time with rx := rx }) body with ⟨i, kind, hk, eq⟩ | eq
      · exact received.request hk (eq.symm.trans decoded)
      · cases eq.symm.trans decoded; exact received

/-! ## Boundaries -/

theorem State.InRange.completeEntry (h : s.InRange) (m : BlockNo) (d : Deferred) : (s.completeEntry m d).InRange := by
  obtain ⟨o, link⟩ := State.completeEntry_link s m d
  have frame := State.completeEntry_frame s m d
  have completed := h.withLink (h.link.complete d o)
  refine completed.of_measured ?_
  rw [State.measured, link, frame.clock, frame.stage, frame.line, frame.click, frame.meter]
  rfl

theorem State.InRange.completeDeferred (h : s.InRange) (m : BlockNo) : (s.completeDeferred m).InRange :=
  (State.completeDeferred_induction m (fun _ d _ _ ranges => ranges.completeEntry m d) s h).1

/-- The mixing of a block: a frame on the line, sixteen periods of the click, and a boundary of the meter interval. -/
theorem State.InRange.mixBlock (h : s.InRange) (before : State) (n : BlockNo) : (s.mixBlock before n).InRange := by
  obtain ⟨clock, stage, _, _, _, click, _, line⟩ := State.mixBlock_fields s before n
  obtain ⟨_, _, meter⟩ := State.mixBlock_interval s before n
  exact
    { link := h.link.raised (State.mixBlock_raises s before n)
      clock := clock ▸ h.clock
      stage := stage ▸ h.stage
      line := line ▸ h.line.sendFrame n _
      click := click ▸ h.click.ticks 16
      meter := meter ▸ h.meter.boundary _ }

theorem State.InRange.mixingBoundary (h : s.InRange) {c : Clock} (clock : c.InRange) (n : BlockNo) (relocked : Bool) :
    (s.mixingBoundary c n relocked).InRange := by
  have closed := h.closeWindows.withClock clock
  have marked (ring : Ring) : ((s.closeWindows.withClock c).withRing ring).InRange := { closed with }
  exact ((marked _).completeDeferred n).mixBlock s n

theorem State.InRange.stoppingBoundary (h : s.InRange) (t : Time) (bySync : Bool) : (s.stoppingBoundary t bySync).InRange := by
  have closed := h.closeWindows
  have clock : ({ s.closeWindows.clock with
      lastBoundary := some t
      syncBoundaries := if bySync then count32 s.closeWindows.clock.syncBoundaries else s.closeWindows.clock.syncBoundaries } :
        Clock).InRange := { closed.clock with syncBoundaries := ite_count32_le closed.clock.syncBoundaries }
  exact ((closed.withClock clock).completeDeferred _).enterStopped

/-! ## Sync frames and expiries -/

theorem State.InRange.syncBoundary (h : s.InRange) (f : Format) (t : Time) (block : BlockNo) : (s.syncBoundary f t block).InRange := by
  unfold State.syncBoundary
  dsimp only
  split
  · exact h.stoppingBoundary t true
  · split
    · exact h.mixingBoundary (h.clock.afterSync f t _) _ _
    · exact h.mixingBoundary (h.clock.afterRelock f t _ _) _ _

theorem State.InRange.ownSync (h : s.InRange) (f : Format) (t : Time) (block : BlockNo) : (s.ownSync f t block).InRange := by
  unfold State.ownSync
  split
  case h_1 => exact h.mixingBoundary (h.clock.afterSync f t _) _ _
  case h_2 =>
    split
    · exact h.withClock { h.clock with earlySyncs := count32_le _ }
    · exact h.syncBoundary f t block
  case h_3 =>
    split
    · exact { h.withClock (h.clock.afterRealign f block) with }
    · exact h.syncBoundary f t block
  case h_4 => exact h
  case h_5 => exact h

theorem State.InRange.takeSync (h : s.InRange) (t : Time) (id : StreamId) (block : BlockNo) : (s.takeSync t id block).InRange := by
  have foreign : (s.withClock { s.clock with foreignSyncs := count32 s.clock.foreignSyncs }).InRange :=
    h.withClock { h.clock with foreignSyncs := count32_le _ }
  unfold State.takeSync
  split
  · exact h.withClock { h.clock with idleSyncs := count32_le _ }
  · split
    · exact foreign
    · split
      · exact h.ownSync _ t block
      · exact foreign

theorem State.InRange.timerExpiry (h : s.InRange) (e : EngineState) : (s.timerExpiry e).InRange := by
  unfold State.timerExpiry
  split
  · split
    · unfold State.expire
      split
      · exact h.stoppingBoundary _ false
      · exact h.mixingBoundary (h.clock.afterExpiry _ _) _ _
    · exact h
  · exact h

/-! ## Stage frames (R38, R46 to R53) -/

theorem State.InRange.countIn (h : s.InRange) (i : Fin 8) {f : StreamCounters → StreamCounters}
    (counted : (s.stage.streams.get i).counters.InRange → (f (s.stage.streams.get i).counters).InRange) :
    (s.withStage (s.stage.countIn i f)).InRange := h.withStage (h.stage.countIn i counted)

theorem State.InRange.windowAndStore (h : s.InRange) (i : Fin 8) (r : Stream) (damaged : Bool) (f : List Byte) :
    (s.windowAndStore i r damaged f).InRange := by
  unfold State.windowAndStore
  dsimp only
  split
  · exact h.countIn i fun counted => { counted with late := count32_le _ }
  · split
    · exact h.countIn i fun counted => { counted with ahead := count32_le _ }
    · split
      · exact h.countIn i fun counted => { counted with duplicate := count32_le _ }
      · split
        · have rejected := h.countIn i (f := fun c => { c with fullRejected := count32 c.fullRejected })
            fun counted => { counted with fullRejected := count32_le _ }
          exact { rejected with }
        · have counted := h.stage.streams i
          exact { h with
            stage := h.stage.setStream i
              { counted with stored := count32_le _, damagedKept := ite_count32_le counted.damagedKept } }

theorem State.InRange.takeAudio (h : s.InRange) (f : List Byte) : (s.takeAudio f).InRange := by
  unfold State.takeAudio
  split
  · exact h.withStage { h.stage with unmatched := count32_le _ }
  · dsimp only
    split
    · exact h.countIn _ fun counted => { counted with idleDiscarded := count32_le _ }
    · split
      · exact h.countIn _ fun counted => { counted with formatRejected := count32_le _ }
      · split
        · exact h.countIn _ fun counted => { counted with damagedDropped := count32_le _ }
        · exact h.windowAndStore _ _ _ f

theorem State.InRange.stageFrame (h : s.InRange) (t : Time) (f : List Byte) : (s.stageFrame t f).InRange := by
  have malformed : (s.withStage { s.stage with malformed := count32 s.stage.malformed }).InRange :=
    h.withStage { h.stage with malformed := count32_le _ }
  unfold State.stageFrame
  split
  · exact malformed
  · split
    · exact h.takeAudio f
    · split
      · split
        · exact h.takeSync _ _ _
        · exact h.withStage { h.stage with syncRejected := count32_le _ }
      · exact malformed

/-! ## Every command -/

theorem State.InRange.signalAfterIdle {t : State} (h : s.InRange) (run : exec .upstreamSignalAfterIdle s = .next t) : t.InRange := by
  change execUpstreamSignalAfterIdle s = .next t at run
  unfold execUpstreamSignalAfterIdle at run
  cases run
  split
  · exact h.withLine h.line.countUpstreamError
  · exact h

theorem exec_keeps_ranges {c : Instr} {t : State} (h : s.InRange) (run : exec c s = .next t) : t.InRange := by
  cases kind : kindOf c with
  | some k => exact h.request kind run
  | none =>
    cases c
    case powerOn => cases run; exact resetIsSound.inRange.of_measured rfl
    case linkByteReceived => exact h.byte run
    case interByteGapExpiry => cases run; exact h.withLink (h.link.discarded s.link.gapExpiry_cases)
    case transmitEnd => cases run; exact h.withLink h.link.endTx
    case syncFrame | audioFrame | malformedStageFrame => cases run; exact h.stageFrame _ _
    case syncWatchExpiry | holdoverTimerExpiry => cases run; exact h.timerExpiry _
    case announceWindowClose heard => cases run; exact h.closeAnnounce heard
    case grantedWindowClose heard => cases run; exact h.closeGrantedWindow heard
    case upstreamSignalAfterIdle => exact h.signalAfterIdle run
    all_goals cases kind

end

/-- Settles O60: a step idles or carries out the command at the front, and every command keeps the ranges. The misses of the slots
are part of what every step keeps of the slots (`stepKeepsRingAndSlots`). -/
theorem stepKeepsClickAndCounters : Obligations.StepKeepsClickAndCounters := by
  unfold Obligations.StepKeepsClickAndCounters
  intro s t sound run
  have after : t.InRange := by
    unfold step at run
    split at run
    · cases run; exact sound.inRange
    · rename_i rest _
      exact exec_keeps_ranges (s := s.withPending rest) (sound.inRange.of_measured rfl) run
  obtain ⟨_, _, slots⟩ := stepKeepsRingAndSlots s t sound run
  have misses : ∀ k ∈ t.slots.list, k.misses ≤ 65535 := fun k mem => (slots k mem).1.1
  exact ⟨Click.sound_iff.mpr after.click, after.meter,
    State.countersSound_iff.mpr ⟨⟨after.link, after.clock, after.stage, after.line⟩, misses⟩⟩

end Sys2Proof.Machine
end

section
/-! METER_SET by whether it changes the meters (R198, R200), and QUERY_COUNTERS: its tests in order, and a group read and cleared
(R207, R208). -/

namespace Sys2Proof.Machine

/-! ## METER_SET (R198) -/

theorem meterReply_of_flag {meters : Byte} (good : meters.toNat ≤ 1) {m : Meter} (on : m.on = decide (meters = 1)) :
    meterReply m = [meters] ++ be2 m.interval ++ optional 2 be2 m.pendingInterval ++ be2 m.countdown := by
  rw [meterReply, on, yesNo_flag good]

section
variable {meters : Byte} {s : State}

theorem meterSet_badValue (bad : 2 ≤ meters.toNat) (a b : Byte) : meterSet meters a b s = (s, .fail .badValue) := by
  simp only [meterSet, flag?_of_ge bad]

theorem meterSet_changed (good : meters.toNat ≤ 1) (changed : s.meter.on ≠ decide (meters = 1)) (a b : Byte) :
    meterSet meters a b s =
      let interval := clampNat 8 1024 (nat16 a b)
      (((s.withMeter (s.meter.fresh (decide (meters = 1)) interval)).withSlots (clearPeaks s.slots)).withLimiters
        (clearMeters s.limiters), .done ([meters] ++ be2 interval ++ [1, 0, 0] ++ be2 interval)) := by
  simp only [meterSet, flag?_of_le good, if_neg changed.symm]
  rw [meterReply_of_flag good rfl]
  rfl

theorem meterSet_kept (good : meters.toNat ≤ 1) (same : s.meter.on = decide (meters = 1)) (a b : Byte) :
    meterSet meters a b s =
      let interval := clampNat 8 1024 (nat16 a b)
      (s.withMeter { s.meter with pendingInterval := some interval },
        .done ([meters] ++ be2 s.meter.interval ++ [0] ++ be2 interval ++ be2 s.meter.countdown)) := by
  simp only [meterSet, flag?_of_le good, if_pos same.symm]
  exact congrArg (fun fields => (_, Answer.done fields)) (meterReply_of_flag good same)

theorem clearPeaks_get (slots : Table Slot 48) (i : Fin 48) : (clearPeaks slots).get i = { slots.get i with peak := 0 } :=
  Table.get_map _ _ i

theorem clearMeters_get (limiters : Table Limiter 16) (i : Fin 16) :
    (clearMeters limiters).get i = { limiters.get i with peak := 0, lowest := 65536 } := Table.get_map _ _ i

end

/-! ## The group that a request names (R207) -/

theorem group?_badValue {group : Byte} (h : group = 0 ∨ 9 ≤ group.toNat) (index : Byte) :
    group? group index = .error .badValue := by
  have outside : group.toNat = 0 ∨ 9 ≤ group.toNat := h.imp_left (congrArg BitVec.toNat)
  unfold group?
  generalize group.toNat = n at outside
  split
  case h_9 => rfl
  all_goals omega

theorem group?_badIndex {group index : Byte}
    (h : (group = 4 ∧ 8 ≤ index.toNat) ∨ (group = 8 ∧ (index = 0 ∨ 25 ≤ index.toNat))) :
    group? group index = .error .badIndex := by
  unfold group?
  rcases h with ⟨rfl, noStream⟩ | ⟨rfl, noPack⟩
  · rw [index?_of_ge noStream]; rfl
  · rw [address?_of_none noPack]; rfl

/-! ## A group cleared (R208) -/

theorem zeroCounters_be4 (n : Nat) : ∀ x ∈ (List.replicate n 0).flatMap be4, x = 0 := by
  intro x mem
  obtain ⟨count, listed, inBytes⟩ := List.mem_flatMap.mp mem
  rw [List.eq_of_mem_replicate listed] at inBytes
  exact List.eq_of_mem_replicate (n := 4) inBytes

/-- A cleared group reads as zeros: each of its counters stands in the reply, and each is cleared. -/
theorem groupBytes_clearGroup (s : State) (g : Group) : ∀ x ∈ groupBytes (clearGroup s g) g, x = 0 := by
  cases g with
  | link => exact zeroCounters_be4 3
  | clock => exact zeroCounters_be4 8
  | stage => exact zeroCounters_be4 3
  | queue => exact zeroCounters_be4 4
  | line => exact zeroCounters_be4 7
  | stream i =>
    have cleared : ((clearGroup s (.stream i)).stage.streams.get i).counters = .zero :=
      congrArg Stream.counters (Table.get_set_same _ _ _)
    simp only [groupBytes, cleared]
    exact zeroCounters_be4 9
  | pack a =>
    have cleared : ((clearGroup s (.pack a)).line.packs.get a).counters = .zero :=
      congrArg Pack.counters (Table.get_set_same _ _ _)
    simp only [groupBytes, cleared]
    exact zeroCounters_be4 7
  | slotMiss =>
    intro x mem
    obtain ⟨k, listed, inBytes⟩ := List.mem_flatMap.mp mem
    obtain ⟨_, _, rfl⟩ := List.mem_map.mp listed
    have zero : x ∈ be2 0 := inBytes
    exact List.eq_of_mem_replicate (n := 2) zero

/-- A clear touches the link, the clock, the stage receiver, the slots or the pack line, and no other block. -/
theorem clearGroup_unchanged (s : State) (g : Group) :
    (clearGroup s g).mixes = s.mixes ∧ (clearGroup s g).limiters = s.limiters ∧ (clearGroup s g).ring = s.ring
      ∧ (clearGroup s g).cues = s.cues ∧ (clearGroup s g).click = s.click ∧ (clearGroup s g).meter = s.meter := by
  cases g <;> exact ⟨rfl, rfl, rfl, rfl, rfl, rfl⟩

/-! ## QUERY_COUNTERS (R207) -/

section
variable {group index clear : Byte} {s : State}

theorem queryCounters_badValue (h : group? group index = .error .badValue ∨ 2 ≤ clear.toNat) :
    queryCounters group index clear s = (s, .fail .badValue) := by
  unfold queryCounters
  rcases h with unnamed | bad
  · rw [unnamed]
  · rw [flag?_of_ge bad]
    split
    case h_1 | h_2 => rfl
    all_goals contradiction

theorem queryCounters_badIndex (bad : group? group index = .error .badIndex) (good : clear.toNat ≤ 1) :
    queryCounters group index clear s = (s, .fail .badIndex) := by
  simp only [queryCounters, bad, flag?_of_le good]

theorem queryCounters_read {g : Group} (named : group? group index = .ok g) :
    queryCounters group index 0 s = (s, .data ([group, index, 0] ++ groupBytes s g)) := by
  rw [queryCounters, named]; rfl

theorem queryCounters_clear {g : Group} (named : group? group index = .ok g) :
    queryCounters group index 1 s = (clearGroup s g, .data ([group, index, 1] ++ groupBytes s g)) := by
  rw [queryCounters, named]; rfl

end

/-! ## The statement -/

/-- Settles O51: METER_SET by its value and whether the meters change, QUERY_COUNTERS by its tests and its clear flag. -/
theorem meterAndCounterRequests : Obligations.MeterAndCounterRequests := by
  unfold Obligations.MeterAndCounterRequests
  constructor
  · intro s tag meters i1 i2 admits
    have sets : ∀ {t a}, meterSet meters i1 i2 s = (t, a) →
        exec (.meterSet tag [meters, i1, i2]) s = .next (t.answer 0x60 tag a) := exec_answer rfl rfl rfl admits
    refine ⟨fun bad => sets (meterSet_badValue bad i1 i2), fun good changed => ?_, fun good same => ?_⟩
    · exact ⟨_, sets (meterSet_changed good changed i1 i2), rfl, Table.get_fill false, clearPeaks_get s.slots,
        clearMeters_get s.limiters, rfl⟩
    · exact sets (meterSet_kept good same i1 i2)
  · intro s tag group index clear admits
    have queries : ∀ {t a}, queryCounters group index clear s = (t, a) →
        exec (.queryCounters tag [group, index, clear]) s = .next (t.answer 0x61 tag a) := exec_answer rfl rfl rfl admits
    refine ⟨fun bad => queries (queryCounters_badValue ?_), fun good bad => ?_, fun g named => ⟨?_, ?_⟩⟩
    · exact (or_assoc.mpr bad).imp_left fun outside => group?_badValue outside index
    · exact queries (queryCounters_badIndex (group?_badIndex bad) good)
    · rintro rfl
      exact queries (queryCounters_read named)
    · rintro rfl
      exact ⟨queries (queryCounters_clear named), groupBytes_clearGroup s g, clearGroup_unchanged s g⟩

end Sys2Proof.Machine
end

section
/-! The queue of waiting commands: a step takes the command at its front, and no command touches what waits (log 3). -/

namespace Sys2Proof.Machine

/-! ## A step -/

theorem step_idle {s : State} (empty : s.pending = []) : step s = .next s := by rw [step, empty]

theorem step_withPending_cons (c : Instr) (rest : List Instr) (s : State) :
    step (s.withPending (c :: rest)) = exec c (s.withPending rest) := by
  simp only [step, State.withPending_pending, State.withPending_withPending]

/-- Settles O1: with a command at the front the step is that command's, with an empty queue it idles. -/
theorem stepTakesFront : Obligations.StepTakesFront := ⟨step_withPending_cons, fun _ => step_idle⟩

/-! ## Owners: the combinators -/

/-- An owner that leaves the waiting commands as they are. -/
def Owner.KeepsQueue (take : Owner) : Prop := ∀ s : State, (take s).1.pending = s.pending

theorem keepsQueue_refuse (e : ErrorCode) : Owner.KeepsQueue (refuse e) := fun _ => rfl

theorem keepsQueue_withBoundStream {index : Byte} {f : Fin 8 → Owner} (h : ∀ i, (f i).KeepsQueue) :
    Owner.KeepsQueue (withBoundStream index f) := by
  intro s
  unfold withBoundStream
  split
  · rfl
  · split
    · exact h _ s
    · rfl

theorem keepsQueue_withOpenCue {b : Fin 4} {f : CueWork → Owner} (h : ∀ w, (f w).KeepsQueue) :
    Owner.KeepsQueue (withOpenCue b f) := by
  intro s
  unfold withOpenCue
  split
  · rfl
  · split
    · rfl
    · exact h _ s

theorem keepsQueue_withBank {bank : Byte} {f : Fin 4 → Owner} (h : ∀ b, (f b).KeepsQueue) :
    Owner.KeepsQueue (withBank bank f) := by
  intro s
  unfold withBank
  split
  · rfl
  · exact h _ s

theorem keepsQueue_editTarget {target bank : Byte} {live : Owner} {cue : Fin 4 → Owner} (hl : live.KeepsQueue)
    (hc : ∀ b, (cue b).KeepsQueue) : Owner.KeepsQueue (editTarget target bank live cue) := by
  unfold editTarget
  split
  · exact hl
  · split
    · split
      · exact hc _
      · exact keepsQueue_refuse _
    · exact keepsQueue_refuse _

theorem keepsQueue_zeroField {o : Owner} {f : List Byte} {take : Owner} (keeps : o.KeepsQueue) (h : zeroField o f = some take) :
    take.KeepsQueue := by
  rw [zeroField_eq] at h
  refine withFields_all 1 (fun z => ?_) h
  show Owner.KeepsQueue (if z = 0 then o else refuse .badValue)
  split
  · exact keeps
  · exact keepsQueue_refuse _

/-! ## Owners of link, engine, streams and slots -/

theorem keepsQueue_noticeSet (cls setting : Byte) : Owner.KeepsQueue (noticeSet cls setting) := by
  intro s
  unfold noticeSet
  split <;> rfl

theorem keepsQueue_setFormat (r1 r2 r3 r4 lag i1 i2 i3 : Byte) : Owner.KeepsQueue (setFormat r1 r2 r3 r4 lag i1 i2 i3) := by
  intro s
  unfold setFormat
  dsimp only
  repeat' split
  all_goals rfl

theorem keepsQueue_startEngine : Owner.KeepsQueue startEngine := by
  intro s
  unfold startEngine
  split <;> rfl

theorem keepsQueue_stopEngine : Owner.KeepsQueue stopEngine := by
  intro s
  unfold stopEngine
  split <;> rfl

theorem keepsQueue_bindStream (index a b c channels accept : Byte) :
    Owner.KeepsQueue (bindStream index a b c channels accept) := by
  intro s
  unfold bindStream
  dsimp only
  repeat' split
  all_goals rfl

theorem keepsQueue_unbindStream (index : Byte) : Owner.KeepsQueue (unbindStream index) :=
  keepsQueue_withBoundStream fun i s => by dsimp only; split <;> rfl

theorem keepsQueue_flushStream (index : Byte) : Owner.KeepsQueue (flushStream index) :=
  keepsQueue_withBoundStream fun _ _ => rfl

theorem keepsQueue_setStream (index accept : Byte) : Owner.KeepsQueue (setStream index accept) :=
  keepsQueue_withBoundStream fun i s => by dsimp only; split <;> rfl

theorem keepsQueue_queryStream (index : Byte) : Owner.KeepsQueue (queryStream index) := by
  intro s
  unfold queryStream
  split <;> rfl

theorem keepsQueue_bindSlot (slot stream channel polarity hold : Byte) :
    Owner.KeepsQueue (bindSlot slot stream channel polarity hold) := by
  intro s
  unfold bindSlot
  repeat' split
  all_goals rfl

theorem keepsQueue_setSlot (slot polarity hold : Byte) : Owner.KeepsQueue (setSlot slot polarity hold) := by
  intro s
  unfold setSlot
  repeat' split
  all_goals rfl

theorem keepsQueue_unbindSlot (slot : Byte) : Owner.KeepsQueue (unbindSlot slot) := by
  intro s
  unfold unbindSlot
  repeat' split
  all_goals rfl

theorem keepsQueue_querySlot (slot : Byte) : Owner.KeepsQueue (querySlot slot) := by
  intro s
  unfold querySlot
  split <;> rfl

/-! ## Owners of live mixes, packs and meters -/

theorem keepsQueue_mixSetLive (mix state kind master ceiling rel1 rel2 click : Byte) :
    Owner.KeepsQueue (mixSetLive mix state kind master ceiling rel1 rel2 click) := by
  intro s
  unfold mixSetLive
  dsimp only
  repeat' split
  all_goals rfl

theorem keepsQueue_addSendLive (mix slot level balance self mute : Byte) :
    Owner.KeepsQueue (addSendLive mix slot level balance self mute) := by
  intro s
  unfold addSendLive
  dsimp only
  repeat' split
  all_goals rfl

theorem keepsQueue_setSendLive (mix slot flags level balance self mute : Byte) :
    Owner.KeepsQueue (setSendLive mix slot flags level balance self mute) := by
  intro s
  unfold setSendLive
  dsimp only
  repeat' split
  all_goals rfl

theorem keepsQueue_removeSendLive (mix slot : Byte) : Owner.KeepsQueue (removeSendLive mix slot) := by
  intro s
  unfold removeSendLive
  dsimp only
  repeat' split
  all_goals rfl

theorem keepsQueue_setTrim (mix volume self others dim : Byte) : Owner.KeepsQueue (setTrim mix volume self others dim) := by
  intro s
  unfold setTrim
  repeat' split
  all_goals rfl

theorem keepsQueue_queryMix (mix start : Byte) : Owner.KeepsQueue (queryMix mix start) := by
  intro s
  unfold queryMix
  split <;> rfl

theorem keepsQueue_assignPack (address mix role : Byte) : Owner.KeepsQueue (assignPack address mix role) := by
  intro s
  unfold assignPack
  dsimp only
  repeat' split
  all_goals rfl

theorem keepsQueue_removePack (address : Byte) : Owner.KeepsQueue (removePack address) := by
  intro s
  unfold removePack
  dsimp only
  repeat' split
  all_goals rfl

theorem keepsQueue_packText (address : Byte) (chars : List Byte) : Owner.KeepsQueue (packText address chars) := by
  intro s
  unfold packText
  dsimp only
  repeat' split
  all_goals rfl

theorem keepsQueue_packTextOwner {f : List Byte} {take : Owner} (h : packTextOwner f = some take) : take.KeepsQueue := by
  rcases f with _ | ⟨address, _ | ⟨c, rest⟩⟩
  · cases h
  · cases h
  · simp only [packTextOwner, Option.ite_none_right_eq_some, Option.some.injEq] at h
    obtain ⟨_, rfl⟩ := h
    exact keepsQueue_packText _ _

theorem keepsQueue_queryPack (address : Byte) : Owner.KeepsQueue (queryPack address) := by
  intro s
  unfold queryPack
  repeat' split
  all_goals rfl

theorem keepsQueue_clickRequest (f : Click → Click) : Owner.KeepsQueue (clickRequest f) := fun _ => rfl

theorem keepsQueue_meterSet (meters a b : Byte) : Owner.KeepsQueue (meterSet meters a b) := by
  intro s
  unfold meterSet
  dsimp only
  repeat' split
  all_goals rfl

theorem clearGroup_pending (s : State) (g : Group) : (clearGroup s g).pending = s.pending := by cases g <;> rfl

theorem keepsQueue_queryCounters (group index clear : Byte) : Owner.KeepsQueue (queryCounters group index clear) := by
  intro s
  unfold queryCounters
  repeat' split
  case h_4.isTrue => exact clearGroup_pending s _
  all_goals rfl

/-! ## Owners of the Cue Controller -/

theorem keepsQueue_mixSetCue (b : Fin 4) (mix state kind master ceiling rel1 rel2 : Byte) :
    Owner.KeepsQueue (mixSetCue b mix state kind master ceiling rel1 rel2) := by
  intro s
  unfold mixSetCue
  split
  · rfl
  · split
    · exact keepsQueue_withOpenCue (fun _ _ => rfl) s
    · rfl

theorem keepsQueue_addSendCue (b : Fin 4) (mix slot level balance self mute : Byte) :
    Owner.KeepsQueue (addSendCue b mix slot level balance self mute) := by
  intro s
  unfold addSendCue
  split
  · split
    · refine keepsQueue_withOpenCue (fun w s => ?_) s
      dsimp only
      repeat' split
      all_goals rfl
    · rfl
  · rfl

theorem keepsQueue_setSendCue (b : Fin 4) (mix slot flags level balance self mute : Byte) :
    Owner.KeepsQueue (setSendCue b mix slot flags level balance self mute) := by
  intro s
  unfold setSendCue
  split
  · split
    · rfl
    · refine keepsQueue_withOpenCue (fun w s => ?_) s
      dsimp only
      split <;> rfl
  · rfl

theorem keepsQueue_removeSendCue (b : Fin 4) (mix slot : Byte) : Owner.KeepsQueue (removeSendCue b mix slot) := by
  intro s
  unfold removeSendCue
  split
  · refine keepsQueue_withOpenCue (fun w s => ?_) s
    dsimp only
    split <;> rfl
  · rfl

theorem keepsQueue_openCue (bank row : Byte) : Owner.KeepsQueue (openCue bank row) := by
  intro s
  unfold openCue
  repeat' split
  all_goals rfl

theorem keepsQueue_takeLive (bank m1 m2 : Byte) : Owner.KeepsQueue (takeLive bank m1 m2) :=
  keepsQueue_withBank fun _ => keepsQueue_withOpenCue fun _ _ => rfl

theorem keepsQueue_storeCue (bank : Byte) : Owner.KeepsQueue (storeCue bank) :=
  keepsQueue_withBank fun _ => keepsQueue_withOpenCue fun _ _ => rfl

theorem keepsQueue_closeCue (bank writeback : Byte) : Owner.KeepsQueue (closeCue bank writeback) := by
  refine keepsQueue_withBank fun b => ?_
  dsimp only
  split
  · exact fun _ => rfl
  · refine keepsQueue_withOpenCue fun w s => ?_
    split <;> rfl

theorem keepsQueue_applyCueRequest (bank mode m1 m2 : Byte) : Owner.KeepsQueue (applyCueRequest bank mode m1 m2) := by
  refine keepsQueue_withBank fun b => ?_
  dsimp only
  split
  · exact fun _ => rfl
  · refine keepsQueue_withOpenCue fun w s => ?_
    split
    · rfl
    · have same := (State.applyCue_frame s b w .cut (mixMask m1 m2) .immediate).pending
      generalize s.applyCue b w .cut (mixMask m1 m2) .immediate = made at same ⊢
      exact same

theorem keepsQueue_queryCue (bank mix start : Byte) : Owner.KeepsQueue (queryCue bank mix start) := by
  intro s
  unfold queryCue
  split <;> rfl

theorem keepsQueue_queryScene (scene mix start : Byte) : Owner.KeepsQueue (queryScene scene mix start) := by
  intro s
  unfold queryScene
  split <;> rfl

/-! ## Every request row -/

/-- The owner of every request row leaves the waiting commands as they are. -/
theorem requestOwner_keepsQueue {i : Instr} {take : Owner} (h : requestOwner i = some take) : take.KeepsQueue := by
  cases i with
  | ident | status | reset => exact keepsQueue_zeroField (fun _ => rfl) h
  | noticeSet => exact withFields_all 2 keepsQueue_noticeSet h
  | format => exact withFields_all 8 keepsQueue_setFormat h
  | start => exact keepsQueue_zeroField keepsQueue_startEngine h
  | stop => exact keepsQueue_zeroField keepsQueue_stopEngine h
  | bindStream => exact withFields_all 6 keepsQueue_bindStream h
  | unbindStream => exact withFields_all 1 keepsQueue_unbindStream h
  | flushStream => exact withFields_all 1 keepsQueue_flushStream h
  | setStream => exact withFields_all 2 keepsQueue_setStream h
  | queryStream => exact withFields_all 1 keepsQueue_queryStream h
  | bindSlot => exact withFields_all 5 keepsQueue_bindSlot h
  | setSlot => exact withFields_all 3 keepsQueue_setSlot h
  | unbindSlot => exact withFields_all 1 keepsQueue_unbindSlot h
  | querySlot => exact withFields_all 1 keepsQueue_querySlot h
  | mixSetLive | mixSetCue =>
    exact withFields_all 10 (fun _ _ c d e f g h i j =>
      keepsQueue_editTarget (keepsQueue_mixSetLive c d e f g h i j) fun k => keepsQueue_mixSetCue k c d e f g h i) h
  | addSendLive | addSendCue =>
    exact withFields_all 8 (fun _ _ c d e f g h =>
      keepsQueue_editTarget (keepsQueue_addSendLive c d e f g h) fun k => keepsQueue_addSendCue k c d e f g h) h
  | setSendLive | setSendCue =>
    exact withFields_all 9 (fun _ _ c d e f g h i =>
      keepsQueue_editTarget (keepsQueue_setSendLive c d e f g h i) fun k => keepsQueue_setSendCue k c d e f g h i) h
  | removeSendLive | removeSendCue =>
    exact withFields_all 4 (fun _ _ c d =>
      keepsQueue_editTarget (keepsQueue_removeSendLive c d) fun k => keepsQueue_removeSendCue k c d) h
  | setTrim => exact withFields_all 5 keepsQueue_setTrim h
  | queryMix => exact withFields_all 2 keepsQueue_queryMix h
  | openCue => exact withFields_all 2 keepsQueue_openCue h
  | takeLive => exact withFields_all 3 keepsQueue_takeLive h
  | storeCue => exact withFields_all 1 keepsQueue_storeCue h
  | closeCue => exact withFields_all 2 keepsQueue_closeCue h
  | applyCue => exact withFields_all 4 keepsQueue_applyCueRequest h
  | queryCue => exact withFields_all 3 keepsQueue_queryCue h
  | queryScene => exact withFields_all 3 keepsQueue_queryScene h
  | assignPack => exact withFields_all 3 keepsQueue_assignPack h
  | removePack => exact withFields_all 1 keepsQueue_removePack h
  | packText => exact keepsQueue_packTextOwner h
  | queryPack => exact withFields_all 1 keepsQueue_queryPack h
  | clickSet => exact withFields_all 6 (fun _ _ _ _ _ _ => keepsQueue_clickRequest _) h
  | clickStart | clickStop => exact keepsQueue_zeroField (keepsQueue_clickRequest _) h
  | meterSet => exact withFields_all 3 keepsQueue_meterSet h
  | queryCounters => exact withFields_all 3 keepsQueue_queryCounters h
  | powerOn | linkByteReceived | interByteGapExpiry | unknownKindRequest | transmitEnd | syncFrame | audioFrame
  | malformedStageFrame | syncWatchExpiry | holdoverTimerExpiry | announceWindowClose | grantedWindowClose
  | upstreamSignalAfterIdle => cases h

end Sys2Proof.Machine
end

section
/-! Every command completes: it answers a next state, in which the waiting commands are the same. -/

namespace Sys2Proof.Machine

/-! ## Requests and received bytes -/

theorem State.answer_pending (s : State) (kind tag : Byte) (a : Answer) : (s.answer kind tag a).pending = s.pending := by
  obtain ⟨_, _, _, _, _, _, _, _, pending, _⟩ := s.answer_frame kind tag a
  exact pending

theorem takeRequest_pending {o : Option Owner} (keeps : ∀ take, o = some take → take.KeepsQueue) (kind tag : Byte) (s : State) :
    (takeRequest kind tag o s).pending = s.pending := by
  rcases takeRequest_cases kind tag o s with full | ⟨e, refused⟩ | ⟨take, owner, _, decided⟩
  · rw [full, State.withLink_pending]
  · rw [refused]; exact State.reply_pending _ _ _ _ _
  · rw [decided, State.answer_pending]; exact keeps take owner s

theorem takeUnknownKind_pending (kind tag : Byte) (s : State) : (takeUnknownKind kind tag s).pending = s.pending := by
  unfold takeUnknownKind
  split <;> rfl

/-- An outcome that is a next state with this queue of waiting commands. -/
def Completes (o : Host.Outcome State Fault Refusal) (queue : List Instr) : Prop := ∃ t, o = .next t ∧ t.pending = queue

/-- A request row, of a known or an unknown kind, completes. -/
theorem exec_request_completes {i : Instr} {kind : Byte} (hk : kindOf i = some kind) (s : State) :
    Completes (exec i s) s.pending := by
  obtain ⟨tag, unknown | known⟩ := exec_request_cases hk s
  · exact ⟨_, unknown, takeUnknownKind_pending kind tag s⟩
  · exact ⟨_, known, takeRequest_pending (fun _ owner => requestOwner_keepsQueue owner) kind tag s⟩

theorem State.takeBody_completes (s : State) (body : List Byte) : Completes (s.takeBody body) s.pending := by
  rcases s.takeBody_eq body with ⟨i, kind, hk, request⟩ | short
  · rw [request]; exact exec_request_completes hk s
  · exact ⟨s, short, rfl⟩

/-- A received byte is taken, discards a frame, or completes a body, which may be a request. -/
theorem exec_byte_completes (time : Time) (b : Byte) (s : State) : Completes (exec (.linkByteReceived time b) s) s.pending := by
  cases event : (s.link.settleGap time).rx.receive time b with
  | mk rx e =>
    cases e with
    | taken => exact ⟨_, exec_byte_taken event, rfl⟩
    | discarded => exact ⟨_, exec_byte_discarded event, rfl⟩
    | complete body => rw [exec_byte_complete event]; exact State.takeBody_completes _ body

/-! ## Stage frames and timers -/

theorem State.mixingBoundary_pending (s : State) (c : Clock) (n : BlockNo) (relocked : Bool) :
    (s.mixingBoundary c n relocked).pending = s.pending := by
  obtain ⟨_, _, _, pending⟩ := s.mixingBoundary_frame c n relocked
  exact pending

theorem State.stoppingBoundary_pending (s : State) (t : Time) (bySync : Bool) :
    (s.stoppingBoundary t bySync).pending = s.pending := by
  obtain ⟨_, _, _, _, pending, _⟩ := s.stoppingBoundary_frame t bySync
  exact pending

theorem State.syncBoundary_pending (s : State) (f : Format) (t : Time) (block : BlockNo) :
    (s.syncBoundary f t block).pending = s.pending := by
  unfold State.syncBoundary
  dsimp only
  split
  · exact s.stoppingBoundary_pending t true
  · split
    · exact s.mixingBoundary_pending _ _ false
    · exact s.mixingBoundary_pending _ _ true

theorem State.ownSync_pending (s : State) (f : Format) (t : Time) (block : BlockNo) :
    (s.ownSync f t block).pending = s.pending := by
  unfold State.ownSync
  split
  case h_1 => exact s.mixingBoundary_pending _ _ false
  case h_2 =>
    split
    · rfl
    · exact s.syncBoundary_pending f t block
  case h_3 =>
    split
    · rfl
    · exact s.syncBoundary_pending f t block
  case h_4 => rfl
  case h_5 => rfl

theorem State.takeSync_pending (s : State) (t : Time) (id : StreamId) (block : BlockNo) :
    (s.takeSync t id block).pending = s.pending := by
  unfold State.takeSync
  split
  · rfl
  · split
    · rfl
    · split
      · exact s.ownSync_pending _ t block
      · rfl

theorem State.windowAndStore_pending (s : State) (i : Fin 8) (r : Stream) (damaged : Bool) (f : List Byte) :
    (s.windowAndStore i r damaged f).pending = s.pending := by
  unfold State.windowAndStore
  dsimp only
  repeat' split
  all_goals rfl

theorem State.takeAudio_pending (s : State) (f : List Byte) : (s.takeAudio f).pending = s.pending := by
  unfold State.takeAudio
  dsimp only
  repeat' split
  case h_2.isFalse.isFalse.isFalse => exact s.windowAndStore_pending _ _ _ f
  all_goals rfl

theorem State.stageFrame_pending (s : State) (t : Time) (f : List Byte) : (s.stageFrame t f).pending = s.pending := by
  unfold State.stageFrame
  split
  · rfl
  · split
    · exact s.takeAudio_pending f
    · split
      · split
        · exact s.takeSync_pending t _ _
        · rfl
      · rfl

theorem State.timerExpiry_pending (s : State) (e : EngineState) : (s.timerExpiry e).pending = s.pending := by
  unfold State.timerExpiry
  split
  · split
    · unfold State.expire
      split
      · exact s.stoppingBoundary_pending _ false
      · exact s.mixingBoundary_pending _ _ false
    · rfl
  · rfl

/-! ## Every command -/

theorem exec_signalAfterIdle_completes (s : State) : Completes (exec .upstreamSignalAfterIdle s) s.pending := by
  refine ⟨_, rfl, ?_⟩
  split <;> rfl

theorem exec_completes (c : Instr) (s : State) : Completes (exec c s) s.pending := by
  cases kind : kindOf c with
  | some k => exact exec_request_completes kind s
  | none =>
    cases c
    case powerOn | interByteGapExpiry | transmitEnd => exact ⟨_, rfl, rfl⟩
    case linkByteReceived time b => exact exec_byte_completes time b s
    case syncFrame time f | audioFrame time f | malformedStageFrame time f => exact ⟨_, rfl, s.stageFrame_pending time f⟩
    case syncWatchExpiry | holdoverTimerExpiry => exact ⟨_, rfl, s.timerExpiry_pending _⟩
    case announceWindowClose heard => exact ⟨_, rfl, (s.closeAnnounce_window heard).pending⟩
    case grantedWindowClose heard => exact ⟨_, rfl, (s.closeGrantedWindow_window heard).pending⟩
    case upstreamSignalAfterIdle => exact exec_signalAfterIdle_completes s
    all_goals cases kind

/-- Settles O2: a command is a request, a byte that may complete one, or an event of stage port, timers and pack line. -/
theorem everyCommandCompletes : Obligations.EveryCommandCompletes := exec_completes

end Sys2Proof.Machine
end
